-- ==== Sys2Proof/Word.lean ====
section
/-! DEFINITION. Word.lean: the machine's word and byte, and nothing else. -/

namespace Sys2Proof

/-- A register: 32 bits (R422). -/
abbrev Word := BitVec 32

/-- A byte of flash or of a port. -/
abbrev Byte := BitVec 8

end Sys2Proof
end

