-- ==== Sys2Proof/Syntax.lean ====
section
/-! DEFINITION. Syntax.lean: the commands of the block, one constructor per row of spec/opcode_table.json. A row that a host
causes carries the host (0 HOSTA, 1 HOSTB, 2 HOSTC) and what it writes; a row that the board or the analogue side causes
carries what was converted, measured or received; a row that the device itself reaches carries the instance it concerns. -/

namespace Sys2Proof

/-- What the two pulls of R315 find on PALIVE. -/
inductive Pal where
  | undriven | low | high
  deriving DecidableEq, Repr

/-- The base registers of R41. -/
inductive BaseReg where
  | railVbaseMv (r : Fin 16)
  | railVscale (r : Fin 16)
  | railIbaseMa (r : Fin 16)
  | phIbaseMa (p : Fin 48)
  | phIscale (p : Fin 48)
  deriving DecidableEq, Repr

/-- The four voltage limits of a rail (R242). -/
inductive VLim where
  | ov | uv | xov | xuv
  deriving DecidableEq, Repr

/-- The strap levels (R411). -/
structure Straps where
  clksel : Bool
  role : Bool
  ownsel : Bool
  addr0 : Bool
  addr1 : Bool
  deriving DecidableEq, Repr

/-- Item of a correction slice (R311), with numbers in place of their bytes. -/
inductive Corr where
  | nothing
  | stage (e : Int) (m : List Int)
  | rtab (entries : List Int)
  | rail (ref ifilt : Nat) (alpha : Word) (w : Nat)
  | phase (pst : Nat) (est : Bool) (obs : Int) (dth dtl : Nat)
  | cup (theta pos : Nat)
  deriving DecidableEq, Repr

/-- A deskmate frame (R306), field by field. A write slot is a 16-bit address and 32-bit data. -/
structure LinkFrame where
  role : Bool
  pst : Nat
  hb : BitVec 16
  alvLevel : Bool
  alvLeft : Nat
  stamp : Nat
  cfgd : Word
  dutyd : List Nat
  cls4 : Bool
  locked : Bool
  devState : Nat
  handover : Bool
  prst : Bool
  lastSrc : Nat
  cnt3 : Nat
  rstate : List Nat
  pcnt : Nat
  wr : List (BitVec 16 × Word)
  corr : Corr
  deriving DecidableEq, Repr

/-- A gang frame (R326): STOPALL, frame count, four slots of (state, reference). -/
structure GangFrame where
  stopAll : Bool
  count : Nat
  slots : List (Nat × Int)
  deriving DecidableEq, Repr

/-- Instructions of the test access port (R452); `other` is every code that spells none of these. -/
inductive TapInstr where
  | bypass | idcode | sample | extest | clamp | highz | other
  deriving DecidableEq, Repr

/-- A test-port operation (R452): an instruction is loaded, the data register is scanned with the bits shifted in, or the port
is reset by TRSTn. -/
inductive TapOp where
  | load (i : TapInstr)
  | scan (bits : List Bool)
  | trst
  deriving DecidableEq, Repr

/-- What a trip input shows at consecutive CKS edges (R131), oldest first: the level on a TRIPn ball, or the voltage a
comparator sees, of which the first `old` were taken under the threshold before the latest change. -/
inductive TripWave where
  | pin (levels : List Pal)
  | comp (old : Nat) (volts : List Rat)
  deriving DecidableEq, Repr

/-- The commands of the block. -/
inductive Instr where
  /-- FRAME_TICK (R70): At each CKF edge the frame counter advances, and every per-frame evaluation of the device runs.
  `wires`: bytes that the unit in progress on HPA, HPB, HPC and the stage bus has completed by this edge. -/
  | frameTick (abs : List (BitVec 14)) (cm : List Bool) (palive : Pal) (trips : List Pal) (pattern : Bool)
    (wires : List Nat := [])
  /-- CLK_FRAME_LO_READ (R73): A read of CLK_FRAME_LO copies the upper 32 bits of the frame counter into the reading host's snapshot. -/
  | clkFrameLoRead (h : Fin 3)
  /-- REFERENCE_LOSS (R64): No reference edge arrives for t_REFTO, which is detected as a clock loss. -/
  | referenceLoss
  /-- PLL_UNLOCK (R64): The PLL lock detector reports out of lock for 8 reference cycles, which is detected as a clock loss. -/
  | pllUnlock
  /-- PLL_RELOCK (R66): The reference returns and the PLL relocks; the derived clocks restart and the clock-loss messages are raised. -/
  | pllRelock
  /-- RC_MEASUREMENT (R68): Every 1000 frames the RC oscillator is counted against CKF, and RCOK is updated and CLK_RC_FAIL raised or cleared. -/
  | rcMeasurement (count : Nat)
  /-- PH_CFG_WRITE (R34): A PH_CFG write is checked and, if accepted, reassigns the phase and updates the assignment and domain maps. -/
  | phCfgWrite (h : Fin 3) (p : Fin 48) (w : Word)
  /-- RAIL_CFG_WRITE (R20): A RAIL_CFG write is checked against structure, feed-forward, limit and cost rules and, if accepted, replaces the rail configuration. -/
  | railCfgWrite (h : Fin 3) (r : Fin 16) (w : Word)
  /-- BASE_REGISTER_WRITE (R41): A write to a rail or phase base register is accepted only while its rail is in OFF and its page is unlocked. -/
  | baseRegisterWrite (h : Fin 3) (reg : BaseReg) (w : Word)
  /-- WINDOW_CONVERSION (R76): A tracking window conversion completes, either in window or out of window. -/
  | windowConversion (r : Fin 16) (w : BitVec 10)
  /-- VS_WINDOW (R77): 16 consecutive out-of-window conversions raise VS_WINDOW once. -/
  | vsWindow (r : Fin 16)
  /-- VS_RANGE (R79): 4 consecutive absolute conversions at full scale or out of common mode make VS_RANGE stand, or 4 without either clear it. -/
  | vsRange (r : Fin 16)
  /-- VS_FAIL (R79): 8 consecutive disagreements between the absolute and window voltages make VS_FAIL stand, or 8 agreements clear it. -/
  | vsFail (r : Fin 16)
  /-- VOLTAGE_MEASUREMENT_END (R90): The last window conversion of a voltage measurement completes, and the measurement is handed to the loop engine. -/
  | voltageMeasurementEnd (r : Fin 16)
  /-- CONTROL_CONVERSION_START (R88): The scheduler finds a phase's count at its control-sample target minus LEAD and starts the control conversion. -/
  | controlConversionStart (p : Fin 48) (count : Nat)
  /-- CONTROL_CONVERSION_END (R139): A phase control conversion completes, and its sample is handed to the current-loop and balance contexts. -/
  | controlConversionEnd (p : Fin 48) (code : BitVec 12)
  /-- OFFSET_MEASUREMENT (R83): The 256-conversion offset measurement in PRECHECK completes, writes PH_IOFS and may raise IS_OFFSET. -/
  | offsetMeasurement (p : Fin 48) (codes : List (BitVec 12))
  /-- AUX_CONVERSION (R94): An auxiliary SAR slot completes and writes its channel's result. -/
  | auxConversion (v : BitVec 16)
  /-- AUX_RANGE (R95): 4 consecutive full-scale conversions of an AUX channel make AUX_RANGE stand, or 4 below full scale clear it. -/
  | auxRange (n : Fin 16)
  /-- SAR_SELF_CHECK (R95): Every 100 µs the internal reference is converted and checked, and SAR_SELF stands or clears after 2 consecutive results. -/
  | sarSelfCheck (code : BitVec 14)
  /-- SPA_CONVERSION (R96): An analogue setpoint conversion completes and updates the filtered setpoint, raising SPA_RANGE at full scale. -/
  | spaConversion (n : Fin 4) (raw : BitVec 14)
  /-- SPP_PERIOD_MEASURED (R97): A pulse setpoint period is measured and either updates the setpoint or is discarded as invalid.
  `high`: length in CNT of the high level from the rising edge on; `rest`: the levels after it, each with its length. -/
  | sppPeriodMeasured (n : Fin 4) (high : Nat) (rest : List (Bool × Nat))
  /-- SPP_LOSS (R97): No edge arrives for TOUT frames, or 4 periods are invalid, and SPP_LOSS is raised.
  `levels`: the levels of the pin since the rising edge that ended the last measured period, each with its length in CNT. -/
  | sppLoss (n : Fin 4) (levels : List (Bool × Nat) := [])
  /-- GRIDZC_EDGE (R100): A filtered rising GRIDZC edge is accepted, time-stamped and classified by the angle tracker.
  `high`: length in CNT for which the pin stays high from the raw transition on. -/
  | gridzcEdge (frame cnt : Nat) (high : Nat := 4000)
  /-- GRID_LOCK (R194): LCNT reaches LOCKN, LOCK is set and GRID_LOCK is raised. -/
  | gridLock
  /-- MISSED_PERIOD (R195): No valid edge arrives in the expected time, and MCNT advances. -/
  | missedPeriod
  /-- GRID_UNLOCK (R195): MCNT reaches NMISS, or a phase error exceeds UNLK, and lock is lost into holdover. -/
  | gridUnlock
  /-- CAPTURE_ARM (R102): A write of SAMP_CAPCTL.ARM = 1 takes the capture buffer and starts a capture. -/
  | captureArm (h : Fin 3)
  /-- CAPTURE_RELEASE (R102): A write of ARM = 0 releases the capture buffer. -/
  | captureRelease (h : Fin 3)
  /-- CAPTURE_TICK (R101): At each capture tick the latest result of every selected channel is stored in the buffer. -/
  | captureTick
  /-- CAPTURE_DONE (R103): The post-trigger samples are complete, STATE becomes DONE and CAP_DONE is raised. -/
  | captureDone
  /-- CAPDATA_READ (R102): A read of SAMP_CAPDATA returns two samples and advances the pointer, and is rejected while the capture runs. -/
  | capdataRead (h : Fin 3)
  /-- PERIOD_BOUNDARY (R107): A generator's counter reaches its active period and returns to 0. -/
  | periodBoundary (p : Fin 48) (nodeH nodeL : List (Nat × Rat))
  /-- DELAY_LINE_CALIBRATION (R118): A calibration update of a delay line takes effect, and DLOK and PH_DLCAL change as calibration is lost or regained. -/
  | delayLineCalibration (p : Fin 48) (ok : Bool)
  /-- PH_LOAD (R122): A write of PH_LOAD.LOAD = 1 requests transfer of the shadow set at the next boundary. -/
  | phLoad (h : Fin 3) (p : Fin 48)
  /-- PH_PER_WRITE (R124): A PH_PER write is checked against the pending compare and offset and the rail limits, and sets the pending period. -/
  | phPerWrite (h : Fin 3) (p : Fin 48) (w : Word)
  /-- PH_CMP_WRITE (R124): A PH_CMP write is checked against the pending period and sets the pending compare. -/
  | phCmpWrite (h : Fin 3) (p : Fin 48) (w : Word)
  /-- PH_OFS_WRITE (R119): A PH_OFS write is checked against the pending period and sets the pending offset. -/
  | phOfsWrite (h : Fin 3) (p : Fin 48) (w : Word)
  /-- PH_DT_WRITE (R125): A PH_DT write sets the pending dead times, which the engine includes in its next set while the rail runs. -/
  | phDtWrite (h : Fin 3) (p : Fin 48) (w : Word)
  /-- PH_ENABLE (R27): A write of PH_CTL.EN = 1 makes the generator available or starts a manual-duty phase. -/
  | phEnable (h : Fin 3) (p : Fin 48) (minpw : BitVec 8)
  /-- PH_DISABLE (R127): A write of PH_CTL.EN = 0 puts both outputs in high impedance and makes the phase unavailable. -/
  | phDisable (h : Fin 3) (p : Fin 48) (minpw : BitVec 8)
  /-- GENERATOR_START (R119): A generator begins its first period PH_OFS after its reference instant, leaving high impedance. -/
  | generatorStart (p : Fin 48)
  /-- TRIP_ACCEPT (R132): A trip input completes its filter, latches and puts every mapped phase in high impedance. -/
  | tripAccept (n : Fin 24) (wave : TripWave := .pin [])
  /-- TRIP_CLR (R134): A TRIP_CLR write clears the named trip latches, or is rejected if an input is still active. -/
  | tripClr (h : Fin 3) (w : Word)
  /-- ENGINE_UPDATE (R148): A queued context update runs on a lane and writes its results or shadow set. -/
  | engineUpdate (latency : Nat) (displaced : Bool) (lane : Fin 8 := 0)
  /-- ENGINE_PARITY_ERROR (R165): A parity error on state or coefficient memory suppresses the update and raises ENG_PARITY. -/
  | engineParityError (addr : Nat)
  /-- RCOMP_COMMIT (R158): A write of RCOMP_CTL.COMMIT = 1 checks the pending bank and either commits it or sets PEND. -/
  | rcompCommit (h : Fin 3) (r : Fin 16) (luten : Bool)
  /-- BANK_SWITCH (R159): At the first voltage-loop update after acceptance, or at entry to an idle state, the active bank changes and ENG_COMMIT is raised. -/
  | bankSwitch (r : Fin 16)
  /-- BANK_COPY_BACK (R159): The new active bank is copied into the pending bank, and PEND clears. -/
  | bankCopyBack (r : Fin 16)
  /-- ENGINE_HALT (R161): A write of ENG_DBG.HALT = 1 freezes the generators, halts the engine and raises ENG_HALT. -/
  | engineHalt (h : Fin 3)
  /-- ENGINE_RELEASE (R163): A write of HALT = 0 releases the engine and restarts the generators. -/
  | engineRelease (h : Fin 3)
  /-- ENG_STDAT_READ (R162): A read of ENG_STDAT returns the selected state word while the engine is halted, or is rejected with BUSY. -/
  | engStdatRead (h : Fin 3)
  /-- ENG_CLEAR_OVERRUN (R141): A write of ENG_CLR.OVR = 1 clears ENG_OVRCNT. -/
  | engClearOverrun (h : Fin 3)
  /-- ENG_CLEAR_LATENCY (R145): A write of ENG_CLR.LAT = 1 clears ENG_LAT. -/
  | engClearLatency (h : Fin 3)
  /-- ENG_CLEAR_PEAK (R140): A write of ENG_CLR.PEAK = 1 clears the utilisation and queue peaks. -/
  | engClearPeak (h : Fin 3)
  /-- ENG_UTIL_WINDOW (R138): A utilisation window of ENG_WIN frames ends, and ENG_UTIL is updated. -/
  | engUtilWindow
  /-- RAIL_SRC_WRITE (R167): A RAIL_SRC write is checked for state, tracking loops and input enables, and selects the target source. -/
  | railSrcWrite (h : Fin 3) (r : Fin 16) (w : Word)
  /-- RAIL_START (R173): A write of RAIL_CMD.START = 1 is checked and makes a start pending. -/
  | railStart (h : Fin 3) (r : Fin 16)
  /-- RAIL_STOP (R180): A write of RAIL_CMD.STOP = 1 stops or cancels the rail according to its state. -/
  | railStop (h : Fin 3) (r : Fin 16)
  /-- RAIL_CLR (R183): A write of RAIL_CMD.CLR = 1 moves a FAULTED rail to OFF once its sources have cleared. -/
  | railClr (h : Fin 3) (r : Fin 16)
  /-- PRECHECK_ENTRY (R174): At the frame after a start, the rail enters PRECHECK and begins the offset measurement and short check. -/
  | precheckEntry (r : Fin 16)
  /-- SHORT_CHECK_RESULT (R251): The 256-sample short check completes, sets SCRES and raises PH_HS_SHORT for phases found high. -/
  | shortCheckResult (r : Fin 16) (nodes : List (List Rat))
  /-- PREBIAS_ENTRY (R174): The rail enters PREBIAS at the frame after both pre-start checks have completed without a blocking fault. -/
  | prebiasEntry (r : Fin 16)
  /-- RAMP_ENTRY (R175): The PREBIAS average completes, and the rail enters RAMP with its start-up preload. -/
  | rampEntry (r : Fin 16)
  /-- LIMIT_ENTRY (R178): NENT consecutive clamped updates put the rail in LIMIT and raise RAIL_LIMIT. -/
  | limitEntry (r : Fin 16)
  /-- RAIL_STOPTO (R181): STOPPING lasts RAIL_STOPTMAX frames, the rail enters OFF and RAIL_STOPTO is raised. -/
  | railStopto (r : Fin 16)
  /-- RESTART_DELAY_EXPIRY (R183): The restart delay ends, and the rail either waits to restart or raises RAIL_RSTMAX. -/
  | restartDelayExpiry (r : Fin 16)
  /-- AUTOMATIC_RESTART (R183): Once every source that faulted the rail has cleared, the rail increments NRST, enters OFF and is started. -/
  | automaticRestart (r : Fin 16)
  /-- DOMAIN_START (R184): A write of a DOM_CMD.START bit checks the domain's rails and starts its rank sequence. -/
  | domainStart (h : Fin 3) (d : Fin 4)
  /-- DOMAIN_STOP (R185): A write of a DOM_CMD.STOP bit cancels pending starts and begins the descending stop sequence. -/
  | domainStop (h : Fin 3) (d : Fin 4)
  /-- SEQUENCE_RANK_START (R184): A rail of a higher rank starts DLY × 10 µs after the lower ranks have settled. -/
  | sequenceRankStart (r : Fin 16)
  /-- SEQUENCE_RANK_STOP (R185): A rail of a lower rank receives STOP DLY × 10 µs after the higher ranks have reached OFF or FAULTED. -/
  | sequenceRankStop (r : Fin 16)
  /-- RAIL_SEQTO (R186): A rank does not settle within DOM_SEQTO frames, the sequence is abandoned and RAIL_SEQTO is raised. -/
  | railSeqto (d : Fin 4)
  /-- RAIL_FOLLOW (R187): The following-error count exceeds FETIME, RAIL_FOLLOW is raised and FEACT is set. -/
  | railFollow (r : Fin 16)
  /-- FOLLOWING_ERROR_REARM (R187): The error stays within FELIM for FETIME frames, FEACT clears and the source is armed again. -/
  | followingErrorRearm (r : Fin 16)
  /-- RTAB_ENTRY_WRITE (R197): An RTAB_Ej write sets two ripple-table entries, subject to the learning and bounds checks. -/
  | rtabEntryWrite (h : Fin 3) (r : Fin 16) (j : Fin 128) (w : Word)
  /-- RTAB_ZERO (R201): A write of RTAB_LCTL.ZERO = 1 clears the whole ripple table. -/
  | rtabZero (h : Fin 3) (r : Fin 16) (freeze learn : Bool)
  /-- PHASE_SHED (R212): The shed count reaches DWSHED, and the last eligible ACTIVE phase becomes SHED. -/
  | phaseShed (r : Fin 16)
  /-- PHASE_ADD (R212): The add count reaches DWADD, and the first SHED phase becomes ACTIVE. -/
  | phaseAdd (r : Fin 16)
  /-- PH_TRIMSAT (R216): A trim stands at a bound for 1024 balance updates, TSAT is set and PH_TRIMSAT is raised. -/
  | phTrimsat (p : Fin 48)
  /-- DRIP_ENTRY (R218): The light-load condition holds for DWSHED frames, and the rail enters DRIP with held duties. -/
  | dripEntry (r : Fin 16)
  /-- RAIL_BRAKETO (R223): BRAKEMAX frames pass in BRAKE, the rail returns to REGULATE and RAIL_BRAKETO is raised. -/
  | railBraketo (r : Fin 16)
  /-- PH_SENSE_IMPL (R226): NCNT reaches NSENSE, and PH_SENSE_IMPL is raised. -/
  | phSenseImpl (p : Fin 48)
  /-- PH_OPEN (R228): OCNT reaches NOPEN, and PH_OPEN is raised. -/
  | phOpen (p : Fin 48)
  /-- CBC_PULSE_END (R236): A guard's comparator is true outside blanking; the guarded pulse ends and the counters update. -/
  | cbcPulseEnd (p : Fin 48) (rev : Bool) (t : Nat) (v : Rat := 0)
  /-- VOLTAGE_LIMIT_STANDS (R243): A terminal voltage is beyond its limit for OVT or UVT frames, and its source is raised. -/
  | voltageLimitStands (r : Fin 16) (lim : VLim)
  /-- VOLTAGE_LIMIT_CLEARS (R243): The voltage stays within the limit by HYS for the required frames, and the condition stops standing. -/
  | voltageLimitClears (r : Fin 16) (lim : VLim)
  /-- THERMAL_LIMIT_STANDS (R246): The thermal value is beyond WARN or TRIP for 64 frames, and RAIL_TWARN or RAIL_OT stands. -/
  | thermalLimitStands (r : Fin 16) (trip : Bool)
  /-- THERMAL_LIMIT_CLEARS (R246): The thermal value is back inside by HYS for 64 frames, and the condition stops standing. -/
  | thermalLimitClears (r : Fin 16) (trip : Bool)
  /-- DIE_TEMPERATURE_GUARD (R248): 4 consecutive die-temperature conversions beyond a fixed level make DEV_TWARN or DEV_TSHUT stand or clear. -/
  | dieTemperatureGuard
  /-- DEV_SUPPLY (R297): 4 consecutive internal supply conversions outside range make DEV_SUPPLY stand, or 4 within clear it. -/
  | devSupply (n : Fin 3)
  /-- CUP_START (R262): A write of CUP_CMD.START = 1 is checked and starts injection and measurement. -/
  | cupStart (h : Fin 3)
  /-- CUP_STOP (R263): A write of CUP_CMD.STOP = 1 ends the injection at the next zero and raises CUP_ABORT. -/
  | cupStop (h : Fin 3)
  /-- CUP_ARST (R266): A write of CUP_CMD.ARST = 1 resets the rail's α to 1.0. -/
  | cupArst (h : Fin 3)
  /-- CUP_REL (R264): A write of CUP_CMD.REL = 1 releases the capture buffer held by a sweep. -/
  | cupRel (h : Fin 3)
  /-- CUP_MEASUREMENT_DONE (R259): The integration of one measurement completes, and its gain and phase results are written. -/
  | cupMeasurementDone
  /-- INJECTION_END (R263): The injection reaches the next zero of its sine or ends at once, raising CUP_DONE or CUP_ABORT. -/
  | injectionEnd
  /-- FAULT_ACCEPT (R275): The arbiter accepts one pending message, stamps it and applies its class action. -/
  | faultAccept
  /-- FC_LAT_CLEAR (R285): A write of 1 to FC_LAT bits clears those latches, or is rejected if a named source stands. -/
  | fcLatClear (h : Fin 3) (k : Fin 8) (w : Word)
  /-- FC_CLRFIRST (R286): A write of FC_CMD.CLRFIRST = 1 clears FC_FIRST and FC_OVF. -/
  | fcClrfirst (h : Fin 3)
  /-- FC_EXIT (R294): A write of FC_CMD.EXIT = 1 is checked and leaves SAFE for IDLE. -/
  | fcExit (h : Fin 3)
  /-- FAULT_INJECT (R288): A PG_FORCE write raises one injected message for each bit set. -/
  | faultInject (h : Fin 3) (pg : BitVec 8) (w : Word)
  /-- COLLECTOR_SELF_FAULT (R292): A collector parity error or arbiter disagreement bypasses the arbiter and enters SAFE with FC_SELF. -/
  | collectorSelfFault
  /-- ALIVE_TOGGLE (R293): HALF frames pass, and ALIVE toggles while no class 4 or higher action is in force. -/
  | aliveToggle
  /-- DESKMATE_FRAME_RECEIVE (R307): A deskmate frame completes and is judged valid or invalid. -/
  | deskmateFrameReceive (f : LinkFrame) (sync crc : Bool) (arrival : Nat) (edges : Nat := 1)
  /-- DESKMATE_FRAME_PROCESS (R309): At its next own frame edge the device processes a valid frame: rail states, pair state, corrections and mismatches. -/
  | deskmateFrameProcess
  /-- LINK_LOST (R317): LOSSCNT reaches 4 while the partner's ALIVE toggles, TWIN_LINK_LOST is raised and the roles degrade. -/
  | linkLost
  /-- FORMATION_TIMEOUT (R303): FORMTO elapses without a valid frame, and the device becomes SOLO or ORPHAN. -/
  | formationTimeout
  /-- DIGEST_COMPUTE (R313): Every 1000 frames the configuration digest is computed and compared with the partner's. -/
  | digestCompute
  /-- TWIN_DUTY_MISMATCH (R313): A rail's duty differs from the primary's beyond DTOL for DCNT comparisons, and TWIN_DUTY_MISMATCH is raised. -/
  | twinDutyMismatch (r : Fin 16)
  /-- TAKEOVER (R318): At an own frame edge with a takeover cause, the standby becomes the driving device. -/
  | takeover
  /-- TWIN_HANDOVER (R321): A write of TWIN_CMD.HANDOVER = 1 announces a planned handover for 8 frames. -/
  | twinHandover (h : Fin 3)
  /-- SWAP_EDGE (R321): The frame edge after the eighth announcement swaps the roles of the two devices. -/
  | swapEdge
  /-- TWIN_PRST (R323): A write of TWIN_CMD.PRST = 1 signals the partner to reset for 4 frames. -/
  | twinPrst (h : Fin 3)
  /-- TWIN_REJOIN (R323): A write of TWIN_CMD.REJOIN = 1 takes an ORPHAN device out of SAFE into STANDBY. -/
  | twinRejoin (h : Fin 3)
  /-- TWIN_COMMANDED_RESET (R323): The fourth received frame with PRST resets the device. -/
  | twinCommandedReset
  /-- GANG_FRAME_SEND (R326): At each fourth frame a gang leader sends a gang frame carrying its slot references. -/
  | gangFrameSend
  /-- GANG_FRAME_RECEIVE (R327): A follower receives a gang frame and applies the slot references and slot states. `start` is the CNT
  since reset, on the follower's own count, at which the frame began. -/
  | gangFrameReceive (f : GangFrame) (crc : Bool) (start : Nat := 0)
  /-- GANG_TIMEOUT (R328): TMO gang frames pass without a valid one, and the slot rails stop. -/
  | gangTimeout
  /-- NV_READ (R356): The READ command loads one flash page into NV_BUF. -/
  | nvRead (h : Fin 3)
  /-- NV_PROG (R356): The PROG command queues the programming of NV_BUF into a boot-area page. -/
  | nvProg (h : Fin 3)
  /-- NV_ERASE (R356): The ERASE command queues the erase of a boot-area sector. -/
  | nvErase (h : Fin 3)
  /-- NV_APPEND (R356): The APPEND command queues a host record. -/
  | nvAppend (h : Fin 3)
  /-- NV_FIND (R356): The FIND command loads the (IDX + 1)-th newest valid record of an ID into NV_BUF. -/
  | nvFind (h : Fin 3)
  /-- NV_FINDSEQ (R356): The FINDSEQ command loads the record with a given SEQ into NV_BUF. -/
  | nvFindseq (h : Fin 3)
  /-- NV_OPERATION_START (R339): When the array is free, the highest-priority queued flash operation starts. -/
  | nvOperationStart
  /-- PAGE_PROGRAM_DONE (R340): A page program completes and is verified, and on failure raises NV_PROG_FAIL. -/
  | pageProgramDone (ok : Bool)
  /-- SECTOR_ERASE_DONE (R341): A sector erase completes and is verified, and a sector that fails twice is retired. -/
  | sectorEraseDone (ok : Bool)
  /-- TALLY_BIT_DONE (R350): A tally bit program commits, NV_TALLYn updates, and a full page leads to a TBASE record. -/
  | tallyBitDone (ok : Bool)
  /-- TALLY_INCREMENT (R348): A tally count unit is reached, and a bit program is queued. -/
  | tallyIncrement (n : Fin 8)
  /-- POWER_FAIL (R355): A PWRFAILn fall abandons or completes the flash operation in progress and saves the last-state record. -/
  | powerFail
  /-- POWER_FAIL_RECOVER (R355): PWRFAILn stays high for 1000 frames, SAVED clears and the flash queue resumes. -/
  | powerFailRecover
  /-- SPI_FRAME_BEGIN (R361): A CSn fall begins an SPI frame and sets its mode. -/
  | spiFrameBegin (port : Fin 2) (mode3 : Bool) (hdr : List Byte)
  /-- SPI_WORD (R364): An SPI data word is presented to the register arbiter as one access. -/
  | spiWord (port : Fin 2) (w : Word)
  /-- SPI_FRAME_END (R365): A CSn rise ends the frame, and a partial word raises PARTIAL or HOST_FRAME. -/
  | spiFrameEnd (port : Fin 2) (bits : Nat)
  /-- HPC_POINTER_SET (R367): The first data byte of an HPC write transfer sets the offset pointer. -/
  | hpcPointerSet (ptr : Byte)
  /-- HPC_REGISTER_WRITE (R368): The fourth byte of an HPC register write presents the write, which is ACKed or NACKed. -/
  | hpcRegisterWrite (w : Word)
  /-- HPC_REGISTER_READ (R370): An HPC register read is fetched and sent, and commits its side effect when fully transmitted. -/
  | hpcRegisterRead (complete : Bool) (pecRead : Bool := false)
  /-- HPC_PEC_BYTE (R369): A PEC byte is checked, and the held write is applied or discarded with HOST_PEC. -/
  | hpcPecByte (b : Byte)
  /-- HPC_TRANSFER_END (R372): A STOP or START ends an HPC transfer, discarding any partial register. -/
  | hpcTransferEnd (bytes : Nat) (inByte : Bool)
  /-- HPC_SCL_TIMEOUT (R372): SCL held low beyond t_TOUT ends the transfer and raises HOST_FRAME. -/
  | hpcSclTimeout (bytes : Nat)
  /-- HOST_ERRCLR (R377): A write of HOST_ERRCLR.CLR = 1 clears the writing host's error register and event bit. -/
  | hostErrclr (h : Fin 3)
  /-- HOST_FRMCLR (R378): A write of HOST_FRMCLR.CLR = 1 clears HOST_FRMCNT. -/
  | hostFrmclr (h : Fin 3)
  /-- PG_ACL_WRITE (R373): An owner's PG_ACL write sets the guests' access to a page. -/
  | pgAclWrite (h : Fin 3) (pg : BitVec 8) (w : Word)
  /-- PAGE_SEL_WRITE (R375): A write of a host's page-select alias selects its current page. -/
  | pageSelWrite (h : Fin 3) (pg : BitVec 8) (w : Word)
  /-- PAGE_LOCK (R425): A PG_CTL write setting LOCK = 1 locks the RWL fields of the page. -/
  | pageLock (h : Fin 3) (pg : BitVec 8)
  /-- PAGE_UNLOCK (R425): A PG_CTL write clearing LOCK is accepted only directly after a read of PG_ID. -/
  | pageUnlock (h : Fin 3) (pg : BitVec 8)
  /-- PG_EVT_CLEAR (R427): A write of 1 to PG_EVT bits clears those event flags. -/
  | pgEvtClear (h : Fin 3) (pg : BitVec 8) (w : Word)
  /-- POLL_DUE (R385): An enabled poll entry's period expires, and the poll becomes due. -/
  | pollDue (n : Fin 64)
  /-- STAGE_BUS_TRANSFER_START (R389): The bus is free, and the controller starts the highest-priority pending item. -/
  | stageBusTransferStart (sdaLow : Bool) (sda : List Bool := [])
  /-- POLL_COMPLETE (R387): A poll transfer ends and updates the mailbox, or counts a failure. -/
  | pollComplete (acked : Bool) (data : List Byte) (pec : Byte) (sent : Nat := 0)
  /-- SB_ARBLOST (R392): The controller loses arbitration, releases the bus and retries after the winner's STOP. -/
  | sbArblost (sent : Nat := 0) (sda : List Bool := List.replicate 15 false)
  /-- BUS_RECOVERY (R393): Recovery clocks SCL and sends STOP, and SB_STUCK stands or clears. -/
  | busRecovery (sdaHigh sclHigh : Bool) (sda scl : List Bool := [])
  /-- STUCK_RECOVERY_RETRY (R393): Every 10 ms while SB_STUCK stands, recovery is tried again. -/
  | stuckRecoveryRetry (sdaHigh sclHigh : Bool) (sda scl : List Bool := [])
  /-- SB_HOST_TRANSACTION (R390): An SB_HCMD write queues one host transaction on the stage bus. -/
  | sbHostTransaction (h : Fin 3) (w : Word)
  /-- SB_HOST_TRANSACTION_DONE (R390): A host transaction ends, HBUSY clears and HRES reports the outcome. -/
  | sbHostTransactionDone (acked : Bool) (data : List Byte) (pec : Byte) (sent : Nat := 0)
  /-- SB_POLL_WRITE (R388): An SB_POLLn write reconfigures a poll entry from its next due poll. -/
  | sbPollWrite (h : Fin 3) (n : Fin 64) (w : Word)
  /-- SB_ENABLE (R393): A write setting SB_CFG.EN = 1 enables the controller and starts recovery. -/
  | sbEnable (h : Fin 3) (w : Word)
  /-- SB_DISABLE (R393): A write of EN = 0 abandons any transfer and releases the bus.
  `sent`: bytes that the transfer in progress has completed by then. -/
  | sbDisable (h : Fin 3) (w : Word) (sent : Nat := 0)
  /-- PERF_RUN (R402): A PERF_RUN write starts and stops the named counters together. -/
  | perfRun (h : Fin 3) (w : Word)
  /-- PERF_CLR (R402): A PERF_CLR write clears the named counters. -/
  | perfClr (h : Fin 3) (w : Word)
  /-- PERF_OVF_CLEAR (R401): A write of 1 to PERF_OVF bits clears those overflow flags. -/
  | perfOvfClear (h : Fin 3) (w : Word)
  /-- PERF_CTR_READ (R403): A read of PERF_CTRn snapshots counter n + 1 for the reading host. -/
  | perfCtrRead (h : Fin 3) (n : Fin 32)
  /-- PERF_WRAP (R401): The last counter of a chain wraps, setting its PERF_OVF bit and the OVF event. -/
  | perfWrap (n : Fin 32)
  /-- BANDWIDTH_WINDOW_END (R405): A bandwidth window ends, the byte results are latched and PERF_BWSEQ advances. -/
  | bandwidthWindowEnd
  /-- POWER_ON_RESET (R409): A supply falls below its threshold, POR asserts and every output goes to high impedance. -/
  | powerOnReset (vcoreLost : Bool)
  /-- RESETN (R411): An accepted RESETn low pulse asserts a reset. -/
  | resetn
  /-- TESTEN (R452): TESTEN held high holds the device in reset as RESETn does. -/
  | testen (level : Bool)
  /-- RESET_RELEASE (R413): The release of a reset starts BOOT. `lock` says whether a PLL that the reset restarted locks with it. -/
  | resetRelease (straps : Straps) (trimOk collectorOk flashOk : Bool) (lock : Bool := true)
  /-- BOOT_END (R419): BOOT completes, held messages and DEV_RESET are accepted, and the device enters IDLE, SAFE or LOCKED. -/
  | bootEnd (ticks : Nat) (powerLow : Bool := false)
  /-- DEV_GO (R420): A write of DEV_CMD.GO = 1 moves the device from IDLE to ACTIVE. -/
  | devGo (h : Fin 3)
  /-- DEV_IDLE (R420): A write of DEV_CMD.IDLE = 1 moves the device from ACTIVE to IDLE once every rail is in OFF. -/
  | devIdle (h : Fin 3)
  /-- DEV_SOFT_RESET (R420): A write of DEV_CMD.RST = 1 with the key performs a soft reset. -/
  | devSoftReset (h : Fin 3) (key : BitVec 8)
  /-- REGISTER_WRITE (R430): A write to a register without a row of its own is checked in order and sets its writable fields. -/
  | registerWrite (h : Fin 3) (addr : BitVec 16) (w : Word)
  /-- FREE_RUNNING_CONVERSION (R88): A free-running conversion of a phase current converter completes on its 4-CKS grid; it feeds IAVG, the observer and capture, and counts toward IS_RANGE. -/
  | freeRunningConversion (p : Fin 48) (code : BitVec 12)
  /-- BOUNDARY_SCAN (R452): A TCK-clocked operation of the IEEE 1149.1 test access port executes an instruction such as IDCODE, BYPASS, SAMPLE/PRELOAD or, with TESTEN high, EXTEST, CLAMP or HIGHZ. -/
  | boundaryScan (op : TapOp)
  deriving DecidableEq, Repr

end Sys2Proof
end

