-- ==== Sys2Proof/Decode.lean ====
section
/-! DEFINITION. Decode.lean: the command a word spells by the bits of spec/opcode_table.json. No row of that table gives bits
(its rows are register writes, bus and pin events and the device's own transitions), so no word spells a command. -/

namespace Sys2Proof

/-- The command spelled by a word of the table: none, for the table gives no row any bits. (DESIGN CHOICE, log entry 2) -/
def decodeTableWord (_nbits _w : Nat) : Option Instr := none

end Sys2Proof
end

