-- ==== Sys2Proof/Config.lean ====
section
/-! DEFINITION. Config.lean: the free values: what the spec leaves open. Each is a constant with no body, so no proof can lean on a value of it. -/

namespace Sys2Proof.Config

/-- The configuration digest of the covered registers in address order (R313): the CRC-32's parameters are not given. -/
opaque digestOf : List Word → Word

/-- How many bytes of a page program had been programmed when supply was lost or the device was reset (R344), by command. -/
opaque bytesDone : Nat → Nat

/-- What a byte reads that was being programmed at that instant (R344), or that stood in a sector whose erase was
abandoned (R345): command, address. -/
opaque looseByte : Nat → Nat → Byte

/-- What a failed page program (R340) or failed erase leaves in a byte: command, address. -/
opaque badByte : Nat → Nat → Byte

/-- How many pages a FIND scans (R406 counts them and no rule says how many), by command. -/
opaque pagesScanned : Nat → Nat

/-- CKB cycles that lie between a command and the one before it (R398): the spec gives commands no instant, by command. -/
opaque cyclesTo : Nat → Nat

/-- A result of which the spec states no value: a measurement whose scale or base is zero, a gain whose response is zero, HRES of
an abandoned stage bus transaction; by command. -/
opaque anyCode : Nat → Nat

/-- Hysteresis of the fast overvoltage comparator and of the switch-node comparator in volts: R106 gives a typical value only. -/
opaque vOvh : Rat
opaque vSwsh : Rat

/-- What a TRIPn ball reads that nothing drives and no pull holds (R131, R446): command, index. -/
opaque floatLevel : Nat → Nat → Bool

/-- JEP106 bank and identity code of IDCODE (R452), 11 bits. -/
opaque jepCode : Nat

/-- Length of the boundary register, the cell of an output in it, and what a cell captures (R452): the boundary-scan description
file gives them, not the spec. -/
opaque cellCount : Nat
opaque cellOf : Nat → Nat
opaque cellValue : Nat → Nat → Bool

end Sys2Proof.Config
end

