-- ==== Sys2Proof/Machine/Fmt.lean ====
section
/-! DEFINITION. Machine/Fmt.lean: bit fields, the register formats of R43-R50, rounding and saturation (R51, R52), the
BF24 encoding (R46, R457), the sparse stores the state is built from, and a few list helpers. -/

namespace Sys2Proof.Machine

/-! ### Bit fields -/

/-- Bits [hi:lo] of a register, as a number. -/
def fld (w : Word) (hi lo : Nat) : Nat := (w.toNat >>> lo) % 2 ^ (hi - lo + 1)

/-- Bit `i` of a register. -/
def bit (w : Word) (i : Nat) : Bool := w.toNat.testBit i

/-- A Bool as a number. -/
def b2n (b : Bool) : Nat := if b then 1 else 0

/-- A register put together from (value, low bit) parts; each value is already within its field. -/
def pack (parts : List (Nat × Nat)) : Word :=
  BitVec.ofNat 32 (parts.foldl (fun a p => a + p.1 * 2 ^ p.2) 0)

/-- The number of a mask of bits: bit `i` is set where `f i` holds, for `i < n`. -/
def maskOf (n : Nat) (f : Nat → Bool) : Nat :=
  (List.range n).foldl (fun a i => if f i then a + 2 ^ i else a) 0

/-- The numbers below `n` whose bit is set. -/
def bitsOf (n : Nat) (w : Nat) : List Nat := (List.range n).filter fun i => w.testBit i

/-! ### Rounding and saturation (R51) -/

/-- Nearest integer, ties away from zero (R51). -/
def roundAway (q : Rat) : Int := if 0 ≤ q then ⌊q + 1 / 2⌋ else -⌊-q + 1 / 2⌋

/-- Saturation to [lo, hi]. -/
def clampI (lo hi x : Int) : Int := if x < lo then lo else if hi < x then hi else x

/-- Saturation of an exact value. -/
def clampR (lo hi x : Rat) : Rat := if x < lo then lo else if hi < x then hi else x

/-- A shift right of an integer, rounding to nearest with ties away from zero (R54, R56). -/
def shrAway (x : Int) (k : Nat) : Int :=
  let a := (x.natAbs + (2 ^ k) / 2) / 2 ^ k
  if x < 0 then -(a : Int) else a

/-- 2^e. -/
def pow2 (e : Int) : Rat := if 0 ≤ e then ((2 ^ e.toNat : Nat) : Rat) else 1 / ((2 ^ (-e).toNat : Nat) : Rat)

/-! ### PU16 and SPU16 (R43, R45) -/

/-- A 16-bit code as a two's-complement number. -/
def s16 (c : Nat) : Int := if c % 65536 < 32768 then ((c % 65536 : Nat) : Int) else ((c % 65536 : Nat) : Int) - 65536

/-- The 16-bit code of a number within SPU16. -/
def c16 (x : Int) : Nat := (x % 65536).toNat

/-- The value in pu of a PU16 code. -/
def pu (c : Nat) : Rat := (c : Rat) / 16384

/-- The value in pu of an SPU16 number (already signed). -/
def puI (x : Int) : Rat := (x : Rat) / 16384

/-- The PU16 code of a value in pu (R51; a negative quantity reads 0, R45). -/
def toPU16 (q : Rat) : Nat := (clampI 0 65535 (roundAway (q * 16384))).toNat

/-- The SPU16 number of a value in pu (R51). -/
def toSPU16 (q : Rat) : Int := clampI (-32768) 32767 (roundAway (q * 16384))

/-- The signed difference of two angles (R48). -/
def angDiff (a b : Nat) : Int := s16 ((a + 65536 - b % 65536) % 65536)

/-! ### BF24 (R43, R46, R457) -/

/-- Mantissa of a BF24 code. -/
def bfM (w : Word) : Int := let m := fld w 23 6; if m < 131072 then (m : Int) else (m : Int) - 262144

/-- Exponent of a BF24 code. -/
def bfE (w : Word) : Int := let e := fld w 5 0; if e < 32 then (e : Int) else (e : Int) - 64

/-- Value of a BF24 code. -/
def bf (w : Word) : Rat := (bfM w : Rat) * pow2 (bfE w - 17)

/-- The BF24 code of a mantissa and an exponent. -/
def bfCode (m e : Int) : Word := BitVec.ofNat 32 ((m % 262144).toNat * 64 + (e % 64).toNat)

/-- floor(log2 q) of a positive value. -/
def floorLog2 (q : Rat) : Int :=
  let e : Int := (Nat.log2 q.num.natAbs : Int) - (Nat.log2 q.den : Int)
  if pow2 e ≤ q then e else e - 1

/-- The normalised BF24 code of an exact value, by the encoding steps of R457 and the text of R47. -/
def toBF (x : Rat) : Word :=
  if x = 0 then 0 else
  let a := if x < 0 then -x else x
  let l := floorLog2 a
  -- the smallest E with a / 2^E < 1 (positive), or a / 2^E ≤ 1 (negative)
  let e0 : Int := if x < 0 ∧ pow2 l = a then l else l + 1
  let e := if e0 < -32 then -32 else e0
  let m := roundAway (x * pow2 (17 - e))
  if m = 131072 then
    if 31 < e + 1 then bfCode 131071 31 else bfCode 65536 (e + 1)
  else if m = -65536 ∧ -32 < e then bfCode (-131072) (if 32 < e then 31 else e - 1)
  else if 31 < e then (if x < 0 then bfCode (-131072) 31 else bfCode 131071 31)
  else bfCode m e

/-- A signed angle or field of `n` bits as a two's-complement number. -/
def sN (n c : Nat) : Int := if c % 2 ^ n < 2 ^ (n - 1) then ((c % 2 ^ n : Nat) : Int) else ((c % 2 ^ n : Nat) : Int) - 2 ^ n

/-! ### Sparse stores: sorted lists of (key, value) with a value for every key that is not listed -/

/-- The value at a key. -/
def sget {α : Type} (d : Nat → α) (m : List (Nat × α)) (k : Nat) : α :=
  match m with
  | [] => d k
  | (k', v) :: t => if k' = k then v else sget d t k

/-- The store with the value at a key replaced; it stays sorted and lists no value an unlisted key reads as. -/
def sset {α : Type} [DecidableEq α] (d : Nat → α) (m : List (Nat × α)) (k : Nat) (v : α) : List (Nat × α) :=
  match m with
  | [] => if v = d k then [] else [(k, v)]
  | (k', v') :: t =>
    if k' < k then (k', v') :: sset d t k v
    else if k' = k then (if v = d k then t else (k, v) :: t)
    else (if v = d k then (k', v') :: t else (k, v) :: (k', v') :: t)

/-- The canonical form: keys strictly rising, and no entry equal to what an unlisted key reads as. -/
abbrev swf {α : Type} (d : Nat → α) (m : List (Nat × α)) : Prop :=
  m.Pairwise (fun a b => a.1 < b.1) ∧ ∀ e ∈ m, e.2 ≠ d e.1

/-! ### Small helpers -/

/-- Counter increment that saturates at `top`. -/
def satInc (top n : Nat) : Nat := if n < top then n + 1 else top

/-- Addition that saturates at `top`. -/
def satAdd (top a b : Nat) : Nat := if a + b < top then a + b else top

/-- The sum of a list of exact values. -/
def sumR (l : List Rat) : Rat := l.foldl (· + ·) 0

/-- The sum of a list of integers. -/
def sumI (l : List Int) : Int := l.foldl (· + ·) 0

/-- The sum of a list of naturals. -/
def sumN (l : List Nat) : Nat := l.foldl (· + ·) 0

/-- The largest of a list of naturals (0 for none). -/
def maxN (l : List Nat) : Nat := l.foldl (fun a b => if a < b then b else a) 0

/-- A word's bytes, most significant first. -/
def wordBytesBE (w : Word) : List Nat := [fld w 31 24, fld w 23 16, fld w 15 8, fld w 7 0]

/-- A word's bytes, least significant first. -/
def wordBytesLE (w : Word) : List Nat := [fld w 7 0, fld w 15 8, fld w 23 16, fld w 31 24]

end Sys2Proof.Machine
end

