-- ==== Sys2Proof/Machine/RegMap.lean ====
section
/-! DEFINITION. Machine/RegMap.lean: the register directory (R422, R423, R436) and, for every register, which bits the
field tables of the block chapters call writable, RWL, reserved, W1C and WO, and the value its writable fields take at
the release of a reset (R421). Read-only fields are not stored: Machine/View.lean computes them from the state. -/

namespace Sys2Proof.Machine

/-- The page types of the directory (R423). -/
inductive PType where
  | dev | clk | host | fc | fcsev | perf | nv | dom | sbus | twin | setin | grid | cup | samp | eng | trip
  | rail | ph | rcomp | rtab | pin | gang
  deriving DecidableEq, Repr

/-- Page type and instance of a page (R423); `none` for 0x72-0xFF (R422). -/
def pageType (pg : Nat) : Option (PType × Nat) :=
  if pg < 0x10 then
    some (match pg with
      | 0 => .dev | 1 => .clk | 2 => .host | 3 => .fc | 4 => .fcsev | 5 => .perf | 6 => .nv | 7 => .dom
      | 8 => .sbus | 9 => .twin | 10 => .setin | 11 => .grid | 12 => .cup | 13 => .samp | 14 => .eng | _ => .trip, 0)
  else if pg < 0x20 then some (.rail, pg - 0x10)
  else if pg < 0x50 then some (.ph, pg - 0x20)
  else if pg < 0x60 then some (.rcomp, pg - 0x50)
  else if pg < 0x70 then some (.rtab, pg - 0x60)
  else if pg = 0x70 then some (.pin, 0)
  else if pg = 0x71 then some (.gang, 0)
  else none

/-- PG_ID.TYPE of a page type (R423). -/
def PType.code : PType → Nat
  | .dev => 0x00 | .clk => 0x01 | .host => 0x02 | .fc => 0x03 | .fcsev => 0x04 | .perf => 0x05 | .nv => 0x06
  | .dom => 0x07 | .sbus => 0x08 | .twin => 0x09 | .setin => 0x0A | .grid => 0x0B | .cup => 0x0C | .samp => 0x0D
  | .eng => 0x0E | .trip => 0x0F | .rail => 0x10 | .ph => 0x20 | .rcomp => 0x50 | .rtab => 0x60 | .pin => 0x70
  | .gang => 0x71

/-- PG_ID.NREG of a page type (R423). -/
def PType.nreg : PType → Nat
  | .dev => 6 | .clk => 7 | .host => 14 | .fc => 31 | .fcsev => 32 | .perf => 76 | .nv => 85 | .dom => 6 | .sbus => 133 | .twin => 10 | .setin => 26 | .grid => 8 | .cup => 31 | .samp => 42 | .eng => 11 | .trip => 51 | .rail => 53 | .ph => 32 | .rcomp => 222 | .rtab => 135 | .pin => 5 | .gang => 7 

/-- One run of registers of a page: the offsets `lo + k * stride` for `k < n`, with the masks of their fields. -/
structure RegRow where
  lo : Nat
  n : Nat
  stride : Nat
  /-- bits of the RW, RWL, W1C and WO fields -/
  wmask : Nat
  /-- bits of the RWL fields -/
  rwl : Nat
  /-- bits of the reserved fields -/
  resv : Nat
  /-- bits of the W1C fields -/
  w1c : Nat
  /-- bits of the WO fields -/
  wo : Nat
  /-- reset value of the RW and RWL fields -/
  rst : Nat
  deriving DecidableEq, Repr

/-- Whether the run holds the offset. -/
def RegRow.holds (r : RegRow) (off : Nat) : Bool :=
  decide (r.lo ≤ off) && decide ((off - r.lo) % r.stride = 0) && decide ((off - r.lo) / r.stride < r.n)

/-- The registers of a DEV page. -/
def rowsDev : List RegRow :=
  [⟨0x8, 1, 1, 0x0, 0x0, 0xffff33f8, 0x0, 0x0, 0x0⟩,
   ⟨0x9, 1, 1, 0xff000007, 0x0, 0xfffff8, 0x0, 0xff000007, 0x0⟩,
   ⟨0xa, 1, 1, 0x0, 0x0, 0x30ffc000, 0x0, 0x0, 0x0⟩,
   ⟨0xb, 1, 1, 0x0, 0x0, 0x0, 0x0, 0x0, 0x0⟩,
   ⟨0xc, 1, 1, 0x0, 0x0, 0x0, 0x0, 0x0, 0x0⟩,
   ⟨0xd, 1, 1, 0x0, 0x0, 0x0, 0x0, 0x0, 0x0⟩]

/-- The registers of a CLK page. -/
def rowsClk : List RegRow :=
  [⟨0x8, 1, 1, 0x0, 0x0, 0xffffff64, 0x0, 0x0, 0x0⟩,
   ⟨0x9, 1, 1, 0x0, 0x0, 0x0, 0x0, 0x0, 0x0⟩,
   ⟨0xa, 1, 1, 0x0, 0x0, 0x0, 0x0, 0x0, 0x0⟩,
   ⟨0xb, 1, 1, 0x0, 0x0, 0x0, 0x0, 0x0, 0x0⟩,
   ⟨0xc, 1, 1, 0x0, 0x0, 0x0, 0x0, 0x0, 0x0⟩,
   ⟨0xd, 1, 1, 0x0, 0x0, 0x0, 0x0, 0x0, 0x0⟩,
   ⟨0xe, 1, 1, 0x0, 0x0, 0xffff0000, 0x0, 0x0, 0x0⟩]

/-- The registers of a HOST page. -/
def rowsHost : List RegRow :=
  [⟨0x8, 1, 1, 0x0, 0x0, 0xfffffffc, 0x0, 0x0, 0x0⟩,
   ⟨0x9, 1, 1, 0xc000000f, 0x0, 0x3f80fff0, 0x0, 0x0, 0x3⟩,
   ⟨0xa, 1, 1, 0x0, 0x0, 0x0, 0x0, 0x0, 0x0⟩,
   ⟨0xb, 1, 1, 0x0, 0x0, 0x0, 0x0, 0x0, 0x0⟩,
   ⟨0xc, 1, 1, 0x0, 0x0, 0x0, 0x0, 0x0, 0x0⟩,
   ⟨0xd, 1, 1, 0x1, 0x0, 0xfffffffe, 0x0, 0x1, 0x0⟩,
   ⟨0xe, 1, 1, 0x0, 0x0, 0xff000000, 0x0, 0x0, 0x0⟩,
   ⟨0xf, 1, 1, 0x0, 0x0, 0xffffff00, 0x0, 0x0, 0x0⟩,
   ⟨0x10, 4, 1, 0x0, 0x0, 0x0, 0x0, 0x0, 0x0⟩,
   ⟨0x14, 1, 1, 0x0, 0x0, 0xff000000, 0x0, 0x0, 0x0⟩,
   ⟨0x15, 1, 1, 0x1, 0x0, 0xfffffffe, 0x0, 0x1, 0x0⟩]

/-- The registers of a FC page. -/
def rowsFc : List RegRow :=
  [⟨0x8, 1, 1, 0x701, 0x0, 0xfffff8fe, 0x0, 0x0, 0x300⟩,
   ⟨0x9, 1, 1, 0x0, 0x0, 0x1fff0000, 0x0, 0x0, 0x0⟩,
   ⟨0xa, 1, 1, 0x0, 0x0, 0x7ffff000, 0x0, 0x0, 0x0⟩,
   ⟨0xb, 1, 1, 0x0, 0x0, 0x0, 0x0, 0x0, 0x0⟩,
   ⟨0xc, 1, 1, 0x0, 0x0, 0x0, 0x0, 0x0, 0x0⟩,
   ⟨0xd, 1, 1, 0x0, 0x0, 0x7fff0000, 0x0, 0x0, 0x0⟩,
   ⟨0xe, 1, 1, 0x3, 0x0, 0xfffffffc, 0x0, 0x3, 0x0⟩,
   ⟨0xf, 1, 1, 0x1fff, 0x0, 0xffffe000, 0x0, 0x0, 0x1f4⟩,
   ⟨0x10, 1, 1, 0xfff, 0x0, 0xfffff000, 0x0, 0x0, 0x0⟩,
   ⟨0x11, 1, 1, 0x0, 0x0, 0xfffff000, 0x0, 0x0, 0x0⟩,
   ⟨0x12, 1, 1, 0x0, 0x0, 0x0, 0x0, 0x0, 0x0⟩,
   ⟨0x13, 1, 1, 0x3f, 0x0, 0xffffffc0, 0x0, 0x0, 0x0⟩,
   ⟨0x14, 1, 1, 0x0, 0x0, 0x0, 0x0, 0x0, 0x0⟩,
   ⟨0x15, 1, 1, 0x0, 0x0, 0x0, 0x0, 0x0, 0x0⟩,
   ⟨0x16, 1, 1, 0x0, 0x0, 0x0, 0x0, 0x0, 0x0⟩,
   ⟨0x20, 8, 1, 0xffffffff, 0x0, 0x0, 0xffffffff, 0x0, 0x0⟩,
   ⟨0x28, 8, 1, 0x0, 0x0, 0x0, 0x0, 0x0, 0x0⟩]

/-- The registers of a FCSEV page. -/
def rowsFcsev : List RegRow :=
  [⟨0x8, 1, 1, 0x77777777, 0x0, 0x88888888, 0x0, 0x0, 0x10101440⟩,
   ⟨0x9, 1, 1, 0x77777777, 0x0, 0x88888888, 0x0, 0x0, 0x44⟩,
   ⟨0xa, 1, 1, 0x77777777, 0x0, 0x88888888, 0x0, 0x0, 0x1333133⟩,
   ⟨0xb, 1, 1, 0x77777777, 0x0, 0x88888888, 0x0, 0x0, 0x32311001⟩,
   ⟨0xc, 1, 1, 0x77777777, 0x0, 0x88888888, 0x0, 0x0, 0x1101⟩,
   ⟨0xd, 1, 1, 0x77777777, 0x0, 0x88888888, 0x0, 0x0, 0x0⟩,
   ⟨0xe, 1, 1, 0x77777777, 0x0, 0x88888888, 0x0, 0x0, 0x2250⟩,
   ⟨0xf, 1, 1, 0x77777777, 0x0, 0x88888888, 0x0, 0x0, 0x2⟩,
   ⟨0x10, 4, 1, 0x77777777, 0x0, 0x88888888, 0x0, 0x0, 0x0⟩,
   ⟨0x14, 1, 1, 0x77777777, 0x0, 0x88888888, 0x0, 0x0, 0x144⟩,
   ⟨0x15, 1, 1, 0x77777777, 0x0, 0x88888888, 0x0, 0x0, 0x0⟩,
   ⟨0x16, 1, 1, 0x77777777, 0x0, 0x88888888, 0x0, 0x0, 0x14130310⟩,
   ⟨0x17, 1, 1, 0x77777777, 0x0, 0x88888888, 0x0, 0x0, 0x41⟩,
   ⟨0x18, 1, 1, 0x77777777, 0x0, 0x88888888, 0x0, 0x0, 0x10110⟩,
   ⟨0x19, 1, 1, 0x77777777, 0x0, 0x88888888, 0x0, 0x0, 0x0⟩,
   ⟨0x1a, 1, 1, 0x77777777, 0x0, 0x88888888, 0x0, 0x0, 0x410111⟩,
   ⟨0x1b, 1, 1, 0x77777777, 0x0, 0x88888888, 0x0, 0x0, 0x0⟩,
   ⟨0x1c, 1, 1, 0x77777777, 0x0, 0x88888888, 0x0, 0x0, 0x11111⟩,
   ⟨0x1d, 1, 1, 0x77777777, 0x0, 0x88888888, 0x0, 0x0, 0x0⟩,
   ⟨0x1e, 1, 1, 0x77777777, 0x0, 0x88888888, 0x0, 0x0, 0x33333333⟩,
   ⟨0x1f, 1, 1, 0x77777777, 0x0, 0x88888888, 0x0, 0x0, 0x3⟩,
   ⟨0x20, 7, 1, 0x77777777, 0x0, 0x88888888, 0x0, 0x0, 0x0⟩,
   ⟨0x27, 1, 1, 0x77777777, 0x0, 0x88888888, 0x0, 0x0, 0x40000000⟩]

/-- The registers of a PERF page. -/
def rowsPerf : List RegRow :=
  [⟨0x8, 1, 1, 0xffffffff, 0x0, 0x0, 0x0, 0x0, 0x0⟩,
   ⟨0x9, 1, 1, 0xffffffff, 0x0, 0x0, 0x0, 0xffffffff, 0x0⟩,
   ⟨0xa, 1, 1, 0xffffffff, 0x0, 0x0, 0xffffffff, 0x0, 0x0⟩,
   ⟨0xb, 1, 1, 0x0, 0x0, 0x0, 0x0, 0x0, 0x0⟩,
   ⟨0xc, 1, 1, 0xffff, 0x0, 0xffff0000, 0x0, 0x0, 0x3e8⟩,
   ⟨0xd, 1, 1, 0x0, 0x0, 0xffff0000, 0x0, 0x0, 0x0⟩,
   ⟨0x10, 6, 1, 0x0, 0x0, 0x0, 0x0, 0x0, 0x0⟩,
   ⟨0x20, 32, 1, 0x0, 0x0, 0x0, 0x0, 0x0, 0x0⟩,
   ⟨0x40, 32, 1, 0xffffffff, 0x0, 0x0, 0x0, 0x0, 0x0⟩]

/-- The registers of a NV page. -/
def rowsNv : List RegRow :=
  [⟨0x8, 1, 1, 0x0, 0x0, 0xff0080, 0x0, 0x0, 0x0⟩,
   ⟨0x9, 1, 1, 0x3, 0x3, 0xfffffffc, 0x0, 0x0, 0x1⟩,
   ⟨0xa, 1, 1, 0xf, 0x0, 0xfffffff0, 0x0, 0xf, 0x0⟩,
   ⟨0xb, 1, 1, 0x7ff, 0x0, 0xfffff800, 0x0, 0x0, 0x0⟩,
   ⟨0xc, 1, 1, 0xffff0f03, 0x0, 0xf0fc, 0x0, 0x0, 0x0⟩,
   ⟨0xd, 1, 1, 0xffffffff, 0x0, 0x0, 0x0, 0x0, 0x0⟩,
   ⟨0xe, 1, 1, 0x0, 0x0, 0x0, 0x0, 0x0, 0x0⟩,
   ⟨0xf, 1, 1, 0x0, 0x0, 0x0, 0x0, 0x0, 0x0⟩,
   ⟨0x10, 1, 1, 0x0, 0x0, 0x0, 0x0, 0x0, 0x0⟩,
   ⟨0x14, 8, 1, 0x0, 0x0, 0x0, 0x0, 0x0, 0x0⟩,
   ⟨0x1c, 4, 1, 0xcfffffff, 0x0, 0x30000000, 0x0, 0x0, 0x400004⟩,
   ⟨0x40, 64, 1, 0xffffffff, 0x0, 0x0, 0x0, 0x0, 0xffffffff⟩]

/-- The registers of a DOM page. -/
def rowsDom : List RegRow :=
  [⟨0x8, 1, 1, 0x0, 0x0, 0x0, 0x0, 0x0, 0x0⟩,
   ⟨0x9, 1, 1, 0x0, 0x0, 0x0, 0x0, 0x0, 0x0⟩,
   ⟨0xa, 1, 1, 0x0, 0x0, 0xfffffff0, 0x0, 0x0, 0x0⟩,
   ⟨0x10, 1, 1, 0xff, 0x0, 0xffffff00, 0x0, 0xff, 0x0⟩,
   ⟨0x11, 1, 1, 0xffffff, 0x0, 0xff000000, 0x0, 0x0, 0x30d40⟩,
   ⟨0x12, 1, 1, 0x0, 0x0, 0xff00, 0x0, 0x0, 0x0⟩]

/-- The registers of a SBUS page. -/
def rowsSbus : List RegRow :=
  [⟨0x8, 1, 1, 0xefff0000, 0x0, 0x1000ffff, 0x0, 0x0, 0x23030000⟩,
   ⟨0x9, 1, 1, 0x0, 0x0, 0xf000000, 0x0, 0x0, 0x0⟩,
   ⟨0xa, 1, 1, 0x0, 0x0, 0x0, 0x0, 0x0, 0x0⟩,
   ⟨0xb, 1, 1, 0xfffff000, 0x0, 0xfff, 0x0, 0x0, 0x0⟩,
   ⟨0xc, 1, 1, 0xffffffff, 0x0, 0x0, 0x0, 0x0, 0x0⟩,
   ⟨0x40, 64, 1, 0xffffffff, 0x0, 0x0, 0x0, 0x0, 0xa⟩,
   ⟨0x80, 64, 1, 0x0, 0x0, 0x3f000000, 0x0, 0x0, 0x0⟩]

/-- The registers of a TWIN page. -/
def rowsTwin : List RegRow :=
  [⟨0x8, 1, 1, 0x80ffff00, 0x80ff0000, 0x7f0000ff, 0x0, 0x0, 0x141000⟩,
   ⟨0x9, 1, 1, 0xffff, 0x0, 0xffff0000, 0x0, 0x0, 0x148⟩,
   ⟨0xa, 1, 1, 0x0, 0x0, 0x7ffff, 0x0, 0x0, 0x0⟩,
   ⟨0xb, 1, 1, 0x7, 0x0, 0xfffffff8, 0x0, 0x7, 0x0⟩,
   ⟨0xc, 1, 1, 0x0, 0x0, 0x0, 0x0, 0x0, 0x0⟩,
   ⟨0xd, 1, 1, 0x0, 0x0, 0x0, 0x0, 0x0, 0x0⟩,
   ⟨0xe, 1, 1, 0x0, 0x0, 0x0, 0x0, 0x0, 0x0⟩,
   ⟨0xf, 1, 1, 0x0, 0x0, 0x0, 0x0, 0x0, 0x0⟩,
   ⟨0x10, 1, 1, 0x0, 0x0, 0x0, 0x0, 0x0, 0x0⟩,
   ⟨0x11, 1, 1, 0x0, 0x0, 0x0, 0x0, 0x0, 0x0⟩]

/-- The registers of a SETIN page. -/
def rowsSetin : List RegRow :=
  [⟨0x8, 4, 1, 0x87ffffff, 0x0, 0x78000000, 0x0, 0x0, 0x400001⟩,
   ⟨0xc, 4, 1, 0xffff, 0x0, 0xffff0000, 0x0, 0x0, 0x0⟩,
   ⟨0x10, 4, 1, 0x8fffffff, 0x0, 0x70000000, 0x0, 0x0, 0x400001⟩,
   ⟨0x14, 4, 1, 0xffffffff, 0x0, 0x0, 0x0, 0x0, 0x7d00000⟩,
   ⟨0x18, 4, 1, 0x0, 0x0, 0xc0000000, 0x0, 0x0, 0x0⟩,
   ⟨0x1c, 4, 1, 0x0, 0x0, 0x0, 0x0, 0x0, 0x0⟩,
   ⟨0x20, 1, 1, 0xff, 0x0, 0xffffff00, 0x0, 0x0, 0x19⟩,
   ⟨0x21, 1, 1, 0x0, 0x0, 0x0, 0x0, 0x0, 0x0⟩]

/-- The registers of a GRID page. -/
def rowsGrid : List RegRow :=
  [⟨0x8, 1, 1, 0x8ff00707, 0x0, 0x700ff8f8, 0x0, 0x0, 0x2400201⟩,
   ⟨0x9, 1, 1, 0xffff, 0x0, 0xffff0000, 0x0, 0x0, 0x0⟩,
   ⟨0xa, 1, 1, 0xffffffff, 0x0, 0x0, 0x0, 0x0, 0x10000200⟩,
   ⟨0xb, 1, 1, 0x0, 0x0, 0x3ffff0f0, 0x0, 0x0, 0x0⟩,
   ⟨0xc, 1, 1, 0x0, 0x0, 0x0, 0x0, 0x0, 0x0⟩,
   ⟨0xd, 1, 1, 0x0, 0x0, 0xffff0000, 0x0, 0x0, 0x0⟩,
   ⟨0xe, 1, 1, 0x0, 0x0, 0xff000000, 0x0, 0x0, 0x0⟩,
   ⟨0xf, 1, 1, 0x0, 0x0, 0x0, 0x0, 0x0, 0x0⟩]

/-- The registers of a CUP page. -/
def rowsCup : List RegRow :=
  [⟨0x8, 1, 1, 0xe0f0ffff, 0x0, 0x1f0f0000, 0x0, 0x0, 0x402⟩,
   ⟨0x9, 1, 1, 0xffff, 0x0, 0xffff0000, 0x0, 0x0, 0x29⟩,
   ⟨0xa, 1, 1, 0xffffff, 0x0, 0xff000000, 0x0, 0x0, 0x4b0009⟩,
   ⟨0xb, 1, 1, 0xffffff, 0x0, 0xff000000, 0x0, 0x0, 0x500005⟩,
   ⟨0xc, 1, 1, 0xffffff, 0x0, 0xff000000, 0x0, 0x0, 0x7d000b⟩,
   ⟨0xd, 1, 1, 0x3ff, 0x0, 0xfffffc00, 0x0, 0x0, 0x9⟩,
   ⟨0xe, 1, 1, 0xffffff, 0x0, 0xff000000, 0x0, 0x0, 0x666680⟩,
   ⟨0xf, 1, 1, 0xffffff, 0x0, 0xff000000, 0x0, 0x0, 0x500001⟩,
   ⟨0x10, 1, 1, 0xffffff, 0x0, 0xff000000, 0x0, 0x0, 0x40003e⟩,
   ⟨0x11, 1, 1, 0xf, 0x0, 0xfffffff0, 0x0, 0xf, 0x0⟩,
   ⟨0x12, 1, 1, 0x0, 0x0, 0x4fffc00, 0x0, 0x0, 0x0⟩,
   ⟨0x13, 1, 1, 0x0, 0x0, 0xff000000, 0x0, 0x0, 0x0⟩,
   ⟨0x14, 1, 1, 0x0, 0x0, 0x0, 0x0, 0x0, 0x0⟩,
   ⟨0x15, 1, 1, 0x0, 0x0, 0xff000000, 0x0, 0x0, 0x0⟩,
   ⟨0x16, 1, 1, 0x0, 0x0, 0xff000000, 0x0, 0x0, 0x0⟩,
   ⟨0x20, 16, 1, 0x0, 0x0, 0xff000000, 0x0, 0x0, 0x0⟩]

/-- The registers of a SAMP page. -/
def rowsSamp : List RegRow :=
  [⟨0x8, 1, 1, 0xffff, 0x0, 0xffff0000, 0x0, 0x0, 0x0⟩,
   ⟨0x10, 16, 1, 0xffffff, 0x0, 0xff000000, 0x0, 0x0, 0x400001⟩,
   ⟨0x20, 16, 1, 0x0, 0x0, 0xc0000000, 0x0, 0x0, 0x0⟩,
   ⟨0x30, 1, 1, 0x0, 0x0, 0x0, 0x0, 0x0, 0x0⟩,
   ⟨0x31, 1, 1, 0x0, 0x0, 0x0, 0x0, 0x0, 0x0⟩,
   ⟨0x40, 1, 1, 0xffffffff, 0x0, 0x0, 0x0, 0x0, 0xffffffff⟩,
   ⟨0x41, 1, 1, 0xcfffffff, 0x0, 0x30000000, 0x0, 0x0, 0x0⟩,
   ⟨0x42, 1, 1, 0xffffff, 0x0, 0xff000000, 0x0, 0x0, 0x0⟩,
   ⟨0x43, 1, 1, 0x1, 0x0, 0xfffffffe, 0x0, 0x0, 0x0⟩,
   ⟨0x44, 1, 1, 0x0, 0x0, 0xf000fff0, 0x0, 0x0, 0x0⟩,
   ⟨0x45, 1, 1, 0xfff, 0x0, 0xfffff000, 0x0, 0x0, 0x0⟩,
   ⟨0x46, 1, 1, 0x0, 0x0, 0x0, 0x0, 0x0, 0x0⟩]

/-- The registers of a ENG page. -/
def rowsEng : List RegRow :=
  [⟨0x8, 1, 1, 0x0, 0x0, 0x7fff0000, 0x0, 0x0, 0x0⟩,
   ⟨0x9, 1, 1, 0x0, 0x0, 0xffff0000, 0x0, 0x0, 0x0⟩,
   ⟨0xa, 1, 1, 0x0, 0x0, 0x0, 0x0, 0x0, 0x0⟩,
   ⟨0xb, 1, 1, 0xffff, 0x0, 0xffff0000, 0x0, 0x0, 0x3e8⟩,
   ⟨0xc, 1, 1, 0x0, 0x0, 0xff00ff00, 0x0, 0x0, 0x0⟩,
   ⟨0xd, 1, 1, 0x0, 0x0, 0x0, 0x0, 0x0, 0x0⟩,
   ⟨0xe, 1, 1, 0x0, 0x0, 0x0, 0x0, 0x0, 0x0⟩,
   ⟨0xf, 1, 1, 0x7, 0x0, 0xfffffff8, 0x0, 0x7, 0x0⟩,
   ⟨0x10, 1, 1, 0x1, 0x0, 0xfffffffe, 0x0, 0x0, 0x0⟩,
   ⟨0x11, 1, 1, 0x3fff, 0x0, 0xffffc000, 0x0, 0x0, 0x0⟩,
   ⟨0x12, 1, 1, 0x0, 0x0, 0x0, 0x0, 0x0, 0x0⟩]

/-- The registers of a TRIP page. -/
def rowsTrip : List RegRow :=
  [⟨0x8, 8, 1, 0xc00000ff, 0x0, 0x3fffff00, 0x0, 0x0, 0x19⟩,
   ⟨0x10, 16, 1, 0xc00000ff, 0x0, 0x3fffff00, 0x0, 0x0, 0x80000002⟩,
   ⟨0x20, 8, 1, 0x1fffff, 0x0, 0xffe00000, 0x0, 0x0, 0xf0000⟩,
   ⟨0x28, 1, 1, 0x1fffff, 0x0, 0xffe00000, 0x0, 0x0, 0x1⟩,
   ⟨0x29, 1, 1, 0x1fffff, 0x0, 0xffe00000, 0x0, 0x0, 0x2⟩,
   ⟨0x2a, 1, 1, 0x1fffff, 0x0, 0xffe00000, 0x0, 0x0, 0x4⟩,
   ⟨0x2b, 1, 1, 0x1fffff, 0x0, 0xffe00000, 0x0, 0x0, 0x8⟩,
   ⟨0x2c, 1, 1, 0x1fffff, 0x0, 0xffe00000, 0x0, 0x0, 0x10⟩,
   ⟨0x2d, 1, 1, 0x1fffff, 0x0, 0xffe00000, 0x0, 0x0, 0x20⟩,
   ⟨0x2e, 1, 1, 0x1fffff, 0x0, 0xffe00000, 0x0, 0x0, 0x40⟩,
   ⟨0x2f, 1, 1, 0x1fffff, 0x0, 0xffe00000, 0x0, 0x0, 0x80⟩,
   ⟨0x30, 1, 1, 0x1fffff, 0x0, 0xffe00000, 0x0, 0x0, 0x100⟩,
   ⟨0x31, 1, 1, 0x1fffff, 0x0, 0xffe00000, 0x0, 0x0, 0x200⟩,
   ⟨0x32, 1, 1, 0x1fffff, 0x0, 0xffe00000, 0x0, 0x0, 0x400⟩,
   ⟨0x33, 1, 1, 0x1fffff, 0x0, 0xffe00000, 0x0, 0x0, 0x800⟩,
   ⟨0x34, 1, 1, 0x1fffff, 0x0, 0xffe00000, 0x0, 0x0, 0x1000⟩,
   ⟨0x35, 1, 1, 0x1fffff, 0x0, 0xffe00000, 0x0, 0x0, 0x2000⟩,
   ⟨0x36, 1, 1, 0x1fffff, 0x0, 0xffe00000, 0x0, 0x0, 0x4000⟩,
   ⟨0x37, 1, 1, 0x1fffff, 0x0, 0xffe00000, 0x0, 0x0, 0x8000⟩,
   ⟨0x38, 1, 1, 0x0, 0x0, 0xff000000, 0x0, 0x0, 0x0⟩,
   ⟨0x39, 1, 1, 0x0, 0x0, 0xff000000, 0x0, 0x0, 0x0⟩,
   ⟨0x3a, 1, 1, 0xffffff, 0x0, 0xff000000, 0x0, 0xffffff, 0x0⟩]

/-- The registers of a RAILn page. -/
def rowsRail : List RegRow :=
  [⟨0x8, 1, 1, 0x3f7f, 0x3f7f, 0xffffc080, 0x0, 0x0, 0x3f00⟩,
   ⟨0x9, 1, 1, 0x0, 0x0, 0x0, 0x0, 0x0, 0x0⟩,
   ⟨0xa, 1, 1, 0x0, 0x0, 0xe0ff0000, 0x0, 0x0, 0x0⟩,
   ⟨0xb, 1, 1, 0xffffffff, 0xffffffff, 0x0, 0x0, 0x0, 0x3e8⟩,
   ⟨0xc, 1, 1, 0xffffff, 0xffffff, 0xff000000, 0x0, 0x0, 0x400001⟩,
   ⟨0xd, 1, 1, 0xffffffff, 0xffffffff, 0x0, 0x0, 0x0, 0x3e8⟩,
   ⟨0x10, 1, 1, 0x30fffff, 0x0, 0xfcf00000, 0x0, 0x0, 0x0⟩,
   ⟨0x11, 1, 1, 0x0, 0x0, 0x3fc00000, 0x0, 0x0, 0x0⟩,
   ⟨0x12, 1, 1, 0x0, 0x0, 0x0, 0x0, 0x0, 0x0⟩,
   ⟨0x13, 1, 1, 0x0, 0x0, 0xffff0000, 0x0, 0x0, 0x0⟩,
   ⟨0x14, 1, 1, 0x0, 0x0, 0xffff0000, 0x0, 0x0, 0x0⟩,
   ⟨0x20, 1, 1, 0xffff, 0x0, 0xffff0000, 0x0, 0x0, 0x0⟩,
   ⟨0x21, 1, 1, 0xf30f, 0x0, 0xffff0cf0, 0x0, 0x0, 0x0⟩,
   ⟨0x22, 1, 1, 0xffffffff, 0x0, 0x0, 0x0, 0x0, 0x1000100⟩,
   ⟨0x23, 1, 1, 0xffffff, 0x0, 0xff000000, 0x0, 0x0, 0x400001⟩,
   ⟨0x24, 1, 1, 0x0, 0x0, 0x0, 0x0, 0x0, 0x0⟩,
   ⟨0x25, 1, 1, 0xffffffff, 0x0, 0x0, 0x0, 0x0, 0x40004000⟩,
   ⟨0x26, 1, 1, 0xffffffff, 0x0, 0x0, 0x0, 0x0, 0xffffffff⟩,
   ⟨0x27, 1, 1, 0xf, 0x0, 0xfffffff0, 0x0, 0x0, 0x4⟩,
   ⟨0x28, 1, 1, 0x7, 0x0, 0xfffffff8, 0x0, 0x7, 0x0⟩,
   ⟨0x29, 1, 1, 0x0, 0x0, 0xf0cfff0, 0x0, 0x0, 0x0⟩,
   ⟨0x2a, 1, 1, 0x8000ffff, 0x0, 0x7fff0000, 0x0, 0x0, 0x80000148⟩,
   ⟨0x2b, 1, 1, 0xffffff, 0x0, 0xff000000, 0x0, 0x0, 0x3e8⟩,
   ⟨0x2c, 1, 1, 0xffffffff, 0x0, 0x0, 0x0, 0x0, 0x3330000⟩,
   ⟨0x2d, 1, 1, 0xc000ffff, 0x0, 0x3fff0000, 0x0, 0x0, 0x0⟩,
   ⟨0x2e, 1, 1, 0xffffff, 0x0, 0xff000000, 0x0, 0x0, 0x186a0⟩,
   ⟨0x2f, 1, 1, 0x8fffffff, 0x0, 0x70000000, 0x0, 0x0, 0x30f4240⟩,
   ⟨0x30, 1, 1, 0xffff000f, 0x0, 0xfff0, 0x0, 0x0, 0x0⟩,
   ⟨0x38, 1, 1, 0x8f1f0000, 0x0, 0x70e0ffff, 0x0, 0x0, 0xa010000⟩,
   ⟨0x39, 1, 1, 0xffffffff, 0x0, 0x0, 0x0, 0x0, 0x10000800⟩,
   ⟨0x3a, 1, 1, 0xffffffff, 0x0, 0x0, 0x0, 0x0, 0x27100064⟩,
   ⟨0x3b, 6, 1, 0xffffffff, 0x0, 0x0, 0x0, 0x0, 0x3f3f3f3f⟩,
   ⟨0x41, 1, 1, 0x0, 0x0, 0xe0e00000, 0x0, 0x0, 0x0⟩,
   ⟨0x42, 1, 1, 0x8fffffff, 0x0, 0x70000000, 0x0, 0x0, 0x83⟩,
   ⟨0x43, 1, 1, 0xffffffff, 0x0, 0x0, 0x0, 0x0, 0x8000400⟩,
   ⟨0x44, 1, 1, 0x8000ffff, 0x0, 0x7fff0000, 0x0, 0x0, 0x148⟩,
   ⟨0x45, 1, 1, 0xffffffff, 0x0, 0x0, 0x0, 0x0, 0x320000⟩,
   ⟨0x46, 1, 1, 0x0, 0x0, 0xffff0000, 0x0, 0x0, 0x0⟩,
   ⟨0x48, 1, 1, 0xffff, 0x0, 0xffff0000, 0x0, 0x0, 0x5000⟩,
   ⟨0x49, 1, 1, 0xffffffff, 0x0, 0x0, 0x0, 0x0, 0xffff0000⟩,
   ⟨0x4a, 1, 1, 0xffffffff, 0x0, 0x0, 0x0, 0x0, 0xffff0000⟩,
   ⟨0x4b, 1, 1, 0xffffffff, 0x0, 0x0, 0x0, 0x0, 0x4100083⟩,
   ⟨0x4c, 1, 1, 0xc00000ff, 0x0, 0x3fffff00, 0x0, 0x0, 0x80⟩,
   ⟨0x4d, 1, 1, 0xffffffff, 0x0, 0x0, 0x0, 0x0, 0x3e803a00⟩,
   ⟨0x4e, 1, 1, 0xffffffff, 0x0, 0x0, 0x0, 0x0, 0x2803000⟩,
   ⟨0x4f, 1, 1, 0xff00ffff, 0x0, 0xff0000, 0x0, 0x0, 0x8a000666⟩,
   ⟨0x50, 1, 1, 0xffffff, 0x0, 0xff000000, 0x0, 0x0, 0x400001⟩,
   ⟨0x51, 1, 1, 0x0, 0x0, 0x3000000, 0x0, 0x0, 0x0⟩]

/-- The registers of a PHn page. -/
def rowsPh : List RegRow :=
  [⟨0x8, 1, 1, 0x31f, 0x31f, 0xfffffce0, 0x0, 0x0, 0x1f⟩,
   ⟨0x9, 1, 1, 0xffffffff, 0xffffffff, 0x0, 0x0, 0x0, 0x3e8⟩,
   ⟨0xa, 1, 1, 0xffffff, 0xffffff, 0xff000000, 0x0, 0x0, 0x400001⟩,
   ⟨0x10, 1, 1, 0x30001, 0x30001, 0xfffcfffe, 0x0, 0x0, 0x1⟩,
   ⟨0x11, 1, 1, 0xc0ffffff, 0x0, 0x3f000000, 0x0, 0x0, 0x0⟩,
   ⟨0x12, 1, 1, 0x0, 0x0, 0xfffff000, 0x0, 0x0, 0x0⟩,
   ⟨0x13, 1, 1, 0x0, 0x0, 0x0, 0x0, 0x0, 0x0⟩,
   ⟨0x14, 1, 1, 0x3f, 0x0, 0xffffffc0, 0x0, 0x0, 0x20⟩,
   ⟨0x18, 1, 1, 0xff000001, 0x0, 0xfffffe, 0x0, 0x0, 0x4000000⟩,
   ⟨0x19, 1, 1, 0x0, 0x0, 0xffffff, 0x0, 0x0, 0x0⟩,
   ⟨0x1a, 1, 1, 0xffff, 0x0, 0xffff0000, 0x0, 0x0, 0xfa0⟩,
   ⟨0x1b, 1, 1, 0x3fffff, 0x0, 0xffc00000, 0x0, 0x0, 0x0⟩,
   ⟨0x1c, 1, 1, 0x3fff3fff, 0x0, 0xc000c000, 0x0, 0x0, 0x8000800⟩,
   ⟨0x1d, 1, 1, 0xffff, 0x0, 0xffff0000, 0x0, 0x0, 0x0⟩,
   ⟨0x1e, 1, 1, 0x1, 0x0, 0xfffffffe, 0x0, 0x1, 0x0⟩,
   ⟨0x1f, 1, 1, 0x3fff3fff, 0x0, 0xc000c000, 0x0, 0x0, 0x0⟩,
   ⟨0x20, 1, 1, 0x3fff3fff, 0x0, 0xc000c000, 0x0, 0x0, 0x3fff3fff⟩,
   ⟨0x21, 1, 1, 0xcf3f3fff, 0x0, 0x30c0c000, 0x0, 0x0, 0x4040080⟩,
   ⟨0x22, 1, 1, 0x0, 0x0, 0xc000c000, 0x0, 0x0, 0x0⟩,
   ⟨0x23, 1, 1, 0x0, 0x0, 0x0, 0x0, 0x0, 0x0⟩,
   ⟨0x24, 1, 1, 0x0, 0x0, 0xffc00000, 0x0, 0x0, 0x0⟩,
   ⟨0x28, 1, 1, 0xffff0000, 0x0, 0x0, 0x0, 0x0, 0x4000000⟩,
   ⟨0x29, 1, 1, 0xffff, 0x0, 0xffff0000, 0x0, 0x0, 0x4000⟩,
   ⟨0x2a, 1, 1, 0xffffff, 0x0, 0xff000000, 0x0, 0x0, 0x0⟩,
   ⟨0x2b, 1, 1, 0xcfffff00, 0x0, 0x300000ff, 0x0, 0x0, 0x4081000⟩,
   ⟨0x2c, 1, 1, 0xffff, 0x0, 0xffff0000, 0x0, 0x0, 0x1000⟩,
   ⟨0x2d, 1, 1, 0xffffffff, 0x0, 0x0, 0x0, 0x0, 0x6660333⟩,
   ⟨0x2e, 1, 1, 0x0, 0x0, 0x1ff0000, 0x0, 0x0, 0x0⟩,
   ⟨0x2f, 1, 1, 0x0, 0x0, 0x0, 0x0, 0x0, 0x0⟩,
   ⟨0x30, 1, 1, 0xc0ff00ff, 0x0, 0x3f00ff00, 0x0, 0x0, 0x800a00ff⟩,
   ⟨0x31, 1, 1, 0x0, 0x0, 0x0, 0x0, 0x0, 0x0⟩,
   ⟨0x32, 1, 1, 0x0, 0x0, 0x3f000000, 0x0, 0x0, 0x0⟩]

/-- The registers of a RCOMPn page. -/
def rowsRcomp : List RegRow :=
  [⟨0x8, 1, 1, 0x3, 0x0, 0xfffffffc, 0x0, 0x1, 0x0⟩,
   ⟨0x9, 1, 1, 0x0, 0x0, 0x3fffffff, 0x0, 0x0, 0x0⟩,
   ⟨0xa, 1, 1, 0x0, 0x0, 0x0, 0x0, 0x0, 0x0⟩,
   ⟨0xb, 1, 1, 0x0, 0x0, 0xff000000, 0x0, 0x0, 0x0⟩,
   ⟨0xc, 1, 1, 0xffffffff, 0x0, 0x0, 0x0, 0x0, 0x38000000⟩,
   ⟨0xd, 1, 1, 0xffffff, 0x0, 0xff000000, 0x0, 0x0, 0x400001⟩,
   ⟨0xb8, 1, 1, 0xffffffff, 0x0, 0x0, 0x0, 0x0, 0xc400c000⟩,
   ⟨0xb9, 1, 1, 0xffffffff, 0x0, 0x0, 0x0, 0x0, 0xcc00c800⟩,
   ⟨0xba, 1, 1, 0xffffffff, 0x0, 0x0, 0x0, 0x0, 0xd400d000⟩,
   ⟨0xbb, 1, 1, 0xffffffff, 0x0, 0x0, 0x0, 0x0, 0xdc00d800⟩,
   ⟨0xbc, 1, 1, 0xffffffff, 0x0, 0x0, 0x0, 0x0, 0xe400e000⟩,
   ⟨0xbd, 1, 1, 0xffffffff, 0x0, 0x0, 0x0, 0x0, 0xec00e800⟩,
   ⟨0xbe, 1, 1, 0xffffffff, 0x0, 0x0, 0x0, 0x0, 0xf400f000⟩,
   ⟨0xbf, 1, 1, 0xffffffff, 0x0, 0x0, 0x0, 0x0, 0xfc00f800⟩,
   ⟨0xc0, 1, 1, 0xffffffff, 0x0, 0x0, 0x0, 0x0, 0x4000000⟩,
   ⟨0xc1, 1, 1, 0xffffffff, 0x0, 0x0, 0x0, 0x0, 0xc000800⟩,
   ⟨0xc2, 1, 1, 0xffffffff, 0x0, 0x0, 0x0, 0x0, 0x14001000⟩,
   ⟨0xc3, 1, 1, 0xffffffff, 0x0, 0x0, 0x0, 0x0, 0x1c001800⟩,
   ⟨0xc4, 1, 1, 0xffffffff, 0x0, 0x0, 0x0, 0x0, 0x24002000⟩,
   ⟨0xc5, 1, 1, 0xffffffff, 0x0, 0x0, 0x0, 0x0, 0x2c002800⟩,
   ⟨0xc6, 1, 1, 0xffffffff, 0x0, 0x0, 0x0, 0x0, 0x34003000⟩,
   ⟨0xc7, 1, 1, 0xffffffff, 0x0, 0x0, 0x0, 0x0, 0x3c003800⟩,
   ⟨0xc8, 32, 1, 0xffffff, 0x0, 0xff000000, 0x0, 0x0, 0x400001⟩,
   ⟨0x10, 3, 42, 0x37, 0x0, 0xffffffc8, 0x0, 0x0, 0x31⟩,
   ⟨0x11, 24, 7, 0xffffff, 0x0, 0xff000000, 0x0, 0x0, 0x0⟩,
   ⟨0x12, 24, 7, 0xffffff, 0x0, 0xff000000, 0x0, 0x0, 0x0⟩,
   ⟨0x13, 24, 7, 0xffffff, 0x0, 0xff000000, 0x0, 0x0, 0x0⟩,
   ⟨0x14, 24, 7, 0xffffff, 0x0, 0xff000000, 0x0, 0x0, 0x0⟩,
   ⟨0x15, 24, 7, 0xffffff, 0x0, 0xff000000, 0x0, 0x0, 0x0⟩,
   ⟨0x16, 24, 7, 0xffffffff, 0x0, 0x0, 0x0, 0x0, 0x7fff8000⟩,
   ⟨0x17, 5, 7, 0x37, 0x0, 0xffffffc8, 0x0, 0x0, 0x0⟩,
   ⟨0x41, 5, 7, 0x37, 0x0, 0xffffffc8, 0x0, 0x0, 0x0⟩,
   ⟨0x6b, 5, 7, 0x37, 0x0, 0xffffffc8, 0x0, 0x0, 0x0⟩,
   ⟨0x95, 5, 7, 0x37, 0x0, 0xffffffc8, 0x0, 0x0, 0x0⟩,
   ⟨0x8e, 1, 1, 0x37, 0x0, 0xffffffc8, 0x0, 0x0, 0x11⟩]

/-- The registers of a RTABn page. -/
def rowsRtab : List RegRow :=
  [⟨0x8, 128, 1, 0xffffffff, 0x0, 0x0, 0x0, 0x0, 0x0⟩,
   ⟨0x88, 1, 1, 0xc01f00ff, 0x0, 0x3fe0ff00, 0x0, 0x0, 0x0⟩,
   ⟨0x89, 1, 1, 0x7, 0x0, 0xfffffff8, 0x0, 0x4, 0x0⟩,
   ⟨0x8a, 1, 1, 0xffffff, 0x0, 0xff000000, 0x0, 0x0, 0x0⟩,
   ⟨0x8b, 1, 1, 0xffffffff, 0x0, 0x0, 0x0, 0x0, 0x7fff8000⟩,
   ⟨0x8c, 1, 1, 0xffffff, 0x0, 0xff000000, 0x0, 0x0, 0x400002⟩,
   ⟨0x8d, 1, 1, 0x0, 0x0, 0x7000000, 0x0, 0x0, 0x0⟩,
   ⟨0x8e, 1, 1, 0x0, 0x0, 0xffff0000, 0x0, 0x0, 0x0⟩]

/-- The registers of a PIN page. -/
def rowsPin : List RegRow :=
  [⟨0x8, 1, 1, 0x7, 0x0, 0xfffffff8, 0x0, 0x0, 0x0⟩,
   ⟨0x9, 1, 1, 0xff, 0x0, 0xffffff00, 0x0, 0x0, 0x55⟩,
   ⟨0xa, 1, 1, 0xff, 0x0, 0xffffff00, 0x0, 0x0, 0x0⟩,
   ⟨0xb, 1, 1, 0x3f, 0x0, 0xffffffc0, 0x0, 0x0, 0x15⟩,
   ⟨0xc, 1, 1, 0x0, 0x0, 0xffffe088, 0x0, 0x0, 0x0⟩]

/-- The registers of a GANG page. -/
def rowsGang : List RegRow :=
  [⟨0x8, 1, 1, 0xc00000ff, 0xc0000000, 0x3fffff00, 0x0, 0x0, 0x3⟩,
   ⟨0x9, 4, 1, 0x8fffffff, 0x0, 0x70000000, 0x0, 0x0, 0x400001⟩,
   ⟨0xd, 1, 1, 0xffff, 0x0, 0xffff0000, 0x0, 0x0, 0x0⟩,
   ⟨0xe, 1, 1, 0x0, 0x0, 0x7fff0000, 0x0, 0x0, 0x0⟩]

/-- The registers of a page type (R436). -/
def PType.rows : PType → List RegRow
  | .dev => rowsDev
  | .clk => rowsClk
  | .host => rowsHost
  | .fc => rowsFc
  | .fcsev => rowsFcsev
  | .perf => rowsPerf
  | .nv => rowsNv
  | .dom => rowsDom
  | .sbus => rowsSbus
  | .twin => rowsTwin
  | .setin => rowsSetin
  | .grid => rowsGrid
  | .cup => rowsCup
  | .samp => rowsSamp
  | .eng => rowsEng
  | .trip => rowsTrip
  | .rail => rowsRail
  | .ph => rowsPh
  | .rcomp => rowsRcomp
  | .rtab => rowsRtab
  | .pin => rowsPin
  | .gang => rowsGang

/-- The row of a block register: page and offset. -/
def regRow (addr : Nat) : Option RegRow :=
  match pageType (addr / 256) with
  | none => none
  | some (t, _) => t.rows.find? (·.holds (addr % 256))

/-- Reset value of the writable fields of a block register; 0 where there is none (R421, R432). -/
def resetWord (addr : Nat) : Word :=
  match regRow addr with
  | some r => BitVec.ofNat 32 r.rst
  | none => 0

/-! Offsets of the registers in their pages (R436). -/
namespace Reg

abbrev DEV_STS : Nat := 0x8
abbrev DEV_CMD : Nat := 0x9
abbrev DEV_BOOTERRA : Nat := 0xa
abbrev DEV_BOOTERRB : Nat := 0xb
abbrev DEV_IMGSER : Nat := 0xc
abbrev DEV_BOOTTIME : Nat := 0xd
abbrev CLK_STS : Nat := 0x8
abbrev CLK_LOSSCNT : Nat := 0x9
abbrev CLK_FRAME_LO : Nat := 0xa
abbrev CLK_FRAME_HI : Nat := 0xb
abbrev CLK_UPTIME : Nat := 0xc
abbrev CLK_LASTLOSS : Nat := 0xd
abbrev CLK_RCMEAS : Nat := 0xe
abbrev HOST_CFG : Nat := 0x8
abbrev HOST_HPCCFG : Nat := 0x9
abbrev HOST_ERRA : Nat := 0xa
abbrev HOST_ERRB : Nat := 0xb
abbrev HOST_ERRC : Nat := 0xc
abbrev HOST_ERRCLR : Nat := 0xd
abbrev HOST_CURPAGE : Nat := 0xe
abbrev HOST_PTR : Nat := 0xf
abbrev HOST_IRQPEND : Nat := 0x10
abbrev HOST_FRMCNT : Nat := 0x14
abbrev HOST_FRMCLR : Nat := 0x15
abbrev FC_CTL : Nat := 0x8
abbrev FC_STS : Nat := 0x9
abbrev FC_FIRST_HI : Nat := 0xa
abbrev FC_FIRST_LO : Nat := 0xb
abbrev FC_FIRST_TS : Nat := 0xc
abbrev FC_OVF : Nat := 0xd
abbrev FC_CMD : Nat := 0xe
abbrev FC_ALIVE : Nat := 0xf
abbrev FC_INJADR : Nat := 0x10
abbrev FC_SEQ : Nat := 0x11
abbrev FC_LOGCNT : Nat := 0x12
abbrev FC_LOGSEL : Nat := 0x13
abbrev FC_LOG_HI : Nat := 0x14
abbrev FC_LOG_LO : Nat := 0x15
abbrev FC_LOG_TS : Nat := 0x16
abbrev FC_LAT : Nat := 0x20
abbrev FC_STAND : Nat := 0x28
abbrev FCSEV_CLS : Nat := 0x8
abbrev PERF_RUN : Nat := 0x8
abbrev PERF_CLR : Nat := 0x9
abbrev PERF_OVF : Nat := 0xa
abbrev PERF_SNAPHI : Nat := 0xb
abbrev PERF_BWWIN : Nat := 0xc
abbrev PERF_BWSEQ : Nat := 0xd
abbrev PERF_BW : Nat := 0x10
abbrev PERF_CTR : Nat := 0x20
abbrev PERF_CFG : Nat := 0x40
abbrev NV_STS : Nat := 0x8
abbrev NV_PROT : Nat := 0x9
abbrev NV_CMD : Nat := 0xa
abbrev NV_ADDR : Nat := 0xb
abbrev NV_REC : Nat := 0xc
abbrev NV_RSEQ : Nat := 0xd
abbrev NV_SPACE : Nat := 0xe
abbrev NV_WEAR : Nat := 0xf
abbrev NV_DROP : Nat := 0x10
abbrev NV_TALLY : Nat := 0x14
abbrev NV_TCFG : Nat := 0x1c
abbrev NV_BUF : Nat := 0x40
abbrev DOM_MAP01 : Nat := 0x8
abbrev DOM_MAP23 : Nat := 0x9
abbrev DOM_DRVSTS : Nat := 0xa
abbrev DOM_CMD : Nat := 0x10
abbrev DOM_SEQTO : Nat := 0x11
abbrev DOM_SEQSTS : Nat := 0x12
abbrev SB_CFG : Nat := 0x8
abbrev SB_STS : Nat := 0x9
abbrev SB_CNT : Nat := 0xa
abbrev SB_HCMD : Nat := 0xb
abbrev SB_HDATA : Nat := 0xc
abbrev SB_POLL : Nat := 0x40
abbrev SB_MB : Nat := 0x80
abbrev TWIN_CFG : Nat := 0x8
abbrev TWIN_DTOL : Nat := 0x9
abbrev TWIN_STS : Nat := 0xa
abbrev TWIN_CMD : Nat := 0xb
abbrev TWIN_ALIGN : Nat := 0xc
abbrev TWIN_DIGEST : Nat := 0xd
abbrev TWIN_PDIGEST : Nat := 0xe
abbrev TWIN_LINKCNT : Nat := 0xf
abbrev TWIN_RPL : Nat := 0x10
abbrev TWIN_LAST : Nat := 0x11
abbrev SETIN_SPA_CFG : Nat := 0x8
abbrev SETIN_SPA_OFS : Nat := 0xc
abbrev SETIN_SPP_CFG : Nat := 0x10
abbrev SETIN_SPP_OFS : Nat := 0x14
abbrev SETIN_SPA_VAL : Nat := 0x18
abbrev SETIN_SPP_VAL : Nat := 0x1c
abbrev SETIN_ZCFILT : Nat := 0x20
abbrev SETIN_ZCSTAMP : Nat := 0x21
abbrev GRID_CFG : Nat := 0x8
abbrev GRID_ZCOFS : Nat := 0x9
abbrev GRID_WIN : Nat := 0xa
abbrev GRID_STS : Nat := 0xb
abbrev GRID_ANG : Nat := 0xc
abbrev GRID_FREQ : Nat := 0xd
abbrev GRID_PER : Nat := 0xe
abbrev GRID_CNT : Nat := 0xf
abbrev CUP_CFG : Nat := 0x8
abbrev CUP_AMP : Nat := 0x9
abbrev CUP_FREQ : Nat := 0xa
abbrev CUP_FSTART : Nat := 0xb
abbrev CUP_FSTOP : Nat := 0xc
abbrev CUP_NPTS : Nat := 0xd
abbrev CUP_ADMIN : Nat := 0xe
abbrev CUP_ADMAX : Nat := 0xf
abbrev CUP_ADSTEP : Nat := 0x10
abbrev CUP_CMD : Nat := 0x11
abbrev CUP_STS : Nat := 0x12
abbrev CUP_GAIN : Nat := 0x13
abbrev CUP_PHASE : Nat := 0x14
abbrev CUP_XO : Nat := 0x15
abbrev CUP_GM : Nat := 0x16
abbrev CUP_ASCALE : Nat := 0x20
abbrev SAMP_AUXEN : Nat := 0x8
abbrev SAMP_AUXSCALE : Nat := 0x10
abbrev SAMP_AUX : Nat := 0x20
abbrev SAMP_INT0 : Nat := 0x30
abbrev SAMP_INT1 : Nat := 0x31
abbrev SAMP_CAPSEL : Nat := 0x40
abbrev SAMP_CAPCFG : Nat := 0x41
abbrev SAMP_CAPLVL : Nat := 0x42
abbrev SAMP_CAPCTL : Nat := 0x43
abbrev SAMP_CAPSTS : Nat := 0x44
abbrev SAMP_CAPPTR : Nat := 0x45
abbrev SAMP_CAPDATA : Nat := 0x46
abbrev ENG_STS : Nat := 0x8
abbrev ENG_LOAD : Nat := 0x9
abbrev ENG_UTIL : Nat := 0xa
abbrev ENG_WIN : Nat := 0xb
abbrev ENG_QUEUE : Nat := 0xc
abbrev ENG_LAT : Nat := 0xd
abbrev ENG_OVRCNT : Nat := 0xe
abbrev ENG_CLR : Nat := 0xf
abbrev ENG_DBG : Nat := 0x10
abbrev ENG_STADR : Nat := 0x11
abbrev ENG_STDAT : Nat := 0x12
abbrev TRIP_CFG : Nat := 0x8
abbrev TRIP_MAP : Nat := 0x20
abbrev TRIP_STS : Nat := 0x38
abbrev TRIP_RAW : Nat := 0x39
abbrev TRIP_CLR : Nat := 0x3a
abbrev RAIL_CFG : Nat := 0x8
abbrev RAIL_ASSIGN_LO : Nat := 0x9
abbrev RAIL_ASSIGN_HI : Nat := 0xa
abbrev RAIL_VBASE_MV : Nat := 0xb
abbrev RAIL_VSCALE : Nat := 0xc
abbrev RAIL_IBASE_MA : Nat := 0xd
abbrev RAIL_VSAMP : Nat := 0x10
abbrev RAIL_VSTS : Nat := 0x11
abbrev RAIL_VMEAS : Nat := 0x12
abbrev RAIL_VDAC : Nat := 0x13
abbrev RAIL_IMEAS : Nat := 0x14
abbrev RAIL_SETPT : Nat := 0x20
abbrev RAIL_SRC : Nat := 0x21
abbrev RAIL_SLEW : Nat := 0x22
abbrev RAIL_TRACK : Nat := 0x23
abbrev RAIL_REF : Nat := 0x24
abbrev RAIL_ILIM : Nat := 0x25
abbrev RAIL_PLIM : Nat := 0x26
abbrev RAIL_LIMCFG : Nat := 0x27
abbrev RAIL_CMD : Nat := 0x28
abbrev RAIL_STS : Nat := 0x29
abbrev RAIL_FELIM : Nat := 0x2a
abbrev RAIL_FETIME : Nat := 0x2b
abbrev RAIL_STARTCFG : Nat := 0x2c
abbrev RAIL_STOPCFG : Nat := 0x2d
abbrev RAIL_STOPTMAX : Nat := 0x2e
abbrev RAIL_RESTART : Nat := 0x2f
abbrev RAIL_SEQ : Nat := 0x30
abbrev RAIL_SHCFG : Nat := 0x38
abbrev RAIL_SHTHR : Nat := 0x39
abbrev RAIL_SHDWELL : Nat := 0x3a
abbrev RAIL_SHORD : Nat := 0x3b
abbrev RAIL_SHSTS : Nat := 0x41
abbrev RAIL_DRIPCFG : Nat := 0x42
abbrev RAIL_DRIPTHR : Nat := 0x43
abbrev RAIL_BRKCFG : Nat := 0x44
abbrev RAIL_BRKLIM : Nat := 0x45
abbrev RAIL_CAP : Nat := 0x46
abbrev RAIL_OVP : Nat := 0x48
abbrev RAIL_VLIM : Nat := 0x49
abbrev RAIL_XLIM : Nat := 0x4a
abbrev RAIL_LIMT : Nat := 0x4b
abbrev RAIL_THCFG : Nat := 0x4c
abbrev RAIL_THLIM : Nat := 0x4d
abbrev RAIL_THDER : Nat := 0x4e
abbrev RAIL_SCCFG : Nat := 0x4f
abbrev RAIL_SWSK : Nat := 0x50
abbrev RAIL_PROTSTS : Nat := 0x51
abbrev PH_CFG : Nat := 0x8
abbrev PH_IBASE_MA : Nat := 0x9
abbrev PH_ISCALE : Nat := 0xa
abbrev PH_ISENSE : Nat := 0x10
abbrev PH_SAMP : Nat := 0x11
abbrev PH_IOFS : Nat := 0x12
abbrev PH_IMEAS : Nat := 0x13
abbrev PH_SWSTHR : Nat := 0x14
abbrev PH_CTL : Nat := 0x18
abbrev PH_STS : Nat := 0x19
abbrev PH_PER : Nat := 0x1a
abbrev PH_CMP : Nat := 0x1b
abbrev PH_DT : Nat := 0x1c
abbrev PH_OFS : Nat := 0x1d
abbrev PH_LOAD : Nat := 0x1e
abbrev PH_DTMIN : Nat := 0x1f
abbrev PH_DTMAX : Nat := 0x20
abbrev PH_DTCFG : Nat := 0x21
abbrev PH_DTSTS : Nat := 0x22
abbrev PH_CNT : Nat := 0x23
abbrev PH_ACTCMP : Nat := 0x24
abbrev PH_TRIM : Nat := 0x28
abbrev PH_IMAX : Nat := 0x29
abbrev PH_OBSK : Nat := 0x2a
abbrev PH_DETCFG : Nat := 0x2b
abbrev PH_OBSLIM : Nat := 0x2c
abbrev PH_OPENCFG : Nat := 0x2d
abbrev PH_PMSTS : Nat := 0x2e
abbrev PH_OBSRES : Nat := 0x2f
abbrev PH_CBC : Nat := 0x30
abbrev PH_CBCCNT : Nat := 0x31
abbrev PH_PROTSTS : Nat := 0x32
abbrev RCOMP_CTL : Nat := 0x8
abbrev RCOMP_STS : Nat := 0x9
abbrev RCOMP_COST : Nat := 0xa
abbrev RCOMP_DEC : Nat := 0xb
abbrev RCOMP_DLIM : Nat := 0xc
abbrev RCOMP_FFK : Nat := 0xd
abbrev RCOMP_LUTX : Nat := 0xb8
abbrev RCOMP_LUTG : Nat := 0xc8
abbrev RTAB_E : Nat := 0x8
abbrev RTAB_CFG : Nat := 0x88
abbrev RTAB_LCTL : Nat := 0x89
abbrev RTAB_MU : Nat := 0x8a
abbrev RTAB_BND : Nat := 0x8b
abbrev RTAB_NOTCH : Nat := 0x8c
abbrev RTAB_STS : Nat := 0x8d
abbrev RTAB_TERM : Nat := 0x8e
abbrev PIN_FUNC0 : Nat := 0x8
abbrev PIN_FUNC1 : Nat := 0x9
abbrev PIN_FUNC2 : Nat := 0xa
abbrev PIN_FUNC3 : Nat := 0xb
abbrev PIN_STS : Nat := 0xc
abbrev GANG_CFG : Nat := 0x8
abbrev GANG_SLOT : Nat := 0x9
abbrev GANG_OFS : Nat := 0xd
abbrev GANG_STS : Nat := 0xe

end Reg

/-! Page bases. -/
namespace Pg
abbrev DEV : Nat := 0x00
abbrev CLK : Nat := 0x01
abbrev HOST : Nat := 0x02
abbrev FC : Nat := 0x03
abbrev FCSEV : Nat := 0x04
abbrev PERF : Nat := 0x05
abbrev NV : Nat := 0x06
abbrev DOM : Nat := 0x07
abbrev SBUS : Nat := 0x08
abbrev TWIN : Nat := 0x09
abbrev SETIN : Nat := 0x0A
abbrev GRID : Nat := 0x0B
abbrev CUP : Nat := 0x0C
abbrev SAMP : Nat := 0x0D
abbrev ENG : Nat := 0x0E
abbrev TRIP : Nat := 0x0F
abbrev RAIL : Nat := 0x10
abbrev PH : Nat := 0x20
abbrev RCOMP : Nat := 0x50
abbrev RTAB : Nat := 0x60
abbrev PIN : Nat := 0x70
abbrev GANG : Nat := 0x71
end Pg

end Sys2Proof.Machine
end

