-- ==== Sys2Proof/Machine/State.lean ====
section
/-! DEFINITION. Machine/State.lean: everything the spec gives the device, as plain data, and the device right after
power-on reset is asserted. Registers whose fields a host writes live in one sparse store (`bank`); every status field is
computed from the structured parts below by Machine/View.lean. -/

namespace Sys2Proof.Machine

/-! ### Fault collector (R271-R298) -/

/-- A message that waits for the arbiter (R271, R274). `kind`: 0 EVENT, 1 SET, 2 CLEAR. `born` is the CKB cycle in
which it was raised (R275). -/
structure Msg where
  src : Nat
  kind : Nat
  addr : Nat
  inj : Bool
  real : Bool
  rep : Bool
  born : Nat
  /-- the frozen frame count of the clock loss that a message of R66 reports: its time stamp (R71) -/
  stamp : Option Nat
  deriving DecidableEq, Repr

/-- One entry of the log (R284): FC_LOG_HI (without VALID), FC_LOG_LO and FC_LOG_TS. -/
structure LogEntry where
  hi : Word
  lo : Word
  ts : Word
  deriving DecidableEq, Repr

/-- The collector. `log` holds the newest entry first, at most 64; `stand` the (source, address) pairs that stand. -/
structure Fc where
  pend : List Msg
  stand : List (Nat × Nat)
  seq : Nat
  log : List LogEntry
  logCnt : Nat
  firstHi : Word
  firstLo : Word
  firstTs : Word
  ovf : Bool
  ovfCnt : Nat
  safe : Bool
  locked : Bool
  self : Bool
  nvskip : Nat
  deriving DecidableEq, Repr

/-- Level of an output pin that may be undriven. -/
inductive Lvl where
  | hiZ | low | high
  deriving DecidableEq, Repr

/-! ### Device, clocks (R58-R73, R409-R420) -/

/-- The device states (R418), with the codes of DEV_STS.STATE. -/
inductive DevState where
  | boot | idle | active | standby | safe | locked
  deriving DecidableEq, Repr

/-- What BOOT finds behind step 1 (R413): how the trim block, the collector and the flash check. -/
structure BootFinds where
  trimOk : Bool
  collectorOk : Bool
  flashOk : Bool
  deriving DecidableEq, Repr

/-- Device level: state, reset, straps, clock monitor, roll-call signal. -/
structure Dev where
  st : DevState
  /-- a reset is asserted (R412) -/
  rst : Bool
  /-- DEV_STS.CAUSE of the reset in force or last released: 0 POR, 1 RESETn, 2 soft, 3 twin-commanded -/
  cause : Nat
  img : Nat
  bootErrA : Word
  bootErrB : Word
  imgSer : Word
  bootTime : Nat
  /-- BOOT must end in LOCKED: a POR without loss of VCORE came from LOCKED (R411) -/
  lockAtEnd : Bool
  /-- BOOT has passed step 1: the PLL has locked (R413) -/
  pllUp : Bool
  /-- BOOT waits in step 1, with what the steps behind it will find (R413) -/
  step1 : Option BootFinds
  /-- straps as sampled: CLKSEL, ROLE, OWNSEL, ADDR0, ADDR1 (R58, R301, R359, R366) -/
  clksel : Bool
  role : Bool
  ownsel : Bool
  addr0 : Bool
  addr1 : Bool
  /-- the derived clocks stand still (R65) -/
  clkStop : Bool
  /-- detected clock-loss conditions not yet reported: reference loss, PLL unlock (R66) -/
  lossRef : Bool
  lossPll : Bool
  /-- CLK_STS.LOSSCAUSE: seen since reset -/
  causeRef : Bool
  causePll : Bool
  safeHold : Bool
  rcOk : Bool
  /-- consecutive RC measurements that disagree with RCOK -/
  rcRun : Nat
  rcMeas : Nat
  /-- frames since the latest RC measurement, of the 1000 between two (R68) -/
  rcAge : Nat
  refLoss : Nat
  pllUnlk : Nat
  lastLoss : Word
  frame : Nat
  /-- the first CKF edge after the reset is still to come: the counter does not advance at it (R70) -/
  fresh : Bool
  alive : Lvl
  /-- frames to the next ALIVE edge -/
  aliveLeft : Nat
  /-- levels the interrupt pins keep while CKB is stopped, per host: true = driven low (R380) -/
  irqHeld : List Bool
  /-- TESTEN high (R452) -/
  testen : Bool
  /-- instruction of the test access port, the bits last shifted out of its data register, the boundary register's update latches -/
  tap : TapInstr
  tdo : List Bool
  cells : List Bool
  deriving DecidableEq, Repr

/-! ### Phases (R107-R137, R208-R239) -/

/-- A set of the shadows of a generator (R121): period and offset in CNT, compare and delays in FINE. -/
structure GenSet where
  per : Nat
  cmp : Nat
  dth : Nat
  dtl : Nat
  ofs : Nat
  deriving DecidableEq, Repr

/-- One output over the present period (R110-R113): `pulse rise fall` in FINE from the boundary; `rise = none` high since
before the boundary, `fall = none` high beyond the end of the period. -/
inductive Pin where
  | hiZ
  | low
  | pulse (rise fall : Option Nat)
  /-- the high side after its low side was ended: its pulse from `rise` to `fall`, and high again from `again` on (R236) -/
  | two (rise : Option Nat) (fall again : Nat) (end_ : Option Nat)
  /-- high impedance for the first 16 CNT of the period, then as given (R321) -/
  | headZ (p : Pin)
  deriving DecidableEq, Repr

/-- A PWM generator. -/
structure Gen where
  /-- published count -/
  count : Nat
  /-- begin of the present period in CNT since reset: frame × 400 + position (R107) -/
  org : Nat
  /-- reference instant of the start that is due, in the same unit; none while it has not come (R119, R214) -/
  ref : Option Nat
  /-- the active set (R121) -/
  act : GenSet
  /-- active period and compare of the present period: differ from `act` in the blended period (R120) -/
  curPer : Nat
  curCmp : Nat
  /-- complete set written by the engine and not yet transferred (R125) -/
  eset : Option GenSet
  ldpend : Bool
  /-- active delays, FINE, and the adaptation of each edge (R114-R116) -/
  dth : Nat
  dtl : Nat
  /-- the delays the present period began with, FINE (R113) -/
  dthNow : Nat
  dtlNow : Nat
  hardH : Bool
  hardL : Bool
  missH : Nat
  missL : Nat
  adH : Bool
  adL : Bool
  /-- delay line within calibration; fractional placement in force (R118) -/
  dlok : Bool
  fine : Bool
  /-- has begun its first period since STOP or FROZEN (R119, R128) -/
  going : Bool
  /-- both outputs in high impedance for the first 16 CNT of the present period (R321) -/
  zHead : Bool
  /-- kept in TRIP until its next boundary (R134) -/
  tripHold : Bool
  /-- a standby's generator is past the boundary from which it drives (R129, R318, R321) -/
  driving : Bool
  /-- phase management or the rail commands HOLD from the present period on (R208, R219, R223) -/
  hold : Bool
  /-- the two outputs over the present period -/
  hpin : Pin
  lpin : Pin
  /-- rises of the outputs that carry over the boundary at which the period began, in FINE before it (R235) -/
  riseH : Nat
  riseL : Nat
  /-- begin of the low side's active phase in the present period, in FINE: the compare, or the end of the high side's (R236) -/
  lowAt : Nat
  /-- the low side's active phase has been ended by its guard (R236) -/
  lowCut : Bool
  /-- frame + 1 in which a trip or BRAKE cut the outputs; 0: none in the present period (R255) -/
  cut : Nat
  /-- side active at the end of the present period: true = high side (R113) -/
  endHigh : Bool
  /-- no pulse of the present period has been truncated (R114) -/
  whole : Bool
  /-- PH_DTCFG, PH_DTMIN, PH_DTMAX as in force since the last boundary (R116) -/
  dtCfg : Word
  dtMin : Word
  dtMax : Word
  deriving DecidableEq, Repr

/-- Condition of a phase in its rail (R208). -/
inductive Pst where
  | none | active | shed | unavail | failed
  deriving DecidableEq, Repr

/-- What an observer step was taken with (R225): the estimate and the count before it, the measurement, the terminal voltages, dead reckoning,
and the share of the period for which the high side conducts as it stood. -/
structure ObsIn where
  est : Int
  ncnt : Nat
  meas : Int
  vi : Rat
  vb : Rat
  dead : Bool
  h : Rat
  deriving DecidableEq, Repr

/-- A phase: generator, current sensing, phase management, cycle-by-cycle limit. -/
structure Phase where
  gen : Gen
  /-- sample rule in force in the present period: SMODE, LEAD, FIXED (R87) -/
  smode : Nat
  slead : Nat
  sfixed : Nat
  /-- a control conversion of the present period has started; one is in progress (R88) -/
  sampled : Bool
  converting : Bool
  /-- CKS cycle at which the control conversion in progress ends (R140) -/
  convAt : Nat
  isamp : Int
  iavg : Int
  /-- sum and number of the free-running conversions of the present period, codes (R88) -/
  frSum : Int
  frN : Nat
  /-- sum and number of every conversion of the present period, for SMODE = AVG (R87) -/
  avSum : Int
  avN : Nat
  /-- latest free-running or control result, SPU16, for capture (R101) -/
  ilast : Int
  iofs : Int
  /-- IS_RANGE armed, and consecutive conversions inside full scale (R82) -/
  isArmed : Bool
  isIn : Nat
  pst : Pst
  /-- available from the next frame (R209) -/
  joinNext : Bool
  /-- CKB cycle in which EN = 0 last took the phase out of the active set, in the model's count (R230) -/
  offAt : Option Nat
  /-- offset that the engine's next complete set gives the phase (R214) -/
  newOfs : Option Nat
  /-- joining: zeroed contexts and first set not yet transferred (R214) -/
  joining : Bool
  /-- lead phase as it stood before the phase joined: its boundary is the reference of a start (R214) -/
  joinLead : Option Nat
  est : Bool
  tsat : Bool
  /-- observer estimate, 1/256 of an SPU16 code (R225) -/
  oest : Int
  ores : Int
  /-- the observer step of the present period, which a later end of a pulse corrects (R225, R238) -/
  obs : Option ObsIn
  /-- the estimate is seeded: a RUN period has passed since it last did not run -/
  seeded : Bool
  ncnt : Nat
  ocnt : Nat
  senseRaised : Bool
  openRaised : Bool
  trim : Int
  /-- consecutive balance updates at a bound, and inside (R216) -/
  trimAt : Nat
  trimIn : Nat
  /-- last energy duty of the phase (R152), held duty in DRIP (R219), last output before DRIP -/
  duty : Rat
  dripDuty : Rat
  preDrip : Rat
  /-- current reference share of the phase, pu (R154) -/
  iref : Rat
  /-- preload of the current loop with this output at its next update (R155, R188) -/
  plC : Option Rat
  /-- triggers since the last update, for the decimation of R139 -/
  cntCur : Nat
  cntBal : Nat
  cbcFwd : Nat
  cbcRev : Nat
  cbcRun : Nat
  cbcAct : Bool
  cbcArmed : Bool
  cbcQuiet : Nat
  /-- the forward and the reverse guard have ended a pulse of the present period (R235) -/
  endF : Bool
  endR : Bool
  /-- PH_CBC as in force since the last boundary (R239) -/
  cbcCfg : Word
  /-- PH_TRIM, PH_IMAX, PH_OBSK, PH_DETCFG, PH_OBSLIM, PH_OPENCFG as in force since the last boundary (R232) -/
  pmCfg : List Word
  schigh : Bool
  deriving DecidableEq, Repr

/-! ### Rails (R166-R190, R208-R254) -/

/-- The rail states (R172). -/
inductive RailState where
  | off | precheck | prebias | ramp | regulate | drip | limit | brake | stopping | faulted | locked
  deriving DecidableEq, Repr

/-- A condition that stands after so many consecutive frames or conversions. -/
structure Cond where
  up : Nat
  dn : Nat
  on : Bool
  deriving DecidableEq, Repr

/-- One window conversion, in volts at the pins: out of window, window voltage, absolute voltage then (R76, R77). -/
structure WinConv where
  oow : Bool
  v : Rat
  abs : Rat
  deriving DecidableEq, Repr

/-- A stage block: eight mantissas and one exponent (R53). -/
structure Block where
  e : Int
  m : List Int
  deriving DecidableEq, Repr

/-- A rail. -/
structure Rail where
  st : RailState
  /-- lead phase in force (R89, R230) -/
  lead : Option Nat
  /-- start accepted, PRECHECK not yet entered (R173) -/
  startPend : Bool
  /-- stop accepted, to be carried out at the next frame (R180) -/
  stopPend : Bool
  /-- mode of a stop that the gang has asked for during a debug halt (R161, R327) -/
  gangPend : Option Nat
  /-- reference in 2^-16 code (R168), and target (R166) -/
  ref : Nat
  target : Nat
  trkdone : Bool
  /-- LIMDIR: 0 none, 1 upper, 2 lower -/
  limdir : Nat
  feact : Bool
  feCnt : Nat
  feIn : Nat
  nrst : Nat
  rstpend : Bool
  /-- frames left of the restart delay; none when no delay runs -/
  rstDelay : Option Nat
  /-- sources (with addresses) that faulted the rail, and RESTART.POLICY at entry -/
  faultedBy : List (Nat × Nat)
  policy : Bool
  /-- RESTART.NMAX at entry to FAULTED (R183) -/
  nmax : Nat
  /-- frames in the present state -/
  frames : Nat
  /-- offset measurements still open in PRECHECK; short check complete -/
  ofsLeft : List Nat
  scDone : Bool
  scTested : Bool
  /-- PREBIAS: sum of the conversions, their number (R175) -/
  pbSum : Nat
  pbN : Nat
  /-- start group: rails started by one domain command at one rank share it; 0 = alone (R175) -/
  group : Nat
  /-- in STOPPING: mode at entry, ramped bounds in 2^-16 code of pu (R181) -/
  stopMode : Nat
  rampHi : Nat
  rampLo : Nat
  /-- voltage sensing -/
  vabs : Nat
  vabsV : Rat
  vabsValid : Bool
  win : List WinConv
  oow : Bool
  oowCnt : Nat
  oowRun : Nat
  inRun : Nat
  vsArmed : Bool
  vsRange : Cond
  vsFail : Cond
  vloop : Nat
  vdac : Nat
  /-- reference and grid angle latched at the end of the sample that triggers the update (R75, R198) -/
  uRef : Nat
  uAng : Nat
  /-- voltage measurements taken in the lead phase's present period (R89), and end of the latest in CNT since reset -/
  vmN : Nat
  vmAt : Nat
  /-- code of the fast overvoltage comparator's DAC, and the code before its latest change (R80, R131) -/
  ovDac : Nat
  ovOld : Nat
  irail : Int
  /-- filtered current magnitude in 2^-16 code (R211) -/
  ifilt : Nat
  /-- rail output: current reference (CASCADE) or energy duty (DIRECT), pu; last output before DRIP -/
  out : Rat
  preDrip : Rat
  /-- current bounds of R177 as of the latest outer-limiter update; CAP, and CAP as used (R217, R247) -/
  hi : Rat
  lo : Rat
  cap : Nat
  capUse : Nat
  /-- output of the outer limiter, and its preload at its next update -/
  limOut : Rat
  plL : Option Rat
  /-- consecutive clamped updates, and the bound they concern (R178) -/
  limCnt : Nat
  limSide : Nat
  /-- error of the update before, and whether that update fell by more than SLOPE (R222) -/
  ePrev : Option Rat
  fell : Bool
  /-- FFSRC reported failed (R23); latest valid conversion of the rail's own channel, PU16 (R177) -/
  ffLost : Bool
  vOk : Option Nat
  /-- RAIL_SHCFG, RAIL_DRIPCFG, RAIL_BRKCFG, RAIL_BRKLIM, RAIL_THDER, RAIL_SHDWELL as in force since the last frame (R232, R256), and
  RAIL_LIMCFG since the last outer-limiter update (R190) -/
  rgCfg : List Word
  limCfg : Word
  /-- preload of the voltage loop with this output at its next update -/
  plV : Option Rat
  /-- decimation in force and trigger count of the outer limiter (R139) -/
  nOut : Nat
  nCur : Nat
  nBal : Nat
  cntOut : Nat
  /-- commit pending, copy-back pending, active bank failed parity (R159, R165) -/
  pend : Bool
  copying : Bool
  bankErr : Bool
  /-- phase-management counters (R212, R218) -/
  shedCnt : Nat
  addCnt : Nat
  dripCnt : Nat
  /-- DRIP is to be left: the active set has changed during a debug halt (R161, R220) -/
  dripDue : Bool
  /-- CKB cycle of the latest change of the active set, in the model's count (R214, R230) -/
  chgAt : Option Nat
  /-- ripple: blend step, last index and term, learning, saturation (R198-R204) -/
  w : Nat
  rIdx : Nat
  rTerm : Int
  learning : Bool
  rSat : Bool
  satQuiet : Nat
  /-- notch states x1, x2, y1, y2 -/
  notch : Block
  /-- coefficients b0, b1, a2 of the notch, and whether they are computed before the next update (R202) -/
  notchK : List Word
  notchDue : Bool
  /-- protection conditions (R243, R246) -/
  ov : Cond
  uv : Cond
  xov : Cond
  xuv : Cond
  tw : Cond
  ot : Cond
  uvArmed : Bool
  /-- RAIL_TWARN stands and was accepted at class 2: CAP is derated (R247) -/
  derate : Bool
  thval : Nat
  scres : Nat
  sccode : Nat
  /-- RAIL_SCCFG as in force since PRECHECK entry (R251) -/
  scCfg : Word
  deriving DecidableEq, Repr

/-- A domain (R25, R184-R186). -/
structure Dom where
  /-- instant by which DRVEN had last been driven high, in CNT since reset (R27) -/
  drvRise : Nat
  /-- 0 idle, 1 starting, 2 stopping -/
  seq : Nat
  rank : Nat
  /-- rails that take part and have not yet been issued their command -/
  todo : List Nat
  /-- rails issued and, while starting, not yet settled -/
  issued : List Nat
  /-- frames since the rank in progress became due -/
  wait : Nat
  /-- frames since the first rail of the rank in progress was started -/
  age : Nat
  /-- the sequence is an automatic restart of the domain (R183) -/
  auto_ : Bool
  /-- per rail: frames since every rail of higher rank had stopped, in a stop sequence (R185) -/
  stopWait : List (Option Nat)
  deriving DecidableEq, Repr

/-! ### Loop engine (R138-R165) -/

/-- A queued update: context, and the CKS cycle since reset in which the sample that triggers it ended (R140). -/
structure QItem where
  ctx : Nat
  at_ : Nat
  deriving DecidableEq, Repr

/-- The loop engine: the stage blocks of the 128 contexts, queue, statistics, debug halt. -/
structure Eng where
  ctx : Vector (List Block) 128
  queue : List QItem
  halted : Bool
  haltReq : Bool
  /-- contexts of which a state word has failed parity and has not been rebuilt (R165) -/
  parity : List Nat
  lastOvr : Nat
  ovrCnt : Nat
  util : Nat
  peak : Nat
  /-- lane cycles issuing a MAC in the present window, its length and its frames left -/
  macs : Nat
  winLen : Nat
  winLeft : Nat
  qPeak : Nat
  latI : Nat
  latV : Nat
  deriving DecidableEq, Repr

/-! ### Sensing front end: auxiliary converter, setpoint inputs, grid input, capture (R94-R103) -/

/-- The auxiliary converter and the internal monitors (R94, R95, R248, R297). -/
structure Aux where
  raw : List Nat
  val : List Nat
  /-- latest valid conversion of each channel, PU16 (R177) -/
  ok : List (Option Nat)
  range : List Cond
  /-- slots still to be converted in the present round: 0-15 AUX channels, 16 TDIE, 17 VCORE, 18 VANA, 19 VIO -/
  round : List Nat
  tdie : Int
  vcore : Nat
  vana : Nat
  vio : Nat
  sarSelf : Cond
  dieWarn : Cond
  dieShut : Cond
  supply : List Cond
  deriving DecidableEq, Repr

/-- An analogue setpoint input (R96): latest codes, newest first, and the setpoint. -/
structure Spa where
  hist : List Nat
  val : Nat
  deriving DecidableEq, Repr

/-- A pulse setpoint input (R97). -/
structure Spp where
  duty : Nat
  val : Nat
  bad : Nat
  quiet : Nat
  loss : Bool
  deriving DecidableEq, Repr

/-- The angle tracker (R191-R196). Times are absolute CNT: frame × 400 + position in the frame. -/
structure Grid where
  /-- latest accepted edge: frame and CNT (SETIN_ZCSTAMP) -/
  zcFrame : Nat
  zcCnt : Nat
  ref : Option Nat
  /-- 40-bit phase accumulator as of CKS edge `accAt` since reset, the latest frame edge or the latest change of its increment since, and
  the increment per CKS edge (R192) -/
  acc : Nat
  /-- that CKS edge, counted from reset (R192) -/
  accAt : Nat
  inc : Nat
  fEst : Rat
  fRun : Rat
  phErr : Int
  per : Nat
  lock : Bool
  valid : Bool
  lcnt : Nat
  mcnt : Nat
  /-- missed periods since the reference edge (R195) -/
  missed : Nat
  ulk : Nat
  rej : Nat
  /-- GRID_CFG and GRID_ZCOFS in force since the latest valid edge (R196) -/
  cfg : Word
  zcofs : Nat
  /-- the latest valid edge's phase error exceeded UNLK (R195) -/
  tooFar : Bool
  deriving DecidableEq, Repr

/-- Snapshot capture and the buffer it shares with the cupping unit (R101-R103, R264). -/
structure Capt where
  owner : Nat
  st : Nat
  share : Nat
  sel : List Nat
  chans : List (List Nat)
  trig : Option Nat
  /-- the selected fault source has been accepted since the last tick (R103) -/
  srcSeen : Bool
  prev0 : Option Int
  /-- the buffer was last filled by a sweep: its points' samples -/
  isSweep : Bool
  sweep : List Nat
  deriving DecidableEq, Repr

/-! ### Cupping unit (R257-R269) -/

/-- The sums Σ x sin θ, Σ x cos θ, Σ u sin θ, Σ u cos θ of an integration (R258). -/
structure CupSums where
  xs : Rat
  xc : Rat
  us : Rat
  uc : Rat
  deriving DecidableEq, Repr

/-- The cupping unit. -/
structure Cup where
  run : Bool
  rail : Nat
  mode : Nat
  aden : Bool
  /-- the injection has begun, at a voltage-loop update in REGULATE (R262) -/
  begun : Bool
  /-- phase accumulator, 32 bits -/
  theta : Nat
  /-- the half turn θ lay in at the update before (R263) -/
  half : Nat
  amp : Nat
  f : Word
  pt : Nat
  /-- updates left of settling and of integration -/
  settle : Nat
  integ : Nat
  sums : CupSums
  /-- sums of the integration that is complete and whose result is not yet written -/
  result : Option CupSums
  /-- completed points of the sweep: frequency, |L|, arg L -/
  pts : List (Word × Word × Nat)
  /-- ends at the next zero of the sine: with done, by STOP, by the rail -/
  ending : Option (Bool × Bool)
  /-- the next zero has been reached -/
  zero : Bool
  last : Nat
  adlim : Bool
  /-- ADMIN or ADMAX has been written since the last voltage-loop update of the adapting rail (R267) -/
  bndNew : Bool
  adArmed : Bool
  noxo : Bool
  nogm : Bool
  gain : Word
  pm : Nat
  ph : Nat
  xo : Word
  gm : Word
  /-- α per rail -/
  alpha : List Word
  deriving DecidableEq, Repr

/-! ### Host ports (R359-R382) -/

/-- A host's error register (R377). -/
structure HostErr where
  code : Nat
  cnt : Nat
  addr : Nat
  deriving DecidableEq, Repr

/-- An SPI port (R361-R365). -/
structure Spi where
  /-- a frame is in progress, and it is served (R360) -/
  sel : Bool
  serve : Bool
  mode3 : Bool
  hdr : List Byte
  /-- words presented -/
  done : Nat
  /-- status of the frame in progress, and of the previous frame -/
  code : Nat
  prev : Nat
  deriving DecidableEq, Repr

/-- The two-wire port (R366-R372). -/
structure Hpc where
  ptr : Nat
  /-- a transfer is in progress; it began with a pointer byte -/
  busy : Bool
  serve : Bool
  /-- bytes of the transfer so far, for the PEC -/
  bytes : List Byte
  nacked : Bool
  extra : Bool
  /-- register accepted and held until its PEC byte (R369) -/
  held : Option Word
  pecDone : Bool
  /-- bytes before the repeated START at which the transfer began, for the PEC of a read; PEC byte the device sends (R369) -/
  before : List Byte
  pecOut : Byte
  /-- HOST_HPCCFG as in force since the START of the transfer (R366) -/
  cfg : Word
  deriving DecidableEq, Repr

/-- The host ports and the register arbiter. -/
structure Ports where
  err : List HostErr
  spi : List Spi
  hpc : Hpc
  frm : List Nat
  /-- page whose PG_ID was the host's previous accepted access, a read (R425) -/
  idRead : List (Option Nat)
  deriving DecidableEq, Repr

/-! ### Stage bus (R383-R394) -/

/-- One poll entry and its mailbox. -/
structure SbEntry where
  /-- frame at which the entry last became due, and whether it waits to be served -/
  dueAt : Nat
  due : Bool
  /-- frame at which the poll that waits became due -/
  since : Nat
  valid : Bool
  stale : Bool
  /-- frame of the last valid poll -/
  lastOk : Nat
  val : Int
  fails : Nat
  nackArmed : Bool
  /-- the entry has been written since the transfer in progress began (R388) -/
  touched : Bool
  /-- PERIOD in force since the poll last became due (R388), and whether the poll that waits has been counted late (R389) -/
  per : Nat
  lateSeen : Bool
  /-- the poll in its transfer has been counted late (R389, R392) -/
  curLate : Bool
  deriving DecidableEq, Repr

/-- A transfer of the controller: a poll under the entry word in force at its start, or the host transaction. -/
inductive SbItem where
  | poll (n : Nat) (cfg : Word)
  | host
  deriving DecidableEq, Repr

/-- The stage bus controller. -/
structure Sb where
  ent : List SbEntry
  cur : Option SbItem
  /-- bytes the controller sends in the transfer in progress, before a PEC it receives (R385, R390) -/
  out : List Byte
  /-- the item that lost arbitration and is restarted first (R392) -/
  again : Option SbItem
  hostPend : Bool
  hbusy : Bool
  hres : Nat
  needRecov : Bool
  recov : Bool
  stuck : Bool
  lastTry : Nat
  late : Nat
  arbLost : Nat
  fail : Nat
  deriving DecidableEq, Repr

/-! ### Performance counters (R397-R407) -/

/-- An update on its way through the lanes (R138, R140): its place in the queue, the MACs it has still to issue, and its lane; with MACs left
and no lane it has been displaced. -/
structure LaneRun where
  q : QItem
  left : Nat
  lane : Option Nat
  deriving DecidableEq, Repr

/-- Counters, wraps not yet flagged, byte counts; how far the cycles that have passed have brought the engine's lanes. -/
structure Perf where
  ctr : List Nat
  wrapped : List Bool
  bwAcc : List Nat
  bw : List Nat
  bwSeq : Nat
  bwLeft : Nat
  /-- CKB cycles of the present frame that the counters have gone through (R398) -/
  at_ : Nat
  /-- counters that add nothing in the cycle of the latest command: it started, stopped or cleared them (R402), a bit for each -/
  skip : Nat
  /-- an access has been accepted in the cycle of the latest command (R379) -/
  acc : Bool
  /-- nothing but a frame edge or an access has come in the present cycle: the arbiter may still take a message in it (R275) -/
  head : Bool
  /-- updates that have begun (R138, R140): each with its queue entry, the MACs it has still to issue, and its lane -/
  runs : List LaneRun
  /-- wraps of the cycle of the latest command, a bit for each counter (R401) -/
  now : Nat
  /-- bytes of the unit in progress that a frame edge has counted already: HPA, HPB, HPC, stage bus (R406) -/
  ahead : List Nat
  /-- units that were cut short since the latest frame edge, in the same order (R406) -/
  cut : List Bool
  deriving DecidableEq, Repr

/-! ### Gradebook (R329-R358) -/

/-- A record of the store, as the index knows it: address, size, header fields, validity. -/
structure Rec where
  addr : Nat
  size : Nat
  id : Nat
  seq : Nat
  valid : Bool
  deriving DecidableEq, Repr

/-- A queued flash operation (R339). Record bodies are bytes 10 to s - 2. -/
inductive NvOp where
  | lstate (body : List Nat)
  | bases (r p : List Nat)
  /-- the phase part of the bases record with rail part `r` (R351) -/
  | basesP (r p : List Nat)
  /-- `fill`: the bases record that FLTA names is queued ahead of it (R352) -/
  | lastFault (fill : Bool) (a b : List Nat)
  /-- an increment; the bit to program where its program is repeated (R350) -/
  | tallyBit (n : Nat) (bit : Option (Nat × Nat))
  | tbase (n : Nat)
  | topen (n : Nat)
  | prog (sector page : Nat) (data : List Nat)
  | erase (sector : Nat)
  | append (id len : Nat) (body : List Nat)
  | badsect (sector : Nat)
  /-- 0x00 over the COMMIT bytes of a record that failed verify; `again`: its operation stands at the head of the queue (R340) -/
  | zero (again : Bool) (addrs : List Nat)
  | compCopy (src : Nat)
  | compErase (sector : Nat)
  | sect (sector cnt : Nat)
  deriving DecidableEq, Repr

/-- What the array is doing: the operation, and the bytes it programs (address, value) in order, or the sector it erases. -/
structure NvCur where
  op : NvOp
  bytes : List (Nat × Nat)
  sector : Nat
  erase : Bool
  /-- address and sequence number of the record being written, and its size -/
  recAddr : Nat
  recSeq : Nat
  recSize : Nat
  deriving DecidableEq, Repr

/-- The Gradebook. -/
structure Nv where
  /-- the array: bytes that differ from erased (0xFF) -/
  flash : List Host.Cell
  recs : List Rec
  queue : List NvOp
  cur : Option NvCur
  /-- append point: next free address, and the end of its sector -/
  appAddr : Nat
  gen : Nat
  /-- erase count per sector of 0-127, sectors retired, sectors to be erased again -/
  wear : List Nat
  bad : List Nat
  reErase : List Nat
  /-- sectors whose erase has failed verify once -/
  failedOnce : List Nat
  /-- sectors whose erase was abandoned at a power failure: left to the next boot (R355) -/
  left : List Nat
  hbusy : Bool
  found : Bool
  hres : Nat
  saved : Bool
  full : Bool
  drop : Nat
  /-- a handed last-fault record is not yet committed (R287) -/
  ltfOpen : Bool
  tally : List Nat
  /-- open tally page per counter: page address and its sequence -/
  tpage : List (Option (Nat × Nat))
  tbase : List Nat
  /-- frames or 2^-28 pu² · frames accumulated toward the next count -/
  tacc : List Nat
  /-- increments reached and not yet queued -/
  tdue : List Nat
  /-- frames for which PWRFAILn has been high again -/
  pwrHigh : Nat
  /-- operation abandoned at a power failure, to be queued again -/
  aband : Option NvOp
  deriving DecidableEq, Repr

/-! ### Twin and gang (R299-R328) -/

/-- Place in the pair (R302). -/
inductive TwinPst where
  | solo | forming | primary | syncing | ready | orphan
  deriving DecidableEq, Repr

/-- The twin unit. -/
structure Twin where
  pst : TwinPst
  /-- 0 toggling, 1 stopped, 2 undriven, 3 not yet judged -/
  pal : Nat
  palRun : Nat
  palLvl : Option Bool
  /-- frames until the announced ALIVE edge of the partner is overdue -/
  palDue : Option Nat
  /-- frames since the last edge of PALIVE (saturating) -/
  palEdge : Nat
  psafe : Bool
  loss : Nat
  /-- a valid frame has completed since the last own edge -/
  got : Bool
  hbPrev : Option Nat
  /-- frames received and not yet processed, oldest first, with own stamp -/
  rx : List (LinkFrame × Nat)
  tx : Option LinkFrame
  /-- frames left to announce: handover, partner reset -/
  hoLeft : Nat
  /-- the own lanes carry the safe pattern of R316 -/
  pattern : Bool
  prstLeft : Nat
  prstGot : Nat
  /-- announcements of a handover received, and the swap edge is due -/
  hoGot : Nat
  swapDue : Bool
  /-- outgoing device of a planned handover: not every phase is in STBY yet -/
  leaving : Bool
  theta : Int
  errs : List Nat
  /-- alignment error and pending period correction per phase -/
  phErr : List Int
  phAdj : List Int
  /-- frames since the last digest (R313) -/
  digAge : Nat
  digest : Word
  pdigest : Word
  diffRun : Nat
  sameRun : Nat
  crcErr : Nat
  lost : Nat
  rpl : Nat
  last : Nat
  /-- own stamp of the partner's last SYNC; the partner's copy is due (R306, R314) -/
  stamp : Nat
  copyDue : Bool
  /-- frames spent in FORMING -/
  formAge : Nat
  /-- PST code of the partner in the latest frame processed; 7 before the first (R306, R321) -/
  ppst : Nat
  /-- writes waiting for WR slots (R310); slots of the copy under way that have been sent (R314) -/
  wrq : List (BitVec 16 × Word)
  copied : Option Nat
  /-- the latest RSTATE of the driving device, rail by rail; empty before the first (R309) -/
  rstate : List Nat
  /-- standby: writes still to come before the copy is complete, equal digests since, correction items since -/
  copyLeft : Nat
  eqAfter : Nat
  corrAfter : Nat
  /-- duty comparison per rail: consecutive beyond, within, armed -/
  dutyBad : List Nat
  dutyOk : List Nat
  dutyArmed : List Bool
  dutyHit : List Bool
  /-- own copies of correction items (R311), by HB and own frame edge, see `snapKey` -/
  snaps : List (Nat × Corr)
  /-- count of class 3 and higher messages accepted, and the source of the last -/
  cnt3 : Nat
  src3 : Nat
  /-- takeover cause found at the last own edge -/
  cause : Option Nat
  deriving DecidableEq, Repr

/-- The gang unit (R325-R328). -/
structure Gang where
  link : Bool
  slotSt : List Nat
  slotRef : List Int
  crcErr : Nat
  /-- the number of the latest valid gang frame, from the one with which the link came up, and the CNT since reset at which it began
  (R327) -/
  n : Nat
  start : Nat
  /-- own frames since a valid gang frame was received, and consecutive valid ones (R328) -/
  age : Nat
  ok : Nat
  lost : Bool
  tx : Option GangFrame
  deriving DecidableEq, Repr

/-! ### The whole device -/

/-- Everything the spec gives the device. -/
structure State where
  /-- commands that wait, first in first out -/
  pending : List Instr
  /-- the model's own count of commands carried out: the index of free values -/
  cyc : Nat
  /-- the model's own count of CKB cycles: the order of messages (R275), and which of them are raised in one cycle (R290) -/
  clk : Nat
  /-- registers written by hosts: key = page × 256 + offset; copies held per host and active banks above 65536 -/
  bank : List (Nat × Word)
  dev : Dev
  fc : Fc
  ports : Ports
  phases : Vector Phase 48
  rails : Vector Rail 16
  doms : Vector Dom 4
  eng : Eng
  /-- trip latches and inputs active after their filters (R131, R132) -/
  tripLatch : Nat
  tripRaw : Nat
  /-- CKS edges for which each input has been active, at most 255 (R131) -/
  tripCnt : List Nat
  aux : Aux
  spa : List Spa
  spp : List Spp
  grid : Grid
  capt : Capt
  cup : Cup
  sb : Sb
  perf : Perf
  nv : Nv
  twin : Twin
  gang : Gang
  deriving DecidableEq, Repr

/-- Reasons to stop with a fault. The block has none: every command has an effect the spec gives, and a rejected access is
recorded, not a stop. No command raises this constructor; it is there because the type must have a name. Safe. -/
inductive Fault where
  /-- raised by no command; safe, since nothing stops for it -/
  | none
  deriving DecidableEq, Repr

/-- Reasons to refuse a command. -/
inductive Refusal where
  /-- raised by a command that has no meaning yet; safe, since nothing is claimed of it -/
  | notModelled (mnemonic : String)
  deriving DecidableEq, Repr

/-! ### Reset values (R421) -/

/-- A condition that does not stand. -/
def Cond.init : Cond := ⟨0, 0, false⟩

/-- A zeroed stage block (R54). -/
def Block.init : Block := ⟨-32, List.replicate 8 0⟩

/-- The collector after a reset. -/
def Fc.init : Fc := ⟨[], [], 0, [], 0, 0, 0, 0, false, 0, false, false, false, 0⟩

/-- The set every generator holds after a reset: PH_PER, PH_CMP, PH_DT and PH_OFS at their reset values. -/
def GenSet.init : GenSet := ⟨4000, 0, 2048, 2048, 0⟩

/-- A generator after a reset: STOP. -/
def Gen.init : Gen :=
  { count := 0, org := 0, ref := none, act := GenSet.init, curPer := 4000, curCmp := 0, eset := none, ldpend := false
    dth := 2048, dtl := 2048, dthNow := 2048, dtlNow := 2048, hardH := false, hardL := false, missH := 0, missL := 0, adH := false, adL := false
    dlok := false, fine := false, going := false, zHead := false, tripHold := false, driving := true, hold := false
    hpin := .hiZ, lpin := .hiZ, riseH := 0, riseL := 0, lowAt := 0, lowCut := false, cut := 0, endHigh := false, whole := false
    dtCfg := 0x04040080, dtMin := 0, dtMax := 0x3FFF3FFF }

/-- A phase after a reset. -/
def Phase.init : Phase :=
  { gen := Gen.init, smode := 0, slead := 0, sfixed := 0, sampled := false, converting := false, convAt := 0, isamp := 0, iavg := 0
    frSum := 0, frN := 0, avSum := 0, avN := 0, ilast := 0, iofs := 0, isArmed := true, isIn := 0, pst := .none
    joinNext := false, offAt := none, newOfs := none, joining := false, joinLead := none, est := false, tsat := false, oest := 0, ores := 0, obs := none
    seeded := false, ncnt := 0, ocnt := 0, senseRaised := false, openRaised := false, trim := 0, trimAt := 0, trimIn := 0
    duty := 0, dripDuty := 0, preDrip := 0, iref := 0, plC := none, cntCur := 0, cntBal := 0, cbcFwd := 0, cbcRev := 0
    cbcRun := 0, cbcAct := false, cbcArmed := true, cbcQuiet := 0, endF := false, endR := false, cbcCfg := 0x800A00FF
    pmCfg := [0x04000000, 0x4000, 0, 0x04081000, 0x1000, 0x06660333], schigh := false }

/-- A rail after a reset: OFF. (DESIGN CHOICE, log entry 7) -/
def Rail.init : Rail :=
  { st := .off, lead := none, startPend := false, stopPend := false, gangPend := none, ref := 0, target := 0, trkdone := false, limdir := 0, feact := false
    feCnt := 0, feIn := 0, nrst := 0, rstpend := false, rstDelay := none, faultedBy := [], policy := false, nmax := 0, frames := 0
    ofsLeft := [], scDone := false, scTested := false, pbSum := 0, pbN := 0, group := 0, stopMode := 0, rampHi := 0
    rampLo := 0, vabs := 0, vabsV := 0, vabsValid := false, win := [], oow := false, oowCnt := 0, oowRun := 0, inRun := 0
    vsArmed := true, vsRange := Cond.init, vsFail := Cond.init, vloop := 0, vdac := 0, uRef := 0, uAng := 0, vmN := 0, vmAt := 0, ovDac := 800, ovOld := 800, irail := 0, ifilt := 0, out := 0
    preDrip := 0, hi := 1, lo := -1, cap := 0, capUse := 65535, limOut := 0, plL := none, limCnt := 0, limSide := 0
    ePrev := none, fell := false, ffLost := false, vOk := none, rgCfg := [0x0A010000, 0x83, 0x148, 0x320000, 0x2803000, 0x27100064], limCfg := 4, plV := none, nOut := 1, nCur := 1, nBal := 1, cntOut := 0
    pend := false, copying := false, bankErr := false, shedCnt := 0, addCnt := 0, dripCnt := 0, dripDue := false, chgAt := none, w := 0
    rIdx := 0, rTerm := 0, learning := false, rSat := false, satQuiet := 0, notch := Block.init, notchK := [], notchDue := false, ov := Cond.init
    uv := Cond.init, xov := Cond.init, xuv := Cond.init, tw := Cond.init, ot := Cond.init, uvArmed := false, derate := false, thval := 0
    scres := 0, sccode := 0, scCfg := 0 }

/-- A domain after a reset. -/
def Dom.init : Dom := ⟨0, 0, 0, [], [], 0, 0, false, List.replicate 16 none⟩

/-- The engine after a reset. -/
def Eng.init : Eng :=
  { ctx := Vector.replicate 128 (List.replicate 6 Block.init), queue := [], halted := false, haltReq := false, parity := []
    lastOvr := 0xFF, ovrCnt := 0, util := 0, peak := 0, macs := 0, winLen := 1000, winLeft := 1000, qPeak := 0, latI := 0, latV := 0 }

/-- The auxiliary converter after a reset. -/
def Aux.init : Aux :=
  { raw := List.replicate 16 0, val := List.replicate 16 0, ok := List.replicate 16 none, range := List.replicate 16 Cond.init, round := []
    tdie := 0, vcore := 0, vana := 0, vio := 0, sarSelf := Cond.init, dieWarn := Cond.init, dieShut := Cond.init
    supply := List.replicate 3 Cond.init }

/-- The increment of the phase accumulator for a running frequency (R192). -/
def gridInc (f : Rat) : Nat := (roundAway (f * 1099511627776 / 50000000)).toNat

/-- The angle tracker after a reset: 50 Hz, no reference edge. -/
def Grid.init : Grid :=
  { zcFrame := 0, zcCnt := 0, ref := none, acc := 0, accAt := 0, inc := 1099512, fEst := 50, fRun := 50, phErr := 0, per := 0
    lock := false, valid := false, lcnt := 0, mcnt := 0, missed := 0, ulk := 0, rej := 0, cfg := 0x02400201, zcofs := 0, tooFar := false }

/-- Capture after a reset: idle. -/
def Capt.init : Capt := ⟨0, 0, 0, [], [], none, false, none, false, []⟩

/-- The cupping unit after a reset. -/
def Cup.init : Cup :=
  { run := false, rail := 0, mode := 0, aden := false, begun := false, theta := 0, half := 0, amp := 0x29, f := 0x4B0009, pt := 0, settle := 0
    integ := 0, sums := ⟨0, 0, 0, 0⟩, result := none, pts := [], ending := none, zero := false, last := 0
    adlim := false, bndNew := false, adArmed := true, noxo := false, nogm := false, gain := 0, pm := 0, ph := 0, xo := 0, gm := 0
    alpha := List.replicate 16 0x400001 }

/-- An SPI port after a reset. -/
def Spi.init : Spi := ⟨false, false, false, [], 0, 0, 0⟩

/-- The two-wire port after a reset. -/
def Hpc.init : Hpc := ⟨0, false, false, [], false, false, none, false, [], 0, 3⟩

/-- The ports after a reset. -/
def Ports.init : Ports :=
  ⟨List.replicate 3 ⟨0, 0, 0⟩, List.replicate 2 Spi.init, Hpc.init, List.replicate 3 0, List.replicate 3 none⟩

/-- A poll entry after a reset: PERIOD 10 (SB_POLLn). -/
def SbEntry.init : SbEntry :=
  { dueAt := 0, due := false, since := 0, valid := false, stale := false, lastOk := 0, val := 0, fails := 0, nackArmed := true
    touched := false, per := 10, lateSeen := false, curLate := false }

/-- The stage bus controller after a reset. -/
def Sb.init : Sb :=
  { ent := List.replicate 64 SbEntry.init, cur := none, out := [], again := none, hostPend := false
    hbusy := false, hres := 0, needRecov := false, recov := false, stuck := false, lastTry := 0, late := 0, arbLost := 0
    fail := 0 }

/-- The counters after a reset. -/
def Perf.init : Perf := ⟨List.replicate 32 0, List.replicate 32 false, List.replicate 6 0, List.replicate 6 0, 0, 1000, 0, 0, false, false, [], 0, List.replicate 4 0, List.replicate 4 false⟩

/-- The Gradebook's working state after a reset; the array is the argument. -/
def Nv.init (flash : List Host.Cell) : Nv :=
  { flash := flash, recs := [], queue := [], cur := none, appAddr := 0, gen := 0, wear := List.replicate 128 0
    bad := [], reErase := [], failedOnce := [], left := [], hbusy := false, found := false, hres := 0, saved := false, full := false
    drop := 0, ltfOpen := false, tally := List.replicate 8 0, tpage := List.replicate 8 none, tbase := List.replicate 8 0
    tacc := List.replicate 8 0, tdue := List.replicate 8 0, pwrHigh := 0, aband := none }

/-- The twin unit after a reset. -/
def Twin.init : Twin :=
  { pst := .solo, pal := 3, palRun := 0, palLvl := none, palDue := none, palEdge := 255, psafe := false, loss := 0, got := false
    hbPrev := none, rx := [], tx := none, pattern := false, hoLeft := 0, prstLeft := 0, prstGot := 0, hoGot := 0, swapDue := false
    leaving := false, theta := 0, errs := [], phErr := List.replicate 48 0, phAdj := List.replicate 48 0, digAge := 0, digest := 0
    pdigest := 0, diffRun := 0, sameRun := 0, crcErr := 0, lost := 0, rpl := 0, last := 0, stamp := 0, copyDue := false, formAge := 0, ppst := 7, wrq := []
    copied := none, rstate := [], copyLeft := 0, eqAfter := 0, corrAfter := 0, dutyBad := List.replicate 16 0, dutyOk := List.replicate 16 0
    dutyArmed := List.replicate 16 true, dutyHit := List.replicate 16 false, snaps := [], cnt3 := 0, src3 := 0
    cause := none }

/-- The gang unit after a reset. -/
def Gang.init : Gang := ⟨false, List.replicate 4 0, List.replicate 4 0, 0, 0, 0, 0, 0, false, none⟩

/-- Device level while a reset from source `cause` is asserted; straps, loss counts and the PLL as handed in. (DESIGN CHOICE, log entry 9) -/
def Dev.init (cause : Nat) : Dev :=
  { st := .boot, rst := true, cause := cause, img := 0, bootErrA := 0, bootErrB := 0, imgSer := 0, bootTime := 0
    lockAtEnd := false, pllUp := false, step1 := none, clksel := false, role := false, ownsel := false, addr0 := false, addr1 := false
    clkStop := false, lossRef := false, lossPll := false, causeRef := false, causePll := false, safeHold := false
    rcOk := true, rcRun := 0, rcMeas := 32000, rcAge := 0, refLoss := 0, pllUnlk := 0, lastLoss := 0, frame := 0, fresh := false, alive := .hiZ
    aliveLeft := 500, irqHeld := [false, false, false], testen := false, tap := .idcode, tdo := [], cells := [] }

/-- The machine right after power-on reset is asserted: every register at its reset value (R421), every output in high
impedance (R412), the flash erased. -/
def State.reset : State :=
  { pending := [], cyc := 0, clk := 0, bank := [], dev := Dev.init 0, fc := Fc.init, ports := Ports.init
    phases := Vector.replicate 48 Phase.init, rails := Vector.replicate 16 Rail.init
    doms := Vector.replicate 4 Dom.init, eng := Eng.init, tripLatch := 0, tripRaw := 0, tripCnt := List.replicate 24 0, aux := Aux.init
    spa := List.replicate 4 ⟨[], 0⟩, spp := List.replicate 4 ⟨0, 0, 0, 0, false⟩, grid := Grid.init, capt := Capt.init
    cup := Cup.init, sb := Sb.init, perf := Perf.init, nv := Nv.init [], twin := Twin.init, gang := Gang.init }

end Sys2Proof.Machine
end

