-- ==== Sys2Proof/Machine/Ops.lean ====
section
/-! DEFINITION. Machine/Ops.lean: the named operations the meanings share: reading and writing registers, phases, rails and
domains; raising messages (R271-R276) and conditions (R272); counting performance events (R398-R401); which phases a rail
has, what a generator's state is (R126), what the pins show. -/

namespace Sys2Proof.Machine

open State

/-! ### Registers -/

/-- Base key of the copies held for host `h` (R428). -/
def hostKey (h a : Nat) : Nat := 65536 * (1 + h) + a

/-- Base key of the active coefficient banks (R157). -/
def bankKey (a : Nat) : Nat := 524288 + a

/-- What a register that no write has changed holds (R421): the field tables' value; 0 for the copies held per host. -/
def defaultWord (k : Nat) : Word :=
  if k < 65536 then resetWord k else if 524288 ≤ k then resetWord (k - 524288) else 0

/-- The stored word of a register. (DESIGN CHOICE, log entry 18) -/
def State.reg (s : State) (k : Nat) : Word := sget defaultWord s.bank k

/-- The state with a stored word replaced. -/
def State.setReg (s : State) (k : Nat) (v : Word) : State := { s with bank := sset defaultWord s.bank k v }

/-- Registers of a block page, a rail page, a phase page, a ripple-table page; pending and active coefficients. -/
def State.pg (s : State) (page off : Nat) : Word := s.reg (page * 256 + off)
def State.rr (s : State) (r off : Nat) : Word := s.reg ((0x10 + r) * 256 + off)
def State.pr (s : State) (p off : Nat) : Word := s.reg ((0x20 + p) * 256 + off)
def State.tr (s : State) (r off : Nat) : Word := s.reg ((0x60 + r) * 256 + off)
def State.pendC (s : State) (r off : Nat) : Word := s.reg ((0x50 + r) * 256 + off)
def State.actC (s : State) (r off : Nat) : Word := s.reg (bankKey ((0x50 + r) * 256 + off))

/-- A word with bits [hi:lo] replaced. -/
def setFld (w : Word) (hi lo v : Nat) : Word :=
  BitVec.ofNat 32 (w.toNat - fld w hi lo * 2 ^ lo + v % 2 ^ (hi - lo + 1) * 2 ^ lo)

/-! ### Parts of the state -/

/-- Phase `p`. -/
def State.ph (s : State) (p : Nat) : Phase := (s.phases[p]?).getD Phase.init
/-- The state with phase `p` replaced by `f` of it. -/
def State.modPh (s : State) (p : Nat) (f : Phase → Phase) : State :=
  { s with phases := s.phases.setIfInBounds p (f (s.ph p)) }
/-- The state with the generator of phase `p` replaced by `f` of it. -/
def State.modGen (s : State) (p : Nat) (f : Gen → Gen) : State := s.modPh p fun x => { x with gen := f x.gen }
/-- Rail `r`. -/
def State.rail (s : State) (r : Nat) : Rail := (s.rails[r]?).getD Rail.init
/-- The state with rail `r` replaced by `f` of it. -/
def State.modRail (s : State) (r : Nat) (f : Rail → Rail) : State :=
  { s with rails := s.rails.setIfInBounds r (f (s.rail r)) }
/-- Domain `k`. -/
def State.dom (s : State) (k : Nat) : Dom := (s.doms[k]?).getD Dom.init
/-- The state with domain `k` replaced by `f` of it. -/
def State.modDom (s : State) (k : Nat) (f : Dom → Dom) : State :=
  { s with doms := s.doms.setIfInBounds k (f (s.dom k)) }

/-- Fold over the numbers below `n`. -/
def loop (n : Nat) (f : State → Nat → State) (s : State) : State := (List.range n).foldl f s

/-- What the derived clocks drive: nothing of it happens while a reset is asserted or the clocks stand (R65, R412). (DEDUCED, log entry 11) -/
def clocked (f : State → State) (s : State) : State := if s.dev.rst || s.dev.clkStop then s else f s

/-! ### Messages and conditions (R271-R276) -/

/-- A raise of cycle `clk` is the other half of a message raised in that cycle: one real, the other injected (R290). -/
def Msg.twins (m : Msg) (clk : Nat) (inj real : Bool) : Bool := m.born == clk && !m.rep && m.inj != inj && m.real != real

/-- Merging a raise of cycle `clk` into the newest message of its queue, or none where it does not merge (R274); a real and an injected
raise of one cycle are one message, which no raise repeats (R290). -/
def mergeRev (clk src kind addr : Nat) (inj real : Bool) : List Msg → Option (List Msg)
  | [] => none
  | m :: t =>
    if m.src = src ∧ m.addr = addr then
      if m.kind = kind then
        some ({ m with inj := m.inj || inj, real := m.real || real, rep := !m.twins clk inj real } :: t)
      else none
    else (mergeRev clk src kind addr inj real t).map (m :: ·)

/-- A raise (R273, R274). While CKB is stopped nothing is raised (R276). -/
def raise (src kind addr : Nat) (inj real : Bool) (s : State) : State :=
  if s.dev.clkStop then s else
  match mergeRev s.clk src kind addr inj real s.fc.pend.reverse with
  | some l => { s with fc := { s.fc with pend := l.reverse } }
  | none => { s with fc := { s.fc with pend := s.fc.pend ++ [⟨src, kind, addr, inj, real, false, s.clk, none⟩] } }

/-- A real occurrence of an event source. -/
def event (src addr : Nat) (s : State) : State := raise src 0 addr false true s

/-- Whether a source stands at an address, and whether it stands at all (R272). -/
def standsAt (s : State) (src addr : Nat) : Bool := s.fc.stand.contains (src, addr)
def stands (s : State) (src : Nat) : Bool :=
  s.fc.stand.any (fun x => x.1 == src) || (src == 0xFF && s.fc.self)

/-- A condition begins or stops to stand: SET or CLEAR is raised at the change only (R272). -/
def setCond (src addr : Nat) (on : Bool) (s : State) : State :=
  if on then
    if standsAt s src addr then s
    else let s := raise src 1 addr false true s
         { s with fc := { s.fc with stand := s.fc.stand ++ [(src, addr)] } }
  else
    if standsAt s src addr then
      let s := raise src 2 addr false true s
      { s with fc := { s.fc with stand := s.fc.stand.filter (· != (src, addr)) } }
    else s

/-! ### Performance events (R398-R401) -/

/-- The performance unit with its state replaced by `f` of it. -/
def State.modPerf (s : State) (f : Perf → Perf) : State := { s with perf := f s.perf }

/-- Adding `n` to counter `i` with the carry through its chain (R400): into a counter that does not count, it is lost; a wrap of the last
counter of a chain is noted for PERF_WRAP. -/
def Perf.add (chain counts : Nat → Bool) : Nat → Nat → Nat → Perf → Perf
  | 0, _, _, x => x
  | fuel + 1, i, n, x =>
    let v := x.ctr.getD i 0 + n
    let y := { x with ctr := x.ctr.set i (v % 4294967296) }
    if v < 4294967296 then y
    else if i < 31 && chain (i + 1) then (if counts (i + 1) then Perf.add chain counts fuel (i + 1) 1 y else y)
    else { y with wrapped := y.wrapped.set i true, now := y.now ||| 2 ^ i }

/-- Counter `i` is chained to the one before it (R400). -/
def chained (s : State) (i : Nat) : Bool := bit (s.pg Pg.PERF (Reg.PERF_CFG + i)) 31

/-- Counter `i` counts in the cycle of the present command (R398, R402). -/
def counting (s : State) (i : Nat) : Bool := bit (s.pg Pg.PERF Reg.PERF_RUN) i && !s.perf.skip.testBit i

/-- `n` more in every counter that `which` names and that counts. -/
def State.addTo (s : State) (which : Nat → Bool) (n : Nat) : Perf :=
  (List.range 32).foldl (fun x i => if counting s i && which i then x.add (chained s) (counting s) 32 i n else x) s.perf

/-- `n` occurrences of event `evt` at instance `inst` reach every running counter attached to it. -/
def perf (evt inst n : Nat) (s : State) : State :=
  if s.pg Pg.PERF Reg.PERF_RUN = 0 then s else
  s.modPerf fun _ => s.addTo (fun i =>
    let c := s.pg Pg.PERF (Reg.PERF_CFG + i)
    !bit c 31 && fld c 30 24 == evt && (fld c 23 16 == inst || fld c 23 16 == 0xFF)) n

/-- A unit of port `k` with `n` bytes is complete (R406): those of its bytes that no frame edge has counted are counted. -/
def bytes (k n : Nat) (s : State) : State :=
  s.modPerf fun x =>
    let old := if x.cut.getD k false then 0 else x.ahead.getD k 0
    { x with bwAcc := x.bwAcc.set k (x.bwAcc.getD k 0 + (n - old)), ahead := x.ahead.set k 0, cut := x.cut.set k false }

/-- The first `n` bytes of a unit of port `k` are complete, and more of it follow in the same command (R406). -/
def bytesHead (k n : Nat) (s : State) : State :=
  s.modPerf fun x =>
    let old := if x.cut.getD k false then 0 else x.ahead.getD k 0
    { x with bwAcc := x.bwAcc.set k (x.bwAcc.getD k 0 + (n - old)), ahead := x.ahead.set k (old - n), cut := x.cut.set k false }

/-- The unit in progress on port `k` is cut short (R406): the next frame edge says how many bytes of it were complete. (DESIGN CHOICE, log entry 93) -/
def cutUnit (k : Nat) (s : State) : State := s.modPerf fun x => { x with cut := x.cut.set k true }

/-- `n` bytes of the unit in progress on port `k` are complete (R406). -/
def progress (k n : Nat) (s : State) : State :=
  s.modPerf fun x => { x with bwAcc := x.bwAcc.set k (x.bwAcc.getD k 0 + (n - x.ahead.getD k 0))
                              ahead := x.ahead.set k (max (x.ahead.getD k 0) n) }

/-! ### Hierarchy (R8-R36) -/

/-- Rail of a phase, if any (PH_CFG.RAIL). -/
def railOf (s : State) (p : Nat) : Option Nat :=
  let r := fld (s.pr p Reg.PH_CFG) 4 0
  if r < 16 then some r else none

/-- Phases assigned to a rail, ascending. -/
def phasesOf (s : State) (r : Nat) : List Nat := (List.range 48).filter fun p => railOf s p == some r

/-- PH_CTL.EN. -/
def enOf (s : State) (p : Nat) : Bool := bit (s.pr p Reg.PH_CTL) 0

/-- A phase-management register as in force since the phase's last boundary: 0 PH_TRIM, 1 PH_IMAX, 2 PH_OBSK, 3 PH_DETCFG,
4 PH_OBSLIM, 5 PH_OPENCFG (R232). -/
def pmOf (s : State) (p k : Nat) : Word := (s.ph p).pmCfg.getD k 0

/-- A rail register as in force since the last frame: 0 RAIL_SHCFG, 1 RAIL_DRIPCFG, 2 RAIL_BRKCFG, 3 RAIL_BRKLIM,
4 RAIL_THDER, 5 RAIL_SHDWELL (R232, R256). -/
def rgOf (s : State) (r k : Nat) : Word := (s.rail r).rgCfg.getD k 0

/-- Topology 0 BUCK, 1 BOOST, 2 BIDIR; structure CASCADE; quantity INV; domain; fault scope; feed-forward source. -/
def topo (s : State) (r : Nat) : Nat := fld (s.rr r Reg.RAIL_CFG) 1 0
def cascade (s : State) (r : Nat) : Bool := bit (s.rr r Reg.RAIL_CFG) 2
def qtyInv (s : State) (r : Nat) : Bool := bit (s.rr r Reg.RAIL_CFG) 3
def domOf (s : State) (r : Nat) : Nat := fld (s.rr r Reg.RAIL_CFG) 5 4
def fscope (s : State) (r : Nat) : Bool := bit (s.rr r Reg.RAIL_CFG) 6
def ffsrc (s : State) (r : Nat) : Nat := fld (s.rr r Reg.RAIL_CFG) 13 8

/-- The rail's own terminal is on the inductor side (R15, R17), for a RAIL_CFG word. -/
def ownIndW (cfg : Word) : Bool := if fld cfg 1 0 = 1 then bit cfg 3 else !bit cfg 3
def ownInd (s : State) (r : Nat) : Bool := ownIndW (s.rr r Reg.RAIL_CFG)

/-- Rails of a domain. -/
def railsOfDom (s : State) (k : Nat) : List Nat := (List.range 16).filter fun r => domOf s r == k

/-- States in which the rail's contexts are active (R32). -/
def RailState.running : RailState → Bool
  | .ramp | .regulate | .drip | .limit | .brake | .stopping => true
  | _ => false

/-- States in which the rail's phases are in STOP (R126, R172). -/
def RailState.stopped : RailState → Bool
  | .off | .faulted | .locked => true
  | _ => false

/-- RAIL_STS.STATE code (R172), and the state of a code. -/
def RailState.code : RailState → Nat
  | .off => 0 | .precheck => 1 | .prebias => 2 | .ramp => 3 | .regulate => 4 | .drip => 5 | .limit => 6 | .brake => 7
  | .stopping => 8 | .faulted => 9 | .locked => 10
def RailState.ofCode : Nat → RailState
  | 0 => .off | 1 => .precheck | 2 => .prebias | 3 => .ramp | 4 => .regulate | 5 => .drip | 6 => .limit | 7 => .brake
  | 8 => .stopping | 9 => .faulted | _ => .locked

/-- PST code of a phase (R208). -/
def Pst.code : Pst → Nat
  | .none => 0 | .active => 1 | .shed => 2 | .unavail => 3 | .failed => 4

/-- The rail is in OFF with no start pending (R173). -/
def inOff (s : State) (r : Nat) : Bool := (s.rail r).st == .off && !(s.rail r).startPend

/-- The rail counts as out of OFF (R173). -/
def outOfOff (s : State) (r : Nat) : Bool := !inOff s r

/-- RAIL_STS.SETTLED (R176). -/
def settled (s : State) (r : Nat) : Bool :=
  let x := s.rail r
  match x.st with
  | .regulate | .drip | .brake => true
  | .limit => x.ref == x.target * 65536 && (fld (s.rr r Reg.RAIL_SRC) 3 0 != 9 || x.trkdone)
  | _ => false

/-- ACTIVE phases of a rail, ascending (R208). -/
def activeOf (s : State) (r : Nat) : List Nat := (phasesOf s r).filter fun p => (s.ph p).pst == .active

/-- Available phases: assigned, EN = 1, not FAILED (R208). -/
def availOf (s : State) (r : Nat) : List Nat :=
  (phasesOf s r).filter fun p => enOf s p && (s.ph p).pst != .failed

/-- The lead phase (R89): from PRECHECK to STOPPING the one in force, which changes at the boundary at which the interleave is
re-spread (R230); while the rail rests, the lowest-indexed assigned phase with EN = 1 that has not FAILED (R208, R229). -/
def leadOf (s : State) (r : Nat) : Option Nat :=
  if (s.rail r).st.stopped then ((phasesOf s r).filter fun p => enOf s p && (s.ph p).pst != .failed).head? else (s.rail r).lead

/-- A running rail of which no ACTIVE phase goes. -/
def stranded (s : State) (r : Nat) : Bool := (s.rail r).st.running && (activeOf s r).all fun p => !(s.ph p).gen.going

/-- The effective order of R209. -/
def effOrder (s : State) (r : Nat) : List Nat :=
  let named := (List.range 24).filterMap fun k =>
    let p := fld (s.rr r (Reg.RAIL_SHORD + k / 4)) (8 * (k % 4) + 5) (8 * (k % 4))
    if railOf s p == some r then some p else none
  named ++ (phasesOf s r).filter fun p => !named.contains p

/-! ### Device and generator states -/

/-- DEV_STS.STATE (R418). -/
def DevState.code : DevState → Nat
  | .boot => 0 | .idle => 1 | .active => 2 | .standby => 3 | .safe => 4 | .locked => 5

/-- TWIN_STS.PST (R302). -/
def TwinPst.code : TwinPst → Nat
  | .solo => 0 | .forming => 1 | .primary => 2 | .syncing => 3 | .ready => 4 | .orphan => 5

/-- The standby of a pair: SYNCING, READY, or ORPHAN still in STANDBY (R304, R317). (DEDUCED, log entry 95) -/
def isStandby (s : State) : Bool :=
  s.twin.pst == .syncing || s.twin.pst == .ready || (s.twin.pst == .orphan && s.dev.st == .standby)

/-- The device is the primary or the standby of a formed pair (R302). -/
def paired (s : State) : Bool := s.twin.pst == .primary || s.twin.pst == .syncing || s.twin.pst == .ready

/-- A latched trip input `n` maps phase `p` (R132). -/
def tripMaps (s : State) (n p : Nat) : Bool :=
  let m := s.pg Pg.TRIP (Reg.TRIP_MAP + n)
  match railOf s p with
  | some r => bit m r || bit m (16 + domOf s r)
  | none => bit m 20

/-- A latched trip input maps a rail (R132, R241). -/
def tripMapsRail (s : State) (n r : Nat) : Bool :=
  let m := s.pg Pg.TRIP (Reg.TRIP_MAP + n)
  bit m r || bit m (16 + domOf s r)

/-- Some set latch maps the phase. -/
def tripped (s : State) (p : Nat) : Bool := (bitsOf 24 s.tripLatch).any fun n => tripMaps s n p

/-- The generator states (R126), with the codes of PH_STS.GST. -/
inductive Gst where
  | stop | hold | run | stby | trip | frozen
  deriving DecidableEq, Repr

/-- PH_STS.GST. -/
def Gst.code : Gst → Nat
  | .stop => 0 | .hold => 1 | .run => 2 | .stby => 3 | .trip => 4 | .frozen => 5

/-- Every generator is frozen: debug halt, clock loss, SAFE or LOCKED (R126). -/
def allFrozen (s : State) : Bool :=
  s.eng.haltReq || s.dev.clkStop || s.dev.st == .safe || s.dev.st == .locked

/-- The state of a generator: the first row of R126 that applies. A standby's generator waits in STOP for its phase's count
(R312). -/
def gst (s : State) (p : Nat) : Gst :=
  let x := s.ph p
  if allFrozen s then .frozen
  else if !enOf s p || s.dev.st == .boot || s.dev.st == .idle
      || (match railOf s p with | some r => (s.rail r).st.stopped | none => false) then .stop
  else if tripped s p || x.gen.tripHold then .trip
  else if s.dev.st == .standby || !x.gen.driving then (if s.dev.st == .standby && !x.gen.going then .stop else .stby)
  else match railOf s p with
    | none => .run
    | some r =>
      if (s.rail r).st == .precheck || (s.rail r).st == .prebias || x.gen.hold then .hold else .run

/-- The counter of the generator counts: not in STOP or FROZEN. -/
def counts (s : State) (p : Nat) : Bool := gst s p != .stop && gst s p != .frozen

/-- Boundary scan has taken the output balls: TESTEN is high, and EXTEST, CLAMP or HIGHZ is loaded (R452). -/
def scanned (s : State) : Bool := s.dev.testen && (s.dev.tap == .extest || s.dev.tap == .clamp || s.dev.tap == .highz)

/-- Level of output ball `k` (PWMHn: n, PWMLn: 48 + n, DRVENk: 96 + k, ALIVE: 100, interrupt pin of host h: 101 + h) while boundary scan has taken it: the update latch of its cell, or
high impedance (R452). (PRESUMED, log entry 16) -/
def testBall (s : State) (k : Nat) : Lvl :=
  if s.dev.tap == .highz then .hiZ else if s.dev.cells.getD (Config.cellOf k) false then .high else .low

/-- The drive state of DRVENk is high (R26, R36): the device is in ACTIVE and drives, and a rail of the domain is in a state other than
OFF, FAULTED or LOCKED, or a manual phase of the domain is enabled. -/
def drvHigh (s : State) (k : Nat) : Bool :=
  s.dev.st == .active && !s.dev.clkStop && !s.dev.rst &&
  ((railsOfDom s k).any (fun r => !(s.rail r).st.stopped) ||
   (List.range 48).any fun p => railOf s p == none && fld (s.pr p Reg.PH_CFG) 9 8 == k && enOf s p)

/-- CNT since reset at the frame edge before, and at the next one (R70, R107). -/
def nowCnt (s : State) : Nat := s.dev.frame * 400
def nextCnt (s : State) : Nat := (s.dev.frame + 1) * 400

/-- CNT since reset at the CKB edge that begins the present cycle (R62). -/
def edgeCnt (s : State) : Nat := nowCnt s + 4 * s.perf.at_

/-- A domain whose enable this step has driven high takes `t` as the instant by which it was (R26, R27). (DESIGN CHOICE, log entry 34) -/
def noteDrv (t : Nat) (before s : State) : State :=
  loop 4 (fun s k => if drvHigh s k && !drvHigh before k then s.modDom k fun d => { d with drvRise := t } else s) s

/-- A generator brought to rest: not going, count 0, pending engine set dropped, counters of the period cleared. (DEDUCED, log entry 37) -/
def Gen.rest (g : Gen) : Gen :=
  { g with going := false, ref := none, lowCut := false, cut := 0, count := 0, hpin := .hiZ, lpin := .hiZ, hold := false, eset := none
           tripHold := false, endHigh := false, whole := false, zHead := false }

/-- A generator frozen: the count holds its value; it restarts from a fresh period (R128). -/
def Gen.freeze (g : Gen) : Gen := { g with going := false, ref := none, hpin := .hiZ, lpin := .hiZ, tripHold := false, endHigh := false }

/-- Every generator freezes (R128), and no control sample is taken any more (R92). The observers keep their estimates (R225). (DESIGN CHOICE, log entry 163) -/
def freezeAll (s : State) : State :=
  { s with phases := s.phases.map fun x => { x with gen := x.gen.freeze, sampled := false, converting := false } }

/-- The reference instant of every phase of which `f` says so is `t` (R119, R128). -/
def refAll (f : Nat → Bool) (t : Nat) (s : State) : State :=
  loop 48 (fun s p => if f p then s.modGen p fun g => { g with ref := some t } else s) s

/-- A generator at rest; while every generator is FROZEN its count holds (R126, R128). -/
def Gen.restIn (s : State) (g : Gen) : Gen := if allFrozen s then { g.rest with count := g.count } else g.rest

/-- The phases of a rail come to rest: STOP, condition NONE (R126, R208); FAILED lasts to OFF (R229). -/
def restRail (off : Bool) (r : Nat) (s : State) : State :=
  (phasesOf s r).foldl (fun s p => s.modPh p fun x =>
    { x with gen := x.gen.restIn s, pst := if x.pst == .failed && !off then .failed else .none, joinLead := none, converting := false, sampled := false, joining := false
             joinNext := false }) s

/-! ### Decimation, class and cost of contexts (R32, R139, R142) -/

/-- Class of a context (R139). -/
def ctxClass (c : Nat) : Nat := if c < 16 then 1 else if c < 32 then 3 else if c < 80 then 2 else 4

/-- Rail of a context: by index, or the rail of its phase (R32). -/
def ctxRail (s : State) (c : Nat) : Option Nat :=
  if c < 16 then some c else if c < 32 then some (c - 16)
  else if c < 80 then railOf s (c - 32) else if c < 128 then railOf s (c - 80) else none

/-- Whether a context is active (R32, R33). -/
def ctxActive (s : State) (c : Nat) : Bool :=
  match ctxRail s c with
  | none => false
  | some r =>
    (s.rail r).st.running &&
    (if c < 32 then true
     else if c < 80 then cascade s r && (s.ph (c - 32)).pst == .active
     else (s.ph (c - 80)).pst == .active)

/-- Base of a context's stage set in an RCOMP page. -/
def setBase (c : Nat) : Nat := if c < 16 then 0x10 else if c < 32 then 0x3A else if c < 80 then 0x64 else 0x8E

/-- MACs of one stage type (R142). -/
def stageCost (ty : Nat) : Nat := if ty = 1 then 3 else if ty = 2 ∨ ty = 3 then 5 else 0

/-- Cost of a stage set without the rows outside the cap (R142), given the reader of the bank, the base of the set, and a
RAIL_CFG word. -/
def setCost (rd : Nat → Word) (base : Nat) (cfg : Word) : Nat :=
  let st := sumN ((List.range 6).map fun k => stageCost (fld (rd (base + 7 * k)) 2 0))
  let ff := b2n (fld cfg 13 8 != 0x3F)
  st + 1 + (if base = 0x64 then 2 + (if bit cfg 2 then ff else 0)
            else if base = 0x8E then 1 else if base = 0x10 then (if bit cfg 2 then 0 else ff) else 0)

/-- Cap of a set (R143). -/
def setCap (base : Nat) : Nat := if base = 0x10 then 24 else if base = 0x3A then 20 else if base = 0x64 then 12 else 8

/-- Cost of one update of a context in full (R142), from the active bank. -/
def ctxCost (s : State) (c : Nat) : Nat :=
  match ctxRail s c with
  | none => 0
  | some r => setCost (fun o => s.actC r o) (setBase c) (s.rr r Reg.RAIL_CFG) +
      (if c < 16 then b2n (bit (s.actC r Reg.RCOMP_CTL) 1) + b2n (fld (s.tr r Reg.RTAB_CFG) 31 30 == 2) else 0)

/-- Voltage measurements per period (R89). -/
def vrate (s : State) (r : Nat) : Nat := 2 ^ fld (s.rr r Reg.RAIL_VSAMP) 25 24

/-- The smallest N for which a trigger rate of `mult` × 400 MHz / `per` divided by N does not exceed `max` Hz (R139). -/
def decim (mult per max : Nat) : Nat := let n := (mult * 400000000 + per * max - 1) / (per * max); if n = 0 then 1 else n

/-- The rail's decimation for a period (R139): outer, current, balance. -/
def decims (s : State) (r per : Nat) : Nat × Nat × Nat :=
  (decim (vrate s r) per 200000, decim 1 per 1000000, decim 1 per 200000)

/-- The rail's pending period: that of its lead phase, or of its first phase (R14). A RAIL_VSAMP write is judged by it while a change of the period is
pending (R91). (DESIGN CHOICE, log entry 164) -/
def railPer (s : State) (r : Nat) : Nat :=
  match leadOf s r with
  | some p => fld (s.pr p Reg.PH_PER) 15 0
  | none => 4000

/-- The active period of the rail's lead phase. -/
def railPerNow (s : State) (r : Nat) : Nat :=
  match leadOf s r with
  | some p => (s.ph p).gen.act.per
  | none => 4000

/-- The rail's voltage-loop update rate in Hz (R139, R257). -/
def fsOf (s : State) (r : Nat) : Rat := (400000000 * vrate s r : Rat) / (railPerNow s r : Rat)

/-- Code of the rail reference, rounded to PU16 (R168). -/
def refCode (s : State) (r : Nat) : Nat := min 65535 (((s.rail r).ref + 32768) / 65536)

end Sys2Proof.Machine
end

