-- ==== Sys2Proof/Machine/Cycle.lean ====
section
/-! DEFINITION. Machine/Cycle.lean: the CKB cycles that pass between commands (R275, R379, R398, R433): which rows present an access,
the instants at which rows are due, the engine's lanes from one CKE cycle to the next (R138, R140), threshold events (R404), and how a command
begins. -/

namespace Sys2Proof.Machine

open State

/-! ### What a port presents (R360-R370) -/

/-- The ports are served (R360): from the end of BOOT, while CKB runs. -/
def served (s : State) : Bool := !s.dev.rst && !s.dev.clkStop && s.dev.st != .boot

/-- The offset after a register: 0xFE is followed by 0x00 (R363, R367). -/
def nextOff (o : Nat) : Nat := if 0xFE ≤ o then 0 else o + 1

/-- The offset after `k` registers. -/
def offAfter : Nat → Nat → Nat
  | 0, o => o
  | k + 1, o => offAfter k (nextOff o)

/-- SPI port `k`, and the state with it replaced. -/
def spiOf (s : State) (k : Nat) : Spi := s.ports.spi.getD k Spi.init
def setSpi (k : Nat) (p : Spi) (s : State) : State := { s with ports := { s.ports with spi := s.ports.spi.set k p } }

/-- The frame reads; its word count; the address of its next word (R362, R363). -/
def Spi.rd (p : Spi) : Bool := (p.hdr.getD 0 0).toNat.testBit 7
def Spi.len (p : Spi) : Nat := (p.hdr.getD 0 0).toNat % 64 + 1
def Spi.addr (p : Spi) : Nat :=
  let o := (p.hdr.getD 2 0).toNat
  (p.hdr.getD 1 0).toNat * 256 + (if (p.hdr.getD 0 0).toNat.testBit 6 then offAfter p.done o else o)

/-- The frame is in its data phase. -/
def Spi.inData (p : Spi) : Bool := p.hdr.length == 3 && decide (p.done < p.len)

/-- The host of an SPI port (R359). -/
def spiHost (k : Fin 2) : Fin 3 := if k = 0 then 0 else 1

/-- The transfer began with the read bit. -/
def Hpc.rd (p : Hpc) : Bool := (p.bytes.headD 0).toNat % 2 == 1

/-- The transfer carries a PEC (R369). -/
def Hpc.pec (p : Hpc) : Bool := bit p.cfg 31

/-- The host of a row that is itself one access; none for the other commands. -/
def hostOf (i : Instr) : Option (Fin 3) :=
  match i with
  | .clkFrameLoRead h | .phCfgWrite h _ _ | .railCfgWrite h _ _ | .baseRegisterWrite h _ _ | .captureArm h | .captureRelease h
  | .capdataRead h | .phLoad h _ | .phPerWrite h _ _ | .phCmpWrite h _ _ | .phOfsWrite h _ _ | .phDtWrite h _ _ | .phEnable h _ _
  | .phDisable h _ _ | .tripClr h _ | .rcompCommit h _ _ | .engineHalt h | .engineRelease h | .engStdatRead h | .engClearOverrun h
  | .engClearLatency h | .engClearPeak h | .railSrcWrite h _ _ | .railStart h _ | .railStop h _ | .railClr h _ | .domainStart h _
  | .domainStop h _ | .rtabEntryWrite h _ _ _ | .rtabZero h _ _ _ | .cupStart h | .cupStop h | .cupArst h | .cupRel h | .fcLatClear h _ _
  | .fcClrfirst h | .fcExit h | .faultInject h _ _ | .twinHandover h | .twinPrst h | .twinRejoin h | .nvRead h | .nvProg h | .nvErase h
  | .nvAppend h | .nvFind h | .nvFindseq h | .hostErrclr h | .hostFrmclr h | .pgAclWrite h _ _ | .pageSelWrite h _ _ | .pageLock h _
  | .pageUnlock h _ | .pgEvtClear h _ _ | .sbHostTransaction h _ | .sbPollWrite h _ _ | .sbEnable h _ | .sbDisable h _ | .perfRun h _
  | .perfClr h _ | .perfOvfClear h _ | .perfCtrRead h _ | .devGo h | .devIdle h | .devSoftReset h _ | .registerWrite h _ _ => some h
  | _ => none

/-- The host whose port presents an access with a row (R361, R364, R366, R368): a word or a byte that its port discards presents none. With PEC
the register is presented at its fourth byte, where it is checked, and again at the PEC byte, which applies it (R369). (DESIGN CHOICE, log entry 72) -/
def presents (s : State) (i : Instr) : Option (Fin 3) :=
  let p := s.ports.hpc
  let writes := p.busy && p.serve && !p.rd && !p.nacked && !p.pecDone
  let hpc (b : Bool) : Option (Fin 3) := if b then some 2 else none
  let spi (q : Fin 2) (f : Spi → Bool) : Option (Fin 3) :=
    let x := spiOf s q
    if x.sel && x.serve && x.inData && x.code == 0 && f x then some (spiHost q) else none
  if !served s then none else
  match i with
  | .spiWord q _ => spi q fun _ => true
  | .spiFrameEnd q n => spi q fun x => x.rd && decide (0 < n)
  | .hpcRegisterWrite _ => hpc writes
  | .hpcPecByte _ => hpc (writes && p.pec && p.held.isSome)
  | .hpcRegisterRead _ _ => hpc (if p.busy && p.rd then p.serve && !p.pecDone else true)
  | i => hostOf i

/-- Accesses that a port presents and the arbiter has not yet accepted (R379, R404): where the latest command was an access, the one of
port `c` that is to be carried out now, and the accesses directly behind it in the queue. (DESIGN CHOICE, log entry 72) -/
def requests (s : State) (c : Option (Fin 3)) (h : Nat) : Nat :=
  if !s.perf.acc || c.isNone then 0 else
  min 4 (((s.pending.map (presents s)).takeWhile (·.isSome)).countP (fun k => k.any fun k => k.1 == h) + b2n (c.any fun k => k.1 == h))

/-! ### Instants at which rows are due -/

/-- The end of generator `p`'s present period (R107). -/
def Gen.periodEnd (g : Gen) : Nat := g.org + g.curPer

/-- The host's shadow set as it stands (R121). -/
def shadowSet (s : State) (p : Nat) : GenSet :=
  ⟨fld (s.pr p Reg.PH_PER) 15 0, fld (s.pr p Reg.PH_CMP) 21 0, fld (s.pr p Reg.PH_DT) 29 16, fld (s.pr p Reg.PH_DT) 13 0,
   fld (s.pr p Reg.PH_OFS) 15 0⟩

/-- The set that transfers at the next boundary (R121, R122, R125). -/
def nextSet (s : State) (p : Nat) : GenSet :=
  let g := (s.ph p).gen
  match g.eset with
  | some e => e
  | none => if g.ldpend then shadowSet s p else g.act

/-- The instant of a generator's first period: its reference instant plus the offset of the set that transfers (R119). -/
def startDue (s : State) (p : Nat) : Option Nat := (s.ph p).gen.ref.map (· + (nextSet s p).ofs)

/-- Counts of the lead phase's period at which the averaging windows end, ascending (R89): TARGET, taken as P − 8 beyond it, and
each further multiple of P / VRATE. -/
def voltageGrid (s : State) (r per : Nat) : List Nat :=
  let n := vrate s r
  ((List.range n).map fun j => (min (fld (s.rr r Reg.RAIL_VSAMP) 15 0) (per - 8) + j * per / n) % per).insertionSort (· ≤ ·)

/-- The measurement that is due next in the lead phase's present period ends at this instant, in CNT since reset, on the grid that RAIL_VSAMP
gives as it now stands (R89). (DESIGN CHOICE, log entry 166) -/
def voltageDue (s : State) (r : Nat) : Option Nat :=
  match leadOf s r with
  | none => none
  | some p =>
    let g := (s.ph p).gen
    if !counts s p || !g.going then none else ((voltageGrid s r g.curPer)[(s.rail r).vmN]?).map fun c => g.org + c

/-- The CKS cycle of the first CKS edge at or after an instant in CNT (R90, R140). -/
def cksOf (t : Nat) : Nat := (t + 7) / 8

/-- The order in which queued updates are served (R140). -/
def QItem.before (a b : QItem) : Bool :=
  let ca := ctxClass a.ctx
  let cb := ctxClass b.ctx
  decide (ca < cb) || (ca == cb && (decide (a.at_ < b.at_) || (a.at_ == b.at_ && decide (a.ctx < b.ctx))))

/-- The update served first. -/
def pickUpdate : List QItem → Option QItem
  | [] => none
  | q :: t => match pickUpdate t with
    | none => some q
    | some x => if x.before q then some x else some q

/-- The instant at which the update served first writes its results, `latency` CKE cycles after its sample (R145). -/
def updateDue (s : State) (latency : Nat) : Option Nat := (pickUpdate s.eng.queue).map fun q => 8 * q.at_ + latency * 5 / 4

/-- The instant of a row that has one, in CNT since reset. -/
def rowDue (s : State) (i : Instr) : Option Nat :=
  match i with
  | .engineUpdate l _ _ => updateDue s l
  | .gridzcEdge f c _ => some (f * 400 + c)
  | .controlConversionStart p n => some ((s.ph p).gen.org + n)
  | .controlConversionEnd p _ => some (8 * (s.ph p).convAt)
  | .voltageMeasurementEnd r => voltageDue s r
  | .periodBoundary p _ _ => some (s.ph p).gen.periodEnd
  | .generatorStart p => startDue s p
  | _ => none

/-- The commands that wait for the present frame. -/
def thisFrame (s : State) : List Instr := s.pending.takeWhile fun i => match i with | .frameTick _ _ _ _ _ _ => false | _ => true

/-- CKB cycle of the present frame in which an instant lies, given in CNT since reset; none where it lies in no cycle that is still to
come (R62). -/
def cycleOf (s : State) (t : Nat) : Option Nat :=
  if edgeCnt s ≤ t && t < nextCnt s then some ((t - nowCnt s) / 4) else none

/-- Every instant that the state holds, and those of the rows that wait: period ends and starts of generators, ends of control conversions
and of voltage measurements. -/
def instants (s : State) : List Nat :=
  ((List.range 48).filterMap fun p =>
    if (s.ph p).gen.going then some (s.ph p).gen.periodEnd else if counts s p && !isStandby s then startDue s p else none) ++
  ((List.range 48).filterMap fun p => if (s.ph p).converting then some (8 * (s.ph p).convAt) else none) ++
  (List.range 16).filterMap (voltageDue s) ++ (thisFrame s).filterMap (rowDue s)

/-- The first CKB cycle to come, of the present frame, in which such an instant lies; 99, the frame's last one, where none does. -/
def nextDue (s : State) : Nat := (instants s).foldl (fun n t => match cycleOf s t with | some k => min n k | none => n) 99

/-- A row that takes a CKB cycle of its own: an access, or the acceptance of a message (R275, R379). -/
def takesCycle (s : State) (i : Instr) : Bool := (presents s i).isSome || (match i with | .faultAccept => true | _ => false)

/-- The cycle up to which free cycles may pass: the waiting rows that take a cycle of their own keep theirs, before the row that has an
instant and before the frame's end. -/
def freeUntil (s : State) : Nat :=
  let l := thisFrame s
  min (nextDue s - (l.takeWhile fun i => (rowDue s i).isNone).countP (takesCycle s)) (99 - l.countP (takesCycle s))

/-- A free number of cycles. -/
def freeCycles (s : State) : Nat := min (freeUntil s - s.perf.at_) (Config.cyclesTo s.cyc)

/-- CKB cycles between the command before and one that begins (R275, R379, R398, R433). A command with an instant `due`, in CNT since
reset, comes at it. An access takes a new cycle, so that it comes before every change that a block makes in its cycle, and the cycle behind an
access that it follows. A message (`msg`) is accepted in a new cycle too, or behind the frame edge or the access that begins the present
one where a message was raised before it. The other rows take a free number of cycles. (DESIGN CHOICE, log entry 72) -/
def State.gap (s : State) (c : Option (Fin 3)) (due : Option Nat) (msg : Bool) : Nat :=
  if s.dev.rst || s.dev.clkStop then 0 else
  match due with
  | some t => (match cycleOf s t with | some k => k - s.perf.at_ | none => 0)
  | none =>
    let n := freeCycles s
    if c.isSome then (if s.perf.acc then 1 else max 1 n)
    else if msg && !(s.perf.head && s.fc.pend.any fun m => decide (m.born < s.clk)) then max 1 n
    else n

/-! ### The engine's lanes (R138, R140) -/

/-- The update has begun: it has taken a lane. -/
def begun (s : State) (q : QItem) : Bool := s.perf.runs.any (·.q == q)

/-- The update is on a lane, or has issued all its MACs and is yet to write its results. -/
def Perf.onLane (x : Perf) (q : QItem) : Bool := x.runs.any fun r => r.q == q && (r.lane.isSome || r.left == 0)

/-- The updates that wait for a lane, displaced ones among them (R140). -/
def waiting (s : State) (x : Perf) : List QItem := s.eng.queue.filter fun q => !x.onLane q

/-- An update takes lane `k`: with all its MACs, or from the one at which it stopped. -/
def Perf.take (x : Perf) (s : State) (q : QItem) (k : Nat) : Perf :=
  if x.runs.any (·.q == q) then { x with runs := x.runs.map fun r => if r.q == q then { r with lane := some k } else r }
  else { x with runs := x.runs ++ [⟨q, max 1 (ctxCost s q.ctx), some k⟩] }

/-- An update loses its lane. -/
def Perf.displace (x : Perf) (q : QItem) : Perf :=
  { x with runs := x.runs.map fun r => if r.q == q then { r with lane := none } else r }

/-- The running update that one of class 1 displaces, of those of a higher class the last in the order of R140. -/
def Perf.victim (x : Perf) : Option LaneRun :=
  (x.runs.filter fun r => r.lane.isSome && decide (1 < ctxClass r.q.ctx)).foldl
    (fun a r => match a with | none => some r | some b => if b.q.before r.q then some r else some b) none

/-- Waiting updates take lanes in the order of R140, free ones, and for class 1 those of higher classes; counted: how many were displaced. (DESIGN CHOICE, log entry 41) -/
def serveLanes (s : State) : Nat → Perf → Nat → Perf × Nat
  | 0, x, d => (x, d)
  | n + 1, x, d =>
    match pickUpdate (waiting s x) with
    | none => (x, d)
    | some q =>
      match (List.range 8).find? fun k => !x.runs.any fun r => r.lane == some k with
      | some k => serveLanes s n (x.take s q k) d
      | none =>
        match (if ctxClass q.ctx = 1 then x.victim else none) with
        | none => (x, d)
        | some v =>
          serveLanes s n ((x.displace v.q).take s q (v.lane.getD 0)) (d + 1)

/-- An update on a lane issues one MAC; with the last it leaves the lane. -/
def LaneRun.issue (r : LaneRun) : LaneRun :=
  if r.lane.isNone then r else { r with left := r.left - 1, lane := if r.left ≤ 1 then none else r.lane }

/-- One CKE cycle: lanes are taken, and each that is taken issues a MAC (R138, R140). -/
def laneCycle (s : State) : State :=
  let y := serveLanes s 16 { s.perf with runs := s.perf.runs.filter fun r : LaneRun => s.eng.queue.contains r.q } 0
  let s := s.modPerf fun _ => { y.1 with runs := y.1.runs.map LaneRun.issue }
  let s := if y.2 = 0 then s else perf 0x14 0 y.2 s
  (y.1.runs.filterMap fun r => r.lane).foldl (fun s k => perf 0x11 k 1 s) s

/-! ### Threshold events, and the cycles that pass (R398, R404) -/

/-- Value a threshold event watches, for an instance (R404); none for counting events. -/
def thresholdOf (s : State) (c : Option (Fin 3)) (evt inst : Nat) : Option Nat :=
  match evt with
  | 0x13 => some (waiting s s.perf).length
  | 0x22 => some (if inst = 0xFF then ((List.range 48).filter fun p => (s.ph p).pst == .active).length
                  else (activeOf s inst).length)
  | 0x23 => some ((refCode s inst : Int) - ((s.rail inst).vloop : Int)).natAbs
  | 0x32 => some (requests s c inst)
  | 0x41 => some s.fc.pend.length
  | _ => none

/-- The increment of counter `i` in a CKB cycle of this state is 1 (R398, R404): the time base 0x01, or a threshold event whose value
exceeds THR. -/
def stepping (s : State) (c : Option (Fin 3)) (i : Nat) : Bool :=
  let w := s.pg Pg.PERF (Reg.PERF_CFG + i)
  !bit w 31 && (fld w 30 24 == 1 ||
    (match thresholdOf s c (fld w 30 24) (fld w 23 16) with | some v => decide (fld w 15 0 < v) | none => false))

/-- One CKB cycle of this state: the counters step, and the lanes run through the CKE cycles that begin in it, 320 in the 100 of a frame. -/
def ckbCycle (c : Option (Fin 3)) (s : State) : State :=
  let k := s.perf.at_
  let s := if s.pg Pg.PERF Reg.PERF_RUN = 0 then s else s.modPerf fun _ => s.addTo (stepping s c) 1
  let s := loop ((k + 1) * 16 / 5 - k * 16 / 5) (fun s _ => laneCycle s) s
  s.modPerf fun x => { x with at_ := k + 1, skip := 0 }

/-- The counters and lanes after `n` CKB cycles of this state (R398, R402): the first is the cycle of the latest command. With no update
in the engine every cycle behind the first adds the same. -/
def State.passed (s : State) (c : Option (Fin 3)) (n : Nat) : Perf :=
  if n = 0 || s.dev.rst || s.dev.clkStop then s.perf
  else if !s.eng.queue.isEmpty then { (loop n (fun s _ => ckbCycle c s) s).perf with now := 0 }
  else if s.pg Pg.PERF Reg.PERF_RUN = 0 then { s.perf with at_ := s.perf.at_ + n, skip := 0, now := 0, runs := [] }
  else
    let s := s.modPerf fun _ => s.addTo (stepping s c) 1
    let s := s.modPerf fun x => { x with skip := 0 }
    { s.addTo (stepping s c) (n - 1) with at_ := s.perf.at_ + n, now := 0, runs := [] }

/-- `n` CKB cycles pass (R398). -/
def State.pass (s : State) (c : Option (Fin 3)) (n : Nat) : State := { s with clk := s.clk + n, perf := s.passed c n }

/-- The same command one CKB cycle further on. -/
def State.later (s : State) : State := s.pass none 1

/-- A command begins, presented by the port of `c` where a host sends it, at the instant `due` where it has one: the command counter moves
on, and the CKB cycles since the command before it have passed (R275, R398). (DESIGN CHOICE, log entry 5; DESIGN CHOICE, log entry 6; DESIGN CHOICE, log entry 72) -/
def State.begin (s : State) (c : Option (Fin 3) := none) (due : Option Nat := none) (msg : Bool := false) : State :=
  let n := s.gap c due msg
  let acc := c.isSome && served s
  { s with cyc := s.cyc + 1, clk := s.clk + n, perf := { s.passed c n with acc := acc, head := acc } }

/-- The frame edge in the performance unit (R398, R404, R406): the rest of the frame's 100 CKB cycles passes, and the bytes that the
units in progress, and those cut short since the edge before, have completed belong to the window that ends here. (DESIGN CHOICE, log entry 72; DESIGN CHOICE, log entry 93) -/
def perfEdge (wires : List Nat) (s : State) : State :=
  let t := (s.pass none (100 - s.perf.at_)).modPerf fun x => { x with at_ := 0, head := true }
  let on (k : Nat) : Bool := t.perf.cut.getD k false ||
    (if k = 3 then t.sb.cur.isSome else !t.dev.rst && !t.dev.clkStop && t.dev.st != .boot)
  let t := loop 4 (fun t k => if on k then progress k (wires.getD k 0) t else t) t
  perf 0x02 0 1 (t.modPerf fun x =>
    { x with ahead := (x.ahead.zip x.cut).map fun y => if y.2 then 0 else y.1, cut := List.replicate 4 false })

end Sys2Proof.Machine
end

