-- ==== Sys2Proof/Machine/Flags.lean ====
section
/-! DEFINITION. Machine/Flags.lean: the fault sources (R297), their classes, the event flags of the pages (R424, R427) and the
interrupt pins (R380). -/

namespace Sys2Proof.Machine

/-! Source codes (R297). -/
namespace Src

abbrev DEV_RESET : Nat := 0x00
abbrev CLK_REF_LOSS : Nat := 0x01
abbrev CLK_PLL_UNLOCK : Nat := 0x02
abbrev CLK_RC_FAIL : Nat := 0x03
abbrev GRID_LOCK : Nat := 0x04
abbrev GRID_UNLOCK : Nat := 0x05
abbrev GRID_EDGE_REJ : Nat := 0x06
abbrev DEV_TWARN : Nat := 0x07
abbrev DEV_TSHUT : Nat := 0x08
abbrev DEV_SUPPLY : Nat := 0x09
abbrev RAIL_XOV : Nat := 0x10
abbrev RAIL_XUV : Nat := 0x11
abbrev RAIL_FOLLOW : Nat := 0x12
abbrev RAIL_OV : Nat := 0x13
abbrev RAIL_UV : Nat := 0x14
abbrev RAIL_SEQTO : Nat := 0x15
abbrev RAIL_STOPTO : Nat := 0x16
abbrev RAIL_LIMIT : Nat := 0x17
abbrev RAIL_RSTMAX : Nat := 0x18
abbrev RTAB_SAT : Nat := 0x19
abbrev RAIL_BRAKE : Nat := 0x1A
abbrev RAIL_BRAKETO : Nat := 0x1B
abbrev RAIL_DERATE : Nat := 0x1C
abbrev RAIL_NOPH : Nat := 0x1D
abbrev RAIL_TWARN : Nat := 0x1E
abbrev RAIL_OT : Nat := 0x1F
abbrev RAIL_SC_SKIP : Nat := 0x20
abbrev CUP_DONE : Nat := 0x21
abbrev CUP_ABORT : Nat := 0x22
abbrev CUP_ADLIM : Nat := 0x23
abbrev PH_HS_SHORT : Nat := 0x31
abbrev PH_OPEN : Nat := 0x32
abbrev PH_SENSE_IMPL : Nat := 0x33
abbrev PH_CBC : Nat := 0x34
abbrev PH_DLCAL : Nat := 0x38
abbrev PH_DT_HARD : Nat := 0x39
abbrev PH_UNAVAIL : Nat := 0x3A
abbrev PH_TRIMSAT : Nat := 0x3B
abbrev ENG_OVERRUN : Nat := 0x60
abbrev ENG_PARITY : Nat := 0x61
abbrev ENG_HALT : Nat := 0x62
abbrev ENG_COMMIT : Nat := 0x63
abbrev VS_WINDOW : Nat := 0x70
abbrev VS_RANGE : Nat := 0x71
abbrev VS_FAIL : Nat := 0x72
abbrev IS_RANGE : Nat := 0x73
abbrev IS_OFFSET : Nat := 0x74
abbrev AUX_RANGE : Nat := 0x75
abbrev SAR_SELF : Nat := 0x76
abbrev SPA_RANGE : Nat := 0x77
abbrev SPP_LOSS : Nat := 0x78
abbrev SENSE_TRIM : Nat := 0x79
abbrev CAP_DONE : Nat := 0x7A
abbrev HOST_REJECT : Nat := 0x80
abbrev HOST_PEC : Nat := 0x81
abbrev HOST_FRAME : Nat := 0x82
abbrev SB_STUCK : Nat := 0x84
abbrev SB_NACK : Nat := 0x85
abbrev SB_ARBLOST : Nat := 0x86
abbrev NV_PROG_FAIL : Nat := 0x90
abbrev NV_REC_CRC : Nat := 0x91
abbrev NV_FULL : Nat := 0x92
abbrev NV_PWRFAIL : Nat := 0x93
abbrev NV_BOOT_B : Nat := 0x94
abbrev NV_BOOT_FAIL : Nat := 0x95
abbrev TWIN_LINK_LOST : Nat := 0xA0
abbrev TWIN_TAKEOVER : Nat := 0xA1
abbrev TWIN_DUTY_MISMATCH : Nat := 0xA2
abbrev TWIN_CFG_MISMATCH : Nat := 0xA3
abbrev TWIN_PARTNER_SAFE : Nat := 0xA4
abbrev TRIP_OVC : Nat := 0xB8
abbrev FC_EXIT : Nat := 0xF0
abbrev FC_NVSKIP : Nat := 0xF1
abbrev FC_SELF : Nat := 0xFF
abbrev TRIP_PIN0 : Nat := 0xB0

end Src

/-! Registers common to every page (R424). -/
namespace Reg

abbrev PG_ID : Nat := 0x00
abbrev PG_CTL : Nat := 0x01
abbrev PG_STS : Nat := 0x02
abbrev PG_EVT : Nat := 0x03
abbrev PG_EVTEN : Nat := 0x04
abbrev PG_FORCE : Nat := 0x05
abbrev PG_ACL : Nat := 0x06
abbrev PAGE_SEL : Nat := 0xFF

end Reg

/-- Condition sources (R272, R297). -/
def condSrcs : List Nat :=
  [0x03, 0x07, 0x08, 0x09, 0x10, 0x11, 0x12, 0x13, 0x14, 0x1E, 0x1F, 0x20, 0x31, 0x38, 0x71, 0x72, 0x74, 0x75, 0x76, 0x78, 0x79, 0x84, 0x92, 0x95, 0xA0, 0xA3, 0xB0, 0xB1, 0xB2, 0xB3, 0xB4, 0xB5, 0xB6, 0xB7, 0xB8, 0xFF]

/-- Whether a source is a condition source. -/
def isCond (src : Nat) : Bool := condSrcs.contains src

/-- Programmable classes of a source (R297); a reserved source accepts class 0 only. -/
def classRange (src : Nat) : Nat × Nat :=
  if src == 0xFF then (4, 4)
  else if src == 0x34 then (0, 1)
  else if src == 0x01 || src == 0x02 || src == 0x08 || src == 0x09 || src == 0x95 then (4, 5)
  else if src == 0x1D || src == 0x31 || src == 0x60 || src == 0x61 || (0xB0 ≤ src && src ≤ 0xB8) then (3, 5)
  else if src == 0x00 ||
    (0x03 ≤ src && src ≤ 0x07) ||
    (0x10 ≤ src && src ≤ 0x1C) ||
    (0x1E ≤ src && src ≤ 0x23) ||
    (0x32 ≤ src && src ≤ 0x33) ||
    (0x38 ≤ src && src ≤ 0x3B) ||
    (0x62 ≤ src && src ≤ 0x63) ||
    (0x70 ≤ src && src ≤ 0x7A) ||
    (0x80 ≤ src && src ≤ 0x82) ||
    (0x84 ≤ src && src ≤ 0x86) ||
    (0x90 ≤ src && src ≤ 0x94) ||
    (0xA0 ≤ src && src ≤ 0xA4) ||
    (0xF0 ≤ src && src ≤ 0xF1) then (0, 5)
  else (0, 0)

/-- Whether a code names a source at all. -/
def isSrc (src : Nat) : Bool := (classRange src).2 != 0

/-- Class that FCSEV holds for a source (R277); FC_SELF reads 4. -/
def clsOf (s : State) (src : Nat) : Nat :=
  fld (s.pg Pg.FCSEV (Reg.FCSEV_CLS + src / 8)) (4 * (src % 8) + 2) (4 * (src % 8))

/-- Page and bit of the force and event flag of a source at an address (R288, R427). -/
def evtPlace (src addr : Nat) : Option (Nat × Nat) :=
  if src < 0x10 then some (Pg.DEV, src)
  else if src < 0x30 then (if addr < 16 then some (Pg.RAIL + addr, src - 0x10) else none)
  else if src < 0x50 then (if addr < 48 then some (Pg.PH + addr, src - 0x30) else none)
  else if src < 0x60 then none
  else if src < 0x70 then some (Pg.ENG, src - 0x60)
  else if src < 0x80 then some (Pg.SAMP, src - 0x70)
  else if src < 0x84 then none
  else if src < 0x90 then some (Pg.SBUS, src - 0x84)
  else if src < 0xA0 then some (Pg.NV, src - 0x90)
  else if src < 0xB0 then some (Pg.TWIN, src - 0xA0)
  else if src < 0xC0 then some (Pg.TRIP, src - 0xB0)
  else none

/-- First source of the force range of a page type and the number of its sources (R288). -/
def forceBase : PType → Option (Nat × Nat)
  | .dev => some (0x00, 16) | .rail => some (0x10, 32) | .ph => some (0x30, 32) | .eng => some (0x60, 16)
  | .samp => some (0x70, 16) | .host => some (0x80, 4) | .sbus => some (0x84, 12) | .nv => some (0x90, 16)
  | .twin => some (0xA0, 16) | .trip => some (0xB0, 16) | .fc => some (0xF0, 16)
  | _ => none

/-- Event flags of a page are set. -/
def setEvt (page m : Nat) (s : State) : State :=
  s.setReg (page * 256 + Reg.PG_EVT) (s.pg page Reg.PG_EVT ||| BitVec.ofNat 32 m)

/-- Event flags of a page are cleared. -/
def clrEvt (page m : Nat) (s : State) : State :=
  s.setReg (page * 256 + Reg.PG_EVT) (s.pg page Reg.PG_EVT &&& ~~~ BitVec.ofNat 32 m)

/-- FC_STANDk (R285): bit j is 1 while source 32k + j stands. -/
def fcStand (s : State) (k : Nat) : Word := BitVec.ofNat 32 (maskOf 32 fun j => stands s (32 * k + j))

/-! ### Owner, access rights (R359, R373) -/

/-- The owner host: HOSTB when OWNSEL is strapped, else HOSTA (R359). -/
def owner (s : State) : Nat := if s.dev.ownsel then 1 else 0

/-- Access of a host to a page (R373): 0 none, 1 read, 3 read-write. Guest fields of the HOST page read 0b01. -/
def accessOf (s : State) (h page : Nat) : Nat :=
  if h = owner s then 3 else if page = Pg.HOST then 1 else fld (s.pg page Reg.PG_ACL) (2 * h + 1) (2 * h)

/-! ### Interrupts (R380) -/

/-- Whether a page contributes to the interrupt of a host. -/
def irqPage (s : State) (h page : Nat) : Bool :=
  let en := s.reg (hostKey h (page * 256 + Reg.PG_EVTEN)) &&& s.pg page Reg.PG_EVT
  if page = Pg.HOST then bit en h || (accessOf s h page != 0 && en != 0)
  else accessOf s h page != 0 && en != 0

/-- HOST_IRQPENDk as host `h` reads it. -/
def irqPend (s : State) (h k : Nat) : Word :=
  BitVec.ofNat 32 (maskOf 32 fun j => 32 * k + j < 0x72 && irqPage s h (32 * k + j))

/-- The pin of a host is driven low (R380): kept at its level while CKB is stopped, in high impedance in BOOT. -/
def irqPin (s : State) (h : Nat) : Bool :=
  if s.dev.rst || s.dev.st == .boot then false
  else if s.dev.clkStop then s.dev.irqHeld.getD h false
  else (List.range 0x72).any fun p => irqPage s h p

end Sys2Proof.Machine
end

