-- ==== Sys2Proof/Machine/Rail.lean ====
section
/-! DEFINITION. Machine/Rail.lean: the states of a rail and what entering each of them does (R155-R160, R172-R189, R208-R229,
R244, R249, R252, R263): start checks, hand-over preloads, bank switch, change of the active set. -/

namespace Sys2Proof.Machine

/-! ### Measurements a rail uses -/

/-- A voltage channel is failed (R79). -/
def vsFailed (s : State) (n : Nat) : Bool := (s.rail n).vsRange.on || (s.rail n).vsFail.on

/-- An AUX channel is failed (R95). -/
def auxFailed (s : State) (n : Nat) : Bool := (s.aux.range.getD n Cond.init).on || s.aux.sarSelf.on

/-- The channel a rail's FFSRC names is failed (R23); a rail without one has none to fail. -/
def ffFailed (s : State) (r : Nat) : Bool :=
  let f := ffsrc s r
  if f < 16 then vsFailed s f else if f < 32 then auxFailed s (f - 16) else false

/-- PU16 code of the FFSRC measurement (R22). -/
def ffCode (s : State) (r : Nat) : Nat :=
  let f := ffsrc s r
  if f < 16 then (s.rail f).vabs else if f < 32 then s.aux.val.getD (f - 16) 0 else 0

/-- The other terminal in the rail's pu: FFK × the FFSRC measurement (R151). -/
def otherPu (s : State) (r : Nat) : Rat := bf (s.actC r Reg.RCOMP_FFK) * pu (ffCode s r)

/-- The other terminal, rounded and saturated to PU16 (R242). -/
def otherCode (s : State) (r : Nat) : Nat := toPU16 (otherPu s r)

/-- Reciprocal of a voltage taken as at least 0x0400, rounded to BF24 (R151). -/
def recipV (v : Rat) : Rat := bf (toBF (1 / (if v < 1 / 16 then 1 / 16 else v)))

/-- The feed-forward term d_ff (R151); zero without a source and while it is lost (R23). -/
def dff (s : State) (r : Nat) : Rat :=
  if ffsrc s r = 0x3F || (s.rail r).ffLost then 0 else
  let own := pu (refCode s r)
  let rho := if ownInd s r then own * recipV (otherPu s r) else otherPu s r * recipV own
  if topo s r = 1 then 1 - rho else rho

/-! ### Cupping unit: ends of an injection (R263) -/

/-- The injection ends now, done or aborted (by the rail or device, or by the host). -/
def endInjection (done byRail : Bool) (s : State) : State :=
  let s := { s with cup := { s.cup with run := false, ending := none, zero := false, result := none
                                        last := if done then 1 else 2 } }
  let s := if s.cup.mode = 2 then { s with capt := { s.capt with st := 2 } } else s
  if done then event Src.CUP_DONE s.cup.rail s
  else event Src.CUP_ABORT (s.cup.rail + (if byRail then 2048 else 0)) s

/-- The injection is over: it has reached the zero at which it was to end, and ends as that says; else it is cut off here by the rail
or the device (R263). -/
def endNow (s : State) : State :=
  match s.cup.zero, s.cup.ending with
  | true, some (done, byRail) => endInjection done byRail s
  | _, _ => endInjection false true s

/-- An injection into the rail ends at once (R263). -/
def cupNow (r : Nat) (s : State) : State :=
  if s.cup.run && s.cup.rail == r then endNow s else s

/-- The injection ends at the next zero of its sine, or here where it has not begun (R262, R263). (DESIGN CHOICE, log entry 142) -/
def endAtZero (byRail : Bool) (s : State) : State :=
  if !s.cup.begun then endInjection false byRail s
  else if s.cup.ending.isNone then { s with cup := { s.cup with ending := some (false, byRail) } } else s

/-- An injection into the rail ends at the next zero of its sine (R263). -/
def cupAtZero (r : Nat) (s : State) : State :=
  if s.cup.run && s.cup.rail == r then endAtZero true s else s

/-- Updates of `n` whole injection cycles (R259). (DESIGN CHOICE, log entry 136) -/
def cupUpdates (s : State) (n : Nat) : Nat := (roundAway ((n : Rat) * fsOf s s.cup.rail / bf s.cup.f)).toNat

/-- A measurement starts from its settling interval (R259). -/
def cupRestart (s : State) : State :=
  let c := s.pg Pg.CUP Reg.CUP_CFG
  { s with cup := { s.cup with settle := cupUpdates s (fld c 7 0), integ := cupUpdates s (fld c 15 8), sums := ⟨0, 0, 0, 0⟩ } }

/-- The measurement in progress restarts (R259); one that is complete stands. -/
def cupAgain (s : State) : State := if s.cup.mode ≠ 1 && s.cup.result.isSome then s else cupRestart s

/-! ### Coefficient banks (R157-R160) -/

/-- Offsets of the coefficient registers of an RCOMP page (R157). -/
def coefOffs : List Nat := (List.range 0xE8).filter fun o => 0x0C ≤ o

/-- The pending bank becomes the active bank, LUTEN with it; 0x63 is reported (R159). -/
def switchBank (r : Nat) (s : State) : State :=
  let a := (0x50 + r) * 256
  let s := coefOffs.foldl (fun s o => s.setReg (bankKey (a + o)) (s.reg (a + o))) s
  let s := s.setReg (bankKey (a + Reg.RCOMP_CTL))
    (setFld (s.actC r Reg.RCOMP_CTL) 1 1 (fld (s.pendC r Reg.RCOMP_CTL) 1 1))
  let s := s.modRail r fun x => { x with bankErr := false }
  let s := if s.cup.run && s.cup.rail == r then cupAgain s else s
  event Src.ENG_COMMIT r s

/-- A pending commit switches, if it has not switched yet; the copy back is then open (R159). -/
def switchIfPending (r : Nat) (s : State) : State :=
  if (s.rail r).pend && !(s.rail r).copying then
    switchBank r (s.modRail r fun x => { x with copying := true }) else s

/-! ### Contexts (R156) -/

/-- The stage blocks of a context are zeroed; a word that had failed parity is rebuilt (R156, R165). -/
def zeroCtx (c : Nat) (s : State) : State :=
  { s with eng := { s.eng with ctx := s.eng.ctx.setIfInBounds c (List.replicate 6 Block.init)
                               parity := s.eng.parity.filter (· != c) } }

/-- Every context of a rail is zeroed, its phases' contexts with it (R156). -/
def zeroRail (r : Nat) (s : State) : State :=
  (phasesOf s r).foldl (fun s p => zeroCtx (80 + p) (zeroCtx (32 + p) s)) (zeroCtx (16 + r) (zeroCtx r s))

/-- Queued updates of a rail's contexts are dropped: they are idle (R33). -/
def dropQueued (r : Nat) (s : State) : State :=
  { s with eng := { s.eng with queue := s.eng.queue.filter fun q => ctxRail s q.ctx != some r } }

/-! ### The active set (R208-R214) -/

/-- The shadow set becomes the active set of a generator at rest (R121, R122); an adapted edge keeps its delay (R116). -/
def loadShadow (p : Nat) (s : State) : State :=
  let h := shadowSet s p
  s.modGen p fun g => { g with act := h, curPer := h.per, curCmp := h.cmp, ldpend := false, eset := none
                               dth := if g.adH then g.dth else h.dth, dtl := if g.adL then g.dtl else h.dtl }

/-- Offset of the phase of rank `k` among `n` (R214). -/
def rankOfs (s : State) (r k n : Nat) : Nat := (roundAway ((k * railPer s r : Rat) / (n : Rat))).toNat

/-- Offsets are spread over the period for phases in ascending index (R214). -/
def spreadOver (r : Nat) (l : List Nat) (s : State) : State :=
  let t := s
  l.zipIdx.foldl (fun s x =>
    s.setReg ((0x20 + x.1) * 256 + Reg.PH_OFS) (setFld (s.pr x.1 Reg.PH_OFS) 15 0 (rankOfs t r x.2 l.length))) s

/-- The offsets of the ACTIVE phases are re-spread over the period: each phase's next complete set carries its own (R214). (DEDUCED, log entry 38) -/
def respread (r : Nat) (s : State) : State :=
  let t := s
  let l := activeOf s r
  l.zipIdx.foldl (fun s x => s.modPh x.1 fun y => { y with newOfs := some (rankOfs t r x.2 l.length) }) s

/-- The phases that will take part in a start take the rail's period and spread offsets before they count (R14, R214). -/
def loadRail (r : Nat) (s : State) : State :=
  let on := (phasesOf s r).filter (enOf s)
  on.foldl (fun s p => loadShadow p s) (spreadOver r on s)

/-- The output a voltage loop takes over at start-up (R188): 0 for CASCADE, d_ff or PBDUTY for DIRECT. (DEDUCED, log entry 44) -/
def startDuty (s : State) (r : Nat) : Rat :=
  if ffsrc s r = 0x3F then pu (fld (s.rr r Reg.RAIL_STARTCFG) 15 0) else dff s r

/-- Start-up preloads of a rail's contexts (R188: PREBIAS to RAMP, and BRAKE to REGULATE). -/
def preloadStart (r : Nat) (s : State) : State :=
  let u := startDuty s r
  if cascade s r then
    (activeOf s r).foldl (fun s p => s.modPh p fun x => { x with plC := some u })
      (s.modRail r fun x => { x with plV := some 0 })
  else s.modRail r fun x => { x with plV := some u }

/-- Preloads of a rail's contexts with their outputs before DRIP (R188); a phase that joins has had none (R214). -/
def preloadDrip (r : Nat) (s : State) : State :=
  let s := s.modRail r fun x => { x with plV := some x.preDrip }
  if cascade s r then
    (activeOf s r).foldl (fun s p => s.modPh p fun x => { x with plC := if x.joining then x.plC else some x.preDrip }) s else s

/-- The rail goes back from DRIP to REGULATE (R220); its phases run from their next boundaries. -/
def dripExit (r : Nat) (s : State) : State :=
  if (s.rail r).st == .drip then
    preloadDrip r (s.modRail r fun x => { x with st := .regulate, frames := 0, dripCnt := 0, dripDue := false }) else s

/-- The decimation factors of a rail that is out of OFF (R91, R139): each the greatest of its values for the periods at which the ACTIVE
phases switch, which are two while a period change passes through them. -/
def redecimate (r : Nat) (s : State) : State :=
  let pers := ((activeOf s r).filter fun p => (s.ph p).gen.going).map fun p => (s.ph p).gen.act.per
  let l := (if pers.isEmpty then [railPer s r] else pers).map (decims s r)
  s.modRail r fun x => { x with nOut := maxN (l.map (·.1)), nCur := maxN (l.map (·.2.1)), nBal := maxN (l.map (·.2.2)) }

/-- The active set of a rail has changed (R214): offsets are re-spread, the counts restart (R212, R230), the decimation is that of the
phases left (R139), DRIP is left (R220), after a debug halt in it (R161), and 0x1D is raised when no phase is left (R229). Changes of one CKB
cycle count as one. A failure in the cycle of a frame edge at which an add is due leaves it due, and of a shed that is due it leaves the
next frame to say whether its condition still holds (R230). (DESIGN CHOICE, log entry 154) -/
def activeChanged (r : Nat) (s : State) (failure : Bool := false) : State :=
  let first := (s.rail r).chgAt != some s.clk
  let edge := failure && s.perf.at_ == 0
  let dw := rgOf s r 5
  let s := respread r s
  let s := s.modRail r fun x =>
    { x with shedCnt := if edge && decide (x.shedCnt ≠ 0) && decide (fld dw 31 16 ≤ x.shedCnt) then fld dw 31 16 - 1 else 0
             addCnt := if edge && decide (fld dw 15 0 ≤ x.addCnt) then x.addCnt else 0
             dripCnt := 0, chgAt := some s.clk }
  let s := if (s.rail r).st.running then redecimate r s else s
  let s := if s.eng.haltReq then s.modRail r fun x => { x with dripDue := x.st == .drip } else dripExit r s
  let s := if first then perf 0x24 r 1 s else s
  if (s.rail r).st.running && (availOf s r).isEmpty then event Src.RAIL_NOPH r s else s

/-- A phase joins the active set (R214): zeroed contexts, unseeded observer, HOLD until its first new set transfers; one just SHED
completes the period in progress. -/
def joinPhase (p : Nat) (s : State) : State :=
  let lead := match railOf s p with | some r => leadOf s r | none => none
  (zeroCtx (80 + p) (zeroCtx (32 + p) s)).modPh p fun x =>
    { x with pst := .active, joining := true, joinLead := lead, joinNext := false, seeded := false, trim := 0, trimAt := 0, trimIn := 0
             plC := none, gen := { x.gen with hold := x.gen.hold || !x.gen.going, eset := none, ref := none } }

/-- The condition FAILED of a phase: HOLD at once (R208, R214). -/
def markFailed (p : Nat) (s : State) : State :=
  s.modPh p fun x => { x with pst := .failed, joining := false, joinNext := false, seeded := false, gen := { x.gen with hold := true } }

/-- A phase becomes FAILED (R208, R214). -/
def failPhase (p : Nat) (s : State) : State :=
  match railOf s p with
  | none => s
  | some r => activeChanged r (markFailed p s) true

/-! ### Feed-forward lost and restored (R23, R188) -/

/-- The outer limiter is in control of the rail (R178). -/
def limited (s : State) (r : Nat) : Bool :=
  (s.rail r).st == .limit || ((s.rail r).st == .stopping && (s.rail r).limdir != 0)

/-- Preload of the context to which d_ff is added, with its last output. A voltage loop under the limiter is preloaded at its every
update (R179), a joining phase has had no output (R214). A preload that no update has taken yet stands: its context has had no output
since. (DEDUCED, log entry 141) -/
def preloadFf (r : Nat) (s : State) : State :=
  if !(s.rail r).st.running then s
  else if cascade s r then
    (activeOf s r).foldl (fun s p => s.modPh p fun x =>
      { x with plC := if x.joining && x.gen.eset.isNone then x.plC else x.plC <|> some x.duty }) s
  else if limited s r then s
  else s.modRail r fun x => { x with plV := x.plV <|> some x.out }

/-- The feed-forward of every rail whose channel has just failed is lost. -/
def ffLose (s : State) : State :=
  loop 16 (fun s r => if ffFailed s r && !(s.rail r).ffLost then
    preloadFf r (s.modRail r fun x => { x with ffLost := true }) else s) s

/-- The first valid conversion of channel `f` (an FFSRC code) restores the feed-forward. -/
def ffRestore (f : Nat) (s : State) : State :=
  loop 16 (fun s r => if ffsrc s r == f && (s.rail r).ffLost && !ffFailed s r then
    preloadFf r (s.modRail r fun x => { x with ffLost := false }) else s) s

/-- The observer of a phase can run (R225): enabled, ACTIVE, a feed-forward channel, neither channel failed. -/
def obsCan (s : State) (p : Nat) : Bool :=
  match railOf s p with
  | none => false
  | some r => bit (pmOf s p 3) 31 && (s.ph p).pst == .active && ffsrc s r != 0x3F && !ffFailed s r
      && !vsFailed s r && (s.rail r).st.running

/-- The observers of the phases `l` are checked. Where one stops, the estimate is no longer seeded, and a phase on dead reckoning
becomes FAILED, which 0x3A reports (R225, R227, R229); the phases of a rail that fail in one cycle are one change of its set (R214). -/
def obsCheckOf (l : List Nat) (s : State) : State :=
  let lost := l.filter fun p => (s.ph p).est && (s.ph p).pst == .active && !obsCan s p
  let s := l.foldl (fun s p => s.modPh p fun x => { x with seeded := x.seeded && obsCan s p }) s
  let s := lost.foldl (fun s p => event Src.PH_UNAVAIL p (markFailed p s)) s
  loop 16 (fun s r => if lost.any fun p => railOf s p == some r then activeChanged r s true else s) s

/-- The observer of one phase is checked. -/
def obsCheck1 (p : Nat) (s : State) : State := obsCheckOf [p] s

/-- Every observer is checked. -/
def obsCheck (s : State) : State := obsCheckOf (List.range 48) s

/-! ### Entering a rail state -/

/-- The conditions that stand only during PRECHECK stop standing (R83, R252). -/
def endPrecheck (r : Nat) (s : State) : State :=
  let s := setCond Src.RAIL_SC_SKIP r false s
  (phasesOf s r).foldl (fun s p => setCond Src.PH_HS_SHORT p false (setCond Src.IS_OFFSET p false s)) s

/-- A limit's count and standing condition end (R244). -/
def endUv (r : Nat) (s : State) : State :=
  setCond Src.RAIL_UV r false (s.modRail r fun x => { x with uv := Cond.init, uvArmed := false })
def endXuv (r : Nat) (s : State) : State :=
  setCond Src.RAIL_XUV r false (s.modRail r fun x => { x with xuv := Cond.init })

/-- The following error is cleared: count, FEACT, and the source (R187). -/
def endFollow (r : Nat) (s : State) : State :=
  setCond Src.RAIL_FOLLOW r false (s.modRail r fun x => { x with feact := false, feCnt := 0, feIn := 0 })

/-- The DAC code that the latest absolute conversion sets, where one has been made (R75). -/
def Rail.dacCode (x : Rail) : Nat :=
  if x.vabsValid then min 65535 (roundAway (x.vabsV * 40960)).toNat else x.vdac

/-- What OFF, FAULTED and LOCKED share: phases to STOP, contexts idle, a pending commit switches (R159), an injection ends,
limits armed only while the rail runs are disarmed (R244). -/
def stopCommon (st : RailState) (r : Nat) (s : State) : State :=
  let s := if (s.rail r).st == .precheck then endPrecheck r s else s
  let s := cupNow r s
  let s := dropQueued r s
  let s := restRail (st == .off) r s
  let s := switchIfPending r s
  let s := endFollow r (endXuv r (endUv r s))
  s.modRail r fun x =>
    { x with st := st, vdac := if st == .off then x.dacCode else x.vdac
             frames := 0, startPend := false, stopPend := false, gangPend := none, limdir := 0, limCnt := 0, shedCnt := 0, addCnt := 0
             dripCnt := 0, plV := none, learning := false, group := 0, ofsLeft := [], scDone := false, ePrev := none, fell := false
             rstpend := false, rstDelay := none }

/-- OFF (R172): phases that had failed are available again (R229). -/
def toOff (r : Nat) (s : State) : State := (stopCommon .off r s).modRail r fun x => { x with faultedBy := [] }

/-- FAULTED is entered, by a source at an address (R182, R183). (DEDUCED, log entry 58) -/
def enterFaulted (src addr r : Nat) (s : State) : State :=
  let c := s.rr r Reg.RAIL_RESTART
  (stopCommon .faulted r s).modRail r fun x =>
    { x with faultedBy := [(src, addr)], policy := bit c 31, nmax := fld c 27 24, rstpend := bit c 31
             rstDelay := if bit c 31 then some (fld c 23 0) else none }

/-- A class 3 action on a rail (R182, R183). A rail in OFF or LOCKED is not changed; in FAULTED the source is added. -/
def toFaulted (src addr r : Nat) (s : State) : State :=
  match (s.rail r).st with
  | .off | .locked => s
  | .faulted => s.modRail r fun x =>
      { x with faultedBy := if x.faultedBy.contains (src, addr) then x.faultedBy else x.faultedBy ++ [(src, addr)] }
  | _ => enterFaulted src addr r s

/-- LOCKED (R182, R244). (DESIGN CHOICE, log entry 150) -/
def toLocked (r : Nat) (s : State) : State :=
  let s := stopCommon .locked r s
  let s := setCond Src.RAIL_OV r false (setCond Src.RAIL_XOV r false s)
  let s := setCond Src.RAIL_TWARN r false (setCond Src.RAIL_OT r false s)
  s.modRail r fun x => { x with ov := Cond.init, xov := Cond.init, tw := Cond.init, ot := Cond.init }

/-- Blend steps of a whole blend, by the nominal frequency in force (R196, R204). -/
def blendLen (s : State) : Nat := if bit s.grid.cfg 31 then 133336 else 160000

/-- Target of the blend weight, in steps (R203). -/
def blendTarget (s : State) (r : Nat) : Nat :=
  if fld (s.tr r Reg.RTAB_CFG) 31 30 = 2 && s.grid.lock then blendLen s else 0

/-- V_ind and V_br of the short check in PU16, where both exist (R249). -/
def scInputs (s : State) (r : Nat) : Option (Nat × Nat) :=
  if ffsrc s r = 0x3F || ffFailed s r || vsFailed s r then none
  else if ownInd s r then some ((s.rail r).vabs, otherCode s r) else some (otherCode s r, (s.rail r).vabs)

/-- The threshold code of the short check (R249). -/
def scCode (s : State) (r : Nat) : Nat :=
  match scInputs s r with
  | none => 0
  | some (vi, vb) =>
    (clampI 0 63 (roundAway (bf (s.rr r Reg.RAIL_SWSK) * ((pu vi + pu vb) / 2) * 40))).toNat

/-- The check is conclusive (R250). -/
def scConclusive (s : State) (r : Nat) : Bool :=
  let c := s.rr r Reg.RAIL_SCCFG
  bit c 31 && (match scInputs s r with
    | none => false
    | some (vi, vb) => decide (vi + fld c 15 0 ≤ vb)) && decide (1 ≤ scCode s r) && decide (scCode s r ≤ 62)

/-- Conditions of the limits that stand against a rail are raised again (R244). -/
def reraise (r : Nat) (s : State) : State :=
  [Src.RAIL_XOV, Src.RAIL_XUV, Src.RAIL_OV, Src.RAIL_UV, Src.RAIL_TWARN, Src.RAIL_OT].foldl
    (fun s src => if standsAt s src r then raise src 1 r false true s else s) s

/-- A rail leaves OFF (R89, R139, R156, R170, R202, R204, R229, R237): contexts and phases start afresh, the decimation is computed, the
blend weight takes its target at once. -/
def leaveOff (r : Nat) (s : State) : State :=
  let s := zeroRail r s
  let s := (phasesOf s r).foldl (fun s p => s.modPh p fun x =>
    { x with pst := .none, est := false, ncnt := 0, ocnt := 0, senseRaised := false, openRaised := false, seeded := false
             cbcFwd := 0, cbcRev := 0, schigh := false, plC := none, cntCur := 0, cntBal := 0, joining := false, newOfs := none
             joinLead := none
             joinNext := false, trim := 0, trimAt := 0, trimIn := 0, tsat := false
             iofs := if bit (s.pr p Reg.PH_ISENSE) 0 then x.iofs else 0 }) s
  let dec := decims s r (railPer s r)
  let tgt := blendTarget s r
  s.modRail r fun x =>
    { x with lead := ((phasesOf s r).filter (enOf s)).head?, vmN := 0, notchDue := true, notch := Block.init, trkdone := false, w := tgt
             limdir := 0, limCnt := 0, oowCnt := 0, nOut := dec.1, nCur := dec.2.1, nBal := dec.2.2, cntOut := 0, ePrev := none
             fell := false, plV := none, out := 0, ffLost := ffFailed s r, shedCnt := 0, addCnt := 0, dripCnt := 0 }

/-- PRECHECK (R83, R174, R244, R249-R252). The generators begin 1 µs after its frame edge, with their
offsets counted from there (R119, R190). (DEDUCED, log entry 36; DESIGN CHOICE, log entry 116; DESIGN CHOICE, log entry 125) -/
def toPrecheck (r : Nat) (s : State) : State :=
  let s := leaveOff r s
  let code := scCode s r
  let concl := scConclusive s r
  let scen := bit (s.rr r Reg.RAIL_SCCFG) 31
  let ofs := (phasesOf s r).filter fun p => enOf s p && bit (s.pr p Reg.PH_ISENSE) 0
  let s := s.modRail r fun x =>
    { x with st := .precheck, vdac := x.dacCode, scCfg := s.rr r Reg.RAIL_SCCFG, frames := 0, startPend := false, stopPend := false, ofsLeft := ofs
             scDone := !concl, scTested := concl, scres := if scen && !concl then 3 else 0, sccode := code, pbSum := 0, pbN := 0 }
  let s := reraise r (refAll (fun p => railOf s p == some r && enOf s p) (nowCnt s + 400) (loadRail r s))
  if scen && !concl then setCond Src.RAIL_SC_SKIP r true s else s

/-- PREBIAS (R75, R175). -/
def toPrebias (r : Nat) (s : State) : State :=
  (endPrecheck r s).modRail r fun x => { x with st := .prebias, vdac := x.dacCode, frames := 0, pbSum := 0, pbN := 0 }

/-- Target a rail's source asks for (R166, R170). -/
def wantedTarget (s : State) (r : Nat) : Nat :=
  let c := s.rr r Reg.RAIL_SRC
  let setpt := fld (s.rr r Reg.RAIL_SETPT) 15 0
  let src := fld c 3 0
  if src = 0 then setpt
  else if src ≤ 4 then (s.spa.getD (src - 1) ⟨[], 0⟩).val
  else if src ≤ 8 then (s.spp.getD (src - 5) ⟨0, 0, 0, 0, false⟩).val
  else setpt

/-- The tracked value t of a follower (R170). -/
def trackValue (s : State) (r : Nat) : Rat :=
  let c := s.rr r Reg.RAIL_SRC
  let l := fld c 15 12
  let vl := pu (s.rail l).vloop
  if fld c 9 8 = 0 then pu (fld (s.rr r Reg.RAIL_SETPT) 15 0) * vl / pu (max (s.rail l).target 0x400)
  else bf (s.rr r Reg.RAIL_TRACK) * vl

/-- The target of the frame, with TRKDONE (R166, R170); a voltage-ramp stop holds its own (R181). -/
def sampleTarget (r : Nat) (s : State) : State :=
  let x := s.rail r
  let held := x.st == .stopping && x.stopMode == 1
  if fld (s.rr r Reg.RAIL_SRC) 3 0 = 9 then
    let setpt := fld (s.rr r Reg.RAIL_SETPT) 15 0
    let t := trackValue s r
    let done := x.trkdone || decide (pu setpt ≤ t)
    s.modRail r fun x => { x with trkdone := done, target := if held then x.target else if done then setpt else min setpt (toPU16 t) }
  else if held then s else s.modRail r fun x => { x with target := wantedTarget s r }

/-- The latest valid measurement of a rail's FFSRC channel since reset, in PU16 (R177). -/
def ffOk (s : State) (r : Nat) : Option Nat :=
  let f := ffsrc s r
  if f < 16 then (s.rail f).vOk else if f < 32 then s.aux.ok.getD (f - 16) none else none

/-- The voltage of the inductor-side terminal for the power bounds, at least 0x0400 (R177). -/
def powerV (s : State) (r : Nat) : Rat :=
  let v := if ownInd s r then pu (s.rail r).vloop
    else match ffOk s r with
      | none => 0
      | some c => if ffFailed s r then bf (s.actC r Reg.RCOMP_FFK) * pu c else otherPu s r
  if v < 1 / 16 then 1 / 16 else v

/-- RAIL_CAP (R217): the available phases' IMAX in the rail's base. -/
def capOf (s : State) (r : Nat) : Nat :=
  let base := (s.rr r Reg.RAIL_IBASE_MA).toNat
  if base = 0 then Config.anyCode s.cyc % 65536 else
  toPU16 (sumR ((availOf s r).map fun p =>
    pu (fld (pmOf s p 1) 15 0) * (((s.pr p Reg.PH_IBASE_MA).toNat : Nat) : Rat) / ((base : Nat) : Rat)))

/-- The capacity as used (R217, R247): derated while RAIL_TWARN stands that was accepted at class 2. -/
def capUseOf (s : State) (r cap : Nat) : Nat := if (s.rail r).derate then toPU16 (pu cap * pu (fld (rgOf s r 4) 15 0)) else cap

/-- RAIL_TWARN's local action: the derating, from now on in every use of the capacity (R247). -/
def startDerate (r : Nat) (s : State) : State :=
  let s := s.modRail r fun x => { x with derate := true }
  if (s.rail r).st.running then s.modRail r fun x => { x with capUse := capUseOf s r x.cap } else s

/-- The outer limiter computes its bounds and the capacity (R177, R217, R247). -/
def computeBounds (r : Nat) (s : State) : State :=
  let v := powerV s r
  let il := s.rr r Reg.RAIL_ILIM
  let pl := s.rr r Reg.RAIL_PLIM
  let bound (i p : Nat) : Rat := if p = 0xFFFF then pu i else pu (min i (toPU16 (pu p / v)))
  let cap := capOf s r
  s.modRail r fun x => { x with hi := bound (fld il 31 16) (fld pl 31 16), lo := -bound (fld il 15 0) (fld pl 15 0), cap := cap
                                capUse := capUseOf s r cap, limCfg := s.rr r Reg.RAIL_LIMCFG }

/-- RAMP from PREBIAS: initial reference (R175), every available phase ACTIVE (R209), start-up preloads (R188). (DESIGN CHOICE, log entry 54; DESIGN CHOICE, log entry 76) -/
def toRamp (r : Nat) (s : State) : State :=
  let x := s.rail r
  let avg := (x.pbSum + 8) / 16
  let p := if fld (s.rr r Reg.RAIL_STARTCFG) 31 16 ≤ avg then avg else 0
  let avail := availOf s r
  let s := (phasesOf s r).foldl (fun s q => s.modPh q fun y =>
    { y with pst := if avail.contains q then .active else if enOf s q then y.pst else .unavail
             seeded := false, gen := { y.gen with hold := !avail.contains q } }) s
  let s := if avail.isEmpty then event Src.RAIL_NOPH r s else s
  let s := s.modRail r fun x =>
    { x with st := .ramp, frames := 1, group := 0, ref := p * 65536, ifilt := x.irail.natAbs * 65536, limCnt := 0
             shedCnt := 0, addCnt := 0, dripCnt := 0 }
  preloadStart r (computeBounds r (respread r s))

/-- STOPPING in a mode (R181): the end level as it stands at entry; UV is disarmed (R244); an injection runs down. (DESIGN CHOICE, log entry 145) -/
def toStoppingIn (mode r : Nat) (s : State) : State :=
  let was := (s.rail r).st
  let lvl := fld (s.rr r Reg.RAIL_STOPCFG) 15 0
  let s := if was == .drip then preloadDrip r s else if was == .brake then preloadStart r s
    else if was == .limit && mode != 2 then s.modRail r fun x => { x with plV := some x.limOut } else s
  let s := cupAtZero r (endFollow r (endUv r s))
  s.modRail r fun x =>
    { x with st := .stopping, frames := 0, stopPend := false, gangPend := none, stopMode := mode
             target := if mode = 1 then lvl else x.target
             limdir := if mode = 2 then x.limdir else 0, limCnt := 0
             rampHi := (roundAway (x.hi * 1073741824)).toNat, rampLo := (roundAway (-x.lo * 1073741824)).toNat
             shedCnt := 0, addCnt := 0, dripCnt := 0 }

/-- STOPPING in the mode that RAIL_STOPCFG.MODE gives at entry (R181). (DEDUCED, log entry 47) -/
def toStopping (r : Nat) (s : State) : State := toStoppingIn (fld (s.rr r Reg.RAIL_STOPCFG) 31 30) r s

/-- A stop with its mode given (R180, R181). -/
def stopUnder (mode r : Nat) (s : State) : State :=
  match (s.rail r).st with
  | .precheck | .prebias => toOff r s
  | .ramp | .regulate | .drip | .limit | .brake => toStoppingIn mode r s
  | .off => s.modRail r fun x => { x with startPend := false, group := 0 }
  | _ => s

/-- LIMIT with its bound (R178), 0x17, and 0x1C when CAP is the bound concerned (R217). -/
def toLimit (side r : Nat) (s : State) : State :=
  let s := cupNow r s
  let x := s.rail r
  let s := s.modRail r fun x => { x with st := .limit, frames := 0, limdir := side, limCnt := 0, shedCnt := 0, limOut := x.out, plL := some x.out
                                         plV := none, dripCnt := 0 }
  let s := event Src.RAIL_LIMIT r s
  if (side = 1 && decide (pu x.capUse < x.hi)) || (side = 2 && decide (x.lo < -pu x.capUse)) then event Src.RAIL_DERATE r s else s

/-- RAMP is entered by a rail that runs: every available phase is ACTIVE (R209). `n` is 1 at a frame edge, where IF is set
(R211), and 0 between, where it is set at the next. (DEDUCED, log entry 55) -/
def rampAgain (n r : Nat) (s : State) : State :=
  let s := s.modRail r fun x => { x with st := .ramp, frames := n, limdir := 0, dripCnt := 0, shedCnt := 0
                                         ifilt := if n = 1 then x.irail.natAbs * 65536 else x.ifilt }
  match (phasesOf s r).filter fun p => (s.ph p).pst == .shed with
  | [] => s
  | l => activeChanged r (l.foldl (fun s p => joinPhase p s) s)

/-- Out of LIMIT to RAMP or REGULATE (R179). -/
def limitExit (r : Nat) (s : State) : State :=
  if (s.rail r).ref = (s.rail r).target * 65536 then
    s.modRail r fun x => { x with st := .regulate, frames := 0, limdir := 0, limCnt := 0 }
  else rampAgain 0 r (s.modRail r fun x => { x with limCnt := 0 })

/-- BRAKE (R222, R223): every ACTIVE phase in HOLD at once. -/
def toBrake (r : Nat) (s : State) : State :=
  let s := cupNow r s
  let s := (activeOf s r).foldl (fun s p => s.modPh p fun x =>
    { x with seeded := false, gen := { x.gen with hold := true, cut := s.dev.frame + 1 } }) s
  event Src.RAIL_BRAKE r (s.modRail r fun x => { x with st := .brake, frames := 0, shedCnt := 0, addCnt := 0, dripCnt := 0 })

/-- BRAKE back to REGULATE (R223); the phases run from their next boundaries. -/
def brakeExit (r : Nat) (s : State) : State :=
  preloadStart r (s.modRail r fun x => { x with st := .regulate, frames := 0 })

/-- DRIP (R219): each ACTIVE phase takes its held duty, raised to TONMIN / P. (DEDUCED, log entry 48) -/
def toDrip (r : Nat) (s : State) : State :=
  let ton := fld (rgOf s r 1) 27 16
  let s := (activeOf s r).foldl (fun s p =>
    let m : Rat := (ton : Rat) / (fld (s.pr p Reg.PH_PER) 15 0 : Rat)
    s.modPh p fun x => 
      { x with dripDuty := if x.duty < m then m else x.duty, duty := if x.duty < m then m else x.duty, preDrip := x.duty }) s
  s.modRail r fun x => { x with st := .drip, frames := 0, preDrip := x.out, shedCnt := 0, addCnt := 0, dripCnt := 0, dripDue := false }

/-- A rail is set to a state with the entry actions of that state (R309); from OFF it leaves OFF first, and from a state in which its phases
stand in no condition it goes through RAMP, where every available phase is ACTIVE (R208, R209). (DEDUCED, log entry 155) -/
def enterRail (st : RailState) (r : Nat) (s : State) : State :=
  if (s.rail r).st = st then s else
  let s := if (s.rail r).st == .off && (st.running || st == .prebias) then leaveOff r s else s
  let s := if st.running && !(s.rail r).st.running then toRamp r s else s
  if (s.rail r).st = st then s else
  match st with
  | .off => toOff r s
  | .precheck => toPrecheck r s
  | .prebias => toPrebias r s
  | .ramp => rampAgain 1 r (if (s.rail r).st == .regulate then cupAtZero r s else s)
  | .regulate => if (s.rail r).st == .drip then dripExit r s else if (s.rail r).st == .brake then brakeExit r s
             else s.modRail r fun x => { x with st := .regulate, frames := 0, limdir := 0 }
  | .drip => toDrip r s
  | .limit => toLimit (if (s.rail r).limSide = 0 then 1 else (s.rail r).limSide) r s
  | .brake => toBrake r s
  | .stopping => toStopping r s
  | .faulted => enterFaulted 0x100 0 r s
  | .locked => toLocked r s

/-! ### Start and stop (R12, R14, R91, R173, R180, R183, R241) -/

/-- A setpoint input named by a RAIL_SRC source is enabled; other sources need none (R173). -/
def srcEnabled (s : State) (src : Nat) : Bool :=
  if 1 ≤ src && src ≤ 4 then bit (s.pg Pg.SETIN (Reg.SETIN_SPA_CFG + (src - 1))) 31
  else if 5 ≤ src && src ≤ 8 then bit (s.pg Pg.SETIN (Reg.SETIN_SPP_CFG + (src - 5))) 31
  else true

/-- The lead phase's frequency times VRATE is at most 2 MHz, for a period (R91). -/
def rateOk (per vr : Nat) : Bool := decide (200 * vr ≤ per)

/-- The start checks of a rail, but for its state (R173, R241). -/
def startChecks (s : State) (r : Nat) : Bool :=
  let ps := phasesOf s r
  (s.dev.st == .active || isStandby s) && !ps.isEmpty && decide (ps.length ≤ 24) && ps.any (enOf s)
    && ps.all (fun p => fld (s.pr p Reg.PH_PER) 15 0 == railPer s r) && rateOk (railPer s r) (vrate s r)
    && !(s.rail r).bankErr && srcEnabled s (fld (s.rr r Reg.RAIL_SRC) 3 0)
    && !(bitsOf 24 s.tripLatch).any (fun n => tripMapsRail s n r)

/-- A rail may be started (R173). -/
def canStart (s : State) (r : Nat) : Bool := inOff s r && startChecks s r

/-- An accepted start: PRECHECK at the next frame (R173); a host's start clears NRST. -/
def acceptStart (host : Bool) (group r : Nat) (s : State) : State :=
  s.modRail r fun x => { x with startPend := true, group := group, nrst := if host then 0 else x.nrst }

/-- Group of the rails started in this frame by one domain command at one rank (R175). -/
def groupOf (s : State) (d rank : Nat) : Nat := s.dev.frame * 64 + d * 16 + rank + 1

/-- Some source that faulted the rail still stands (R180, R183). -/
def faultStands (s : State) (r : Nat) : Bool := (s.rail r).faultedBy.any fun x => standsAt s x.1 x.2

/-- An accepted STOP (R180); LOCKED is refused before this. -/
def stopCmd (r : Nat) (s : State) : State :=
  match (s.rail r).st with
  | .off => s.modRail r fun x => { x with startPend := false, group := 0 }
  | .stopping | .locked => s
  | .faulted =>
    let s := s.modRail r fun x => { x with rstpend := false, rstDelay := none }
    if faultStands s r || s.dev.st == .safe then s else toOff r s
  | _ => s.modRail r fun x => { x with stopPend := true }

/-- An accepted CLR (R183). -/
def clrCmd (r : Nat) (s : State) : State := (toOff r s).modRail r fun x => { x with nrst := 0 }

/-- The device leaves ACTIVE: pending starts are cancelled (R173), start sequences end, the injection ends (R263). (DEDUCED, log entry 57) -/
def leaveActive (s : State) : State :=
  let s := loop 16 (fun s r => s.modRail r fun x => { x with startPend := false }) s
  let s := loop 4 (fun s k => s.modDom k fun d => if d.seq = 1 then { d with seq := 0, todo := [], issued := [] } else d) s
  if s.cup.run then endNow s else s

end Sys2Proof.Machine
end

