-- ==== Sys2Proof/Machine/Nv.lean ====
section
/-! DEFINITION. Machine/Nv.lean: the Gradebook (R329-R358): array, records, index, queue of flash operations, compaction, tally
counters, power failure. -/

namespace Sys2Proof.Machine

/-! ### The array (R329) -/

/-- An erased byte. (DESIGN CHOICE, log entry 8) -/
def erasedByte (_ : Nat) : Byte := 0xFF

/-- The byte at an address of the array. -/
def nvByte (s : State) (a : Nat) : Nat := (sget erasedByte s.nv.flash a).toNat

/-- `n` bytes from an address. -/
def nvBytes (s : State) (a n : Nat) : List Nat := (List.range n).map fun i => nvByte s (a + i)

/-- A little-endian number (R335). -/
def le (l : List Nat) : Nat := l.foldr (fun b a => b + 256 * a) 0

/-- The `n` little-endian bytes of a number. -/
def toLe (n v : Nat) : List Nat := (List.range n).map fun i => v / 256 ^ i % 256

/-- One byte programmed: bits change from 1 to 0 only (R329). -/
def progByte (a v : Nat) (s : State) : State :=
  let f := sset erasedByte s.nv.flash a (sget erasedByte s.nv.flash a &&& BitVec.ofNat 8 v)
  { s with nv := { s.nv with flash := f } }

/-- Bytes programmed in order. -/
def progBytes (l : List (Nat × Nat)) (s : State) : State := l.foldl (fun s x => progByte x.1 x.2 s) s

/-- A byte set to a value that no program need reach: what a failed or interrupted operation leaves. -/
def putByte (a : Nat) (v : Byte) (s : State) : State :=
  { s with nv := { s.nv with flash := sset erasedByte s.nv.flash a v } }

/-- Sector of an address. -/
def sectorOf (a : Nat) : Nat := a / 4096

/-- Every record of a sector leaves the index: the sector is erased, or an erase of it was cut short or failed (R336). -/
def dropRecs (n : Nat) (s : State) : State :=
  { s with nv := { s.nv with recs := s.nv.recs.filter fun r => sectorOf r.addr != n } }

/-- A sector erased. -/
def eraseSector (n : Nat) (s : State) : State :=
  { s with nv := { s.nv with flash := s.nv.flash.filter fun c => sectorOf c.1 != n } }

/-- A sector left undetermined by a failed or interrupted erase: each byte that was programmed reads `f` of its address. -/
def spoilSector (f : Nat → Byte) (n : Nat) (s : State) : State :=
  (s.nv.flash.filter fun c => sectorOf c.1 == n).foldl (fun s c => putByte c.1 (f c.1) s) s

/-- What a cut erase leaves (R344, R345): every byte is free, but the sector's SECT is void, so that the sector is erased again before it
is used: its COMMIT reads neither 0xA5 nor 0xFF. (DESIGN CHOICE, log entry 81) -/
def cutErase (f : Nat → Byte) (n : Nat) (s : State) : State :=
  let s := spoilSector f n s
  let a := n * 4096 + 31
  if n < 32 then s else putByte a (if f a = 0xA5 || f a = 0xFF then 0x00 else f a) s

/-- NV_PROT.BP protects a sector (R333). -/
def protectedBy (bp n : Nat) : Bool := if bp = 0 then false else if bp = 1 then n < 32 else if bp = 2 then n < 64 else true

/-- NV_PROT.BP. -/
def nvBp (s : State) : Nat := fld (s.pg Pg.NV Reg.NV_PROT) 1 0

/-! ### Records (R334-R338) -/

/-- CRC-16, polynomial 0x1021, initial value 0xFFFF (R335). -/
def crc16 (l : List Nat) : Nat :=
  l.foldl (fun c b => (List.range 8).foldl (fun c _ =>
    let d := c * 2 % 65536
    if c / 32768 % 2 = 1 then d ^^^ 0x1021 else d) (c ^^^ (b % 256 * 256))) 0xFFFF

/-- Size of a LEN code (R335). -/
def recSize (len : Nat) : Nat := 32 * 2 ^ (len % 4)

/-- The bytes of a committed record (R335); the body is padded with 0x00. -/
def recBytes (id len flags seq : Nat) (body : List Nat) : List Nat :=
  let sz := recSize len
  let body := ((body ++ List.replicate sz 0).take (sz - 11)).map (· % 256)
  let head := toLe 2 id ++ [len % 4, flags] ++ toLe 4 seq
  head ++ toLe 2 (crc16 (head ++ body)) ++ body ++ [0xA5]

/-- What a slot holds (R336): none where it is empty. -/
def recAt (s : State) (a : Nat) : Option Rec :=
  let id := le (nvBytes s a 2)
  if id = 0xFFFF then none else
  let sz := recSize (nvByte s (a + 2))
  let b := nvBytes s a sz
  let ok := b.getD (sz - 1) 0 == 0xA5 && le ((b.drop 8).take 2) == crc16 (b.take 8 ++ (b.drop 10).take (sz - 11))
  some ⟨a, sz, id, le ((b.drop 4).take 4), ok⟩

/-- Body of a record (bytes 10 to s - 2). -/
def recBody (s : State) (r : Rec) : List Nat := nvBytes s (r.addr + 10) (r.size - 11)

/-- Insertion into the index, which is kept in ascending address. -/
def insRec (r : Rec) : List Rec → List Rec
  | [] => [r]
  | x :: t => if x.addr < r.addr then x :: insRec r t else r :: x :: t

/-- Valid records of a type, newest first. -/
def recsOf (s : State) (id : Nat) : List Rec :=
  (s.nv.recs.filter fun r => r.valid && r.id == id).mergeSort fun a b => decide (b.seq ≤ a.seq)

/-- A last-fault part counts only while both parts are valid (R352). -/
def fltPair (s : State) (q : Nat) : Bool :=
  (s.nv.recs.any fun r => r.valid && r.id == 0x10 && r.seq == q) && (s.nv.recs.any fun r => r.valid && r.id == 0x11 && r.seq == q + 1)

/-- The sequence numbers q of the last-fault records, newest first. -/
def faultRecs (s : State) : List Nat := ((recsOf s 0x10).map (·.seq)).filter (fltPair s)

/-- Valid records of a type a host can find (R352, R353, R356), newest first. -/
def findable (s : State) (id : Nat) : List Rec :=
  (recsOf s id).filter fun r =>
    if id = 0x10 then ((faultRecs s).take 16).contains r.seq
    else if id = 0x11 then decide (0 < r.seq) && ((faultRecs s).take 16).contains (r.seq - 1) else true

/-- Both parts of a last-fault record are valid where the record is one of its parts (R352). -/
def wholeRec (s : State) (r : Rec) : Bool :=
  if r.id = 0x10 then fltPair s r.seq else if r.id = 0x11 then decide (0 < r.seq) && fltPair s (r.seq - 1) else true

/-- One more than the highest sequence number in the store (R337). -/
def nextSeq (s : State) : Nat := maxN (s.nv.recs.map (·.seq)) + 1

/-- A tally page is absorbed: a valid TBASE names its sequence (R349). -/
def absorbed (s : State) (q : Nat) : Bool :=
  (recsOf s 0x31).any fun r => le ((recBody s r).drop 4 |>.take 4) == q

/-- A record other than SECT is live (R338, R353). -/
def liveRec0 (s : State) (r : Rec) : Bool :=
  if !r.valid then false else
  let newest := (recsOf s r.id).head? == some r
  let named (q : Nat) : Bool :=
    ((faultRecs s).take 16).any (fun f => (s.nv.recs.any fun x => x.valid && x.id == 0x10 && x.seq == f
      && le ((recBody s x).drop 7 |>.take 4) == q))
    || (match (recsOf s 0x20).head? with | some x => le ((recBody s x).drop 14 |>.take 4) == q | none => false)
  match r.id with
  | 0x01 => false
  | 0x02 => newest || named r.seq
  | 0x03 => decide (0 < r.seq) && ((recsOf s 0x02).head?.map (·.seq) == some (r.seq - 1) || named (r.seq - 1))
  | 0x04 => true
  | 0x10 => ((faultRecs s).take 16).contains r.seq
  | 0x11 => decide (0 < r.seq) && ((faultRecs s).take 16).contains (r.seq - 1)
  | 0x30 => !absorbed s r.seq
  | 0x31 => ((recsOf s 0x31).find? fun x => (recBody s x).getD 8 0 == (recBody s r).getD 8 0) == some r
  | _ => newest

/-- A record is live (R338): SECT while its sector holds any live record. -/
def liveRec (s : State) (r : Rec) : Bool :=
  if r.id = 0x01 then s.nv.recs.any fun x => sectorOf x.addr == sectorOf r.addr && liveRec0 s x else liveRec0 s r

/-! ### Sectors and the append point (R341, R342) -/

/-- Sector of the append point; none while no sector is open. -/
def openSector (s : State) : Option Nat := if s.nv.appAddr = 0 then none else some (sectorOf (s.nv.appAddr - 1))

/-- Sectors the Gradebook may write: unprotected, not retired (R332, R333, R341). -/
def ownSectors (s : State) : List Nat :=
  (List.range 128).filter fun n => 32 ≤ n && !protectedBy (nvBp s) n && !s.nv.bad.contains n && !s.nv.left.contains n

/-- A sector holds more than the waiting part of its SECT record. -/
def sectorUsed (s : State) (n : Nat) : Bool := s.nv.flash.any fun c => sectorOf c.1 == n && decide (31 ≤ c.1 % 4096)

/-- Erased sectors, but for the one that is open. -/
def erasedSectors (s : State) : List Nat :=
  (ownSectors s).filter fun n => !sectorUsed s n && openSector s != some n && !s.nv.reErase.contains n

/-- The erase count of a sector is still to be programmed (step 3 of R341): the sector is not opened before. -/
def sectOwed (s : State) (n : Nat) : Bool := s.nv.queue.any fun o => match o with | .sect m _ => m == n | _ => false

/-- Smallest multiple of `k` at or above `a`. -/
def alignUp (a k : Nat) : Nat := (a + k - 1) / k * k

/-- Where a record of a size, with `extra` bytes that must follow in the sector, would be placed; with the sector to open
first, if one must be opened. Only some records may use the reserve (R342). -/
def place (s : State) (size extra : Nat) (reserve : Bool) : Option (Nat × Option Nat) :=
  let er := erasedSectors s
  let a := alignUp s.nv.appAddr size
  let fits := match openSector s with
    | some n => !protectedBy (nvBp s) n && decide (alignUp (a + size) (if extra = 0 then 1 else 256) + extra ≤ (n + 1) * 4096)
    | none => false
  if fits then (if reserve || !er.isEmpty then some (a, none) else none)
  else match er.filter fun n => !sectOwed s n with
    | [] => none
    | n :: _ => if reserve || decide (2 ≤ er.length) then some (alignUp (n * 4096 + 32) size, some n) else none

/-- 32-byte slots taken by live records (NV_SPACE.LIVE). -/
def liveSlots (s : State) : Nat := sumN ((s.nv.recs.filter (liveRec s)).map (·.size / 32))

/-- Erased unprotected space in 32-byte slots (NV_SPACE.FREE). -/
def freeSlots (s : State) : Nat :=
  127 * (erasedSectors s).length +
    (match openSector s with
     | some n => if protectedBy (nvBp s) n then 0 else ((n + 1) * 4096 - s.nv.appAddr) / 32
     | none => 0)

/-- A slot as the scan takes it: one whose size does not divide its address was never programmed so far. -/
def slotAt (s : State) (a : Nat) : Option Rec :=
  (recAt s a).map fun r => if r.addr % r.size = 0 then r else { r with size := 32, valid := false }

/-- The slots of a sector from an address to its end, in steps of 32 bytes (R334). A valid record is one slot, and a valid TOPEN's tally
page is no slot. Behind the head of a void one each step is looked at, since its LEN may be wrong: a valid record is taken, and what is
not valid up to `till`, the end that its LEN names, is its body. (DEDUCED, log entry 83) -/
def scanFrom (s : State) : Nat → Nat → Nat → Nat → List Rec
  | 0, _, _, _ => []
  | n + 1, a, till, fin =>
    if fin ≤ a then [] else
    match slotAt s a with
    | none => scanFrom s n (a + 32) till fin
    | some r =>
      if r.valid then r :: scanFrom s n (if r.id = 0x30 then alignUp (a + 32) 256 + 256 else a + r.size) 0 fin
      else if a < till then scanFrom s n (a + 32) till fin
      else r :: scanFrom s n (a + 32) (a + r.size) fin

/-- The slots of a sector. -/
def scanSector (s : State) (n : Nat) : List Rec := scanFrom s 128 (n * 4096) 0 ((n + 1) * 4096)

/-- A sector is entirely live: none of its slots holds a record that is void or no longer live, so that nothing of it can be
freed (R342). -/
def entirelyLive (s : State) (n : Nat) : Bool :=
  let l := (scanSector s n).filter fun r => r.addr % 4096 != 0
  !l.isEmpty && l.all fun r => s.nv.recs.contains r && liveRec s r

/-- Full sectors of the unprotected part (R341). -/
def fullSectors (s : State) : List Nat :=
  (ownSectors s).filter fun n => sectorUsed s n && openSector s != some n && !s.nv.reErase.contains n

/-- Compaction is due and can free nothing (R342). -/
def nvStuck (s : State) : Bool :=
  decide ((erasedSectors s).length < 2) && !(fullSectors s).isEmpty && (fullSectors s).all (entirelyLive s)

/-- Highest erase count among sectors 32-127 (NV_WEAR). -/
def wearMax (s : State) : Nat := maxN (s.nv.wear.drop 32)

/-! ### Bases (R351) -/

/-- Bodies of the bases records: BASE_R and BASE_P. -/
def baseR (s : State) : List Nat :=
  (List.range 16).flatMap fun r =>
    toLe 4 (s.rr r Reg.RAIL_VBASE_MV).toNat ++ toLe 4 (s.rr r Reg.RAIL_IBASE_MA).toNat
def baseP (s : State) : List Nat := (List.range 48).flatMap fun p => toLe 4 (s.pr p Reg.PH_IBASE_MA).toNat

/-- Newest committed bases record: its BASE_P is valid too. -/
def newestBases (s : State) : Option Rec :=
  (recsOf s 0x02).find? fun r => s.nv.recs.any fun x => x.valid && x.id == 0x03 && x.seq == r.seq + 1

/-- The bases are dirty (R351). -/
def basesDirty (s : State) : Bool :=
  match newestBases s with
  | none => true
  | some r => (recBody s r).take 128 != baseR s ||
    !(s.nv.recs.any fun x => x.valid && x.id == 0x03 && x.seq == r.seq + 1 && (recBody s x).take 192 == baseP s)

/-- SEQ of the newest committed bases record; 0 when there is none. -/
def basesSeq (s : State) : Nat := (newestBases s).map (·.seq) |>.getD 0

/-- The contents of a bases record that an operation writes. -/
def NvOp.basesOf : NvOp → Option (List Nat × List Nat)
  | .bases r p | .basesP r p => some (r, p)
  | _ => none

/-- The latest bases record that is queued or being written holds these bases. -/
def basesQueued (s : State) : Bool :=
  let l := (s.nv.cur.toList.map (·.op) ++ s.nv.queue).filterMap NvOp.basesOf
  l.getLast? == some (baseR s, baseP s)

/-- An operation is queued. -/
def nvQueue (o : NvOp) (s : State) : State := { s with nv := { s.nv with queue := s.nv.queue ++ [o] } }

/-- Dirty bases queue a bases record (R351). -/
def queueBases (s : State) : State :=
  if basesDirty s && !basesQueued s then nvQueue (.bases (baseR s) (baseP s)) s else s

/-! ### Order of work (R339) -/

/-- Level of an operation. -/
def NvOp.level : NvOp → Nat
  | .lstate _ => 1
  | .bases _ _ | .basesP _ _ | .lastFault _ _ _ => 2
  | .tallyBit _ _ | .tbase _ | .topen _ | .zero _ _ => 3
  | .prog _ _ _ | .erase _ | .append _ _ _ => 4
  | .badsect _ | .compCopy _ | .compErase _ | .sect _ _ => 5

/-- An operation waits while the sector it would program or erase is protected (R333). (DESIGN CHOICE, log entry 117) -/
def NvOp.shut (s : State) : NvOp → Bool
  | .tallyBit n b => match b, s.nv.tpage.getD n none with
    | some (a, _), _ => protectedBy (nvBp s) (sectorOf a)
    | none, some (pg, _) => protectedBy (nvBp s) (sectorOf pg)
    | none, none => false
  | .sect n _ | .compErase n | .prog n _ _ | .erase n => protectedBy (nvBp s) n
  | .zero _ l => protectedBy (nvBp s) (sectorOf (l.headD 0))
  | .compCopy a => protectedBy (nvBp s) (sectorOf a)
  | _ => false

/-- The operation that is served first, and the queue without it. -/
def nvPick (s : State) : Option (NvOp × List NvOp) :=
  let q := s.nv.queue
  match ((List.range 6).filterMap fun l => q.findIdx? fun o => o.level == l && !o.shut s).head? with
  | none => none
  | some i => (q[i]?).map fun o => (o, q.eraseIdx i)

/-- A record to append: type, LEN, body, SEQ where it is fixed, bytes and room of the page that follows the record's. -/
structure Rq where
  id : Nat
  len : Nat
  flags : Nat
  seq : Option Nat
  body : List Nat
  tail : List Nat
  room : Nat

/-- Pages of tally counter `n`: address of the lowest bit that reads 1, and the byte's new value; none when full. -/
def tallyBitAt (s : State) (page : Nat) : Option (Nat × Nat) :=
  ((List.range 256).find? fun i => nvByte s (page + i) != 0).map fun i =>
    let b := nvByte s (page + i)
    (page + i, b - (b &&& (256 - b)))

/-- Position of the lowest bit of a tally page that reads 1 (R348). -/
def tallyPos (s : State) (page : Nat) : Nat :=
  match (List.range 256).find? fun i => nvByte s (page + i) != 0 with
  | none => 2048
  | some i => 8 * i + (((List.range 8).find? fun j => (nvByte s (page + i)).testBit j).getD 0)

/-- What an operation appends, if it appends. -/
def NvOp.rq (s : State) : NvOp → Option Rq
  | .lstate b => some ⟨0x20, 3, 0, none, b, [], 0⟩
  | .bases r _ => some ⟨0x02, 3, 0, none, r, [], 256⟩ -- its BASE_P follows in the same sector
  | .basesP _ p => some ⟨0x03, 3, 0, (recsOf s 0x02).head?.map (·.seq + 1), p, [], 0⟩
  | .tbase n => (s.nv.tpage.getD n none).map fun x =>
      ⟨0x31, 0, 0, none, toLe 4 (s.nv.tbase.getD n 0 + 2048) ++ toLe 4 x.2 ++ [n], [], 0⟩
  | .topen n => some ⟨0x30, 0, 0, none, [n], [], 256⟩
  | .append id len b => some ⟨id, len, 0, none, b, [], 0⟩
  | .badsect n => some ⟨0x04, 0, 0, none, [n], [], 0⟩
  | .compCopy a =>
    match s.nv.recs.find? fun r => r.addr == a with
    | none => none
    | some r => some ⟨r.id, (nvByte s (a + 2)) % 4, 1, some r.seq, recBody s r,
        if r.id = 0x30 then nvBytes s (a / 256 * 256 + 256) 256 else [], if r.id = 0x30 then 256 else 0⟩
  | _ => none

/-- A last-fault record that names the bases record queued ahead of it. -/
def NvOp.awaitsBases : NvOp → Bool
  | .lastFault fill _ _ => fill
  | _ => false

/-- Operations that may use the reserve (R342); compaction works in it. The bases record that a queued last-fault record names is part
of that record (R40, R352). -/
def NvOp.reserve (queue : List NvOp) : NvOp → Bool
  | .lstate _ | .lastFault _ _ _ | .compCopy _ => true
  | .bases _ _ | .basesP _ _ => queue.any (·.awaitsBases)
  | _ => false

/-- A bases record that cannot be placed takes with it the queued last-fault record that names it: a record with other bases, or with none, is no
last-fault record (R40, R352). (DESIGN CHOICE, log entry 157) -/
def dropNaming (s : State) : State :=
  let l := s.nv.queue.filter (·.awaitsBases)
  if l.isEmpty then s else
  { s with nv := { s.nv with drop := satAdd 0xFFFFFFFF s.nv.drop l.length, ltfOpen := false
                             queue := s.nv.queue.filter fun o => !o.awaitsBases } }

/-- An append that cannot be placed is dropped and counted; 0x92 stands; a host's command ends (R342, R356). -/
def nvDrop (o : NvOp) (s : State) : State :=
  let s := { s with nv := { s.nv with drop := satInc 0xFFFFFFFF s.nv.drop, full := true } }
  let s := match o with
    | .append _ _ _ => { s with nv := { s.nv with hbusy := false, hres := 4 } }
    | .lastFault _ _ _ => { s with nv := { s.nv with ltfOpen := false } }
    | .bases _ _ | .basesP _ _ => dropNaming s
    | _ => s
  setCond Src.NV_FULL 0 true s

/-- Pages that a program's bytes lie in. -/
def pagesIn (l : List (Nat × Nat)) : Nat := ((l.map fun b => b.1 / 256).dedup).length

/-- A program starts; event 0x54 counts each page program or tally bit (R404). -/
def nvStartProg (o : NvOp) (bytes : List (Nat × Nat)) (a seq size : Nat) (s : State) : State :=
  let s := match o with | .tallyBit _ _ => perf 0x54 1 1 s | _ => perf 0x54 0 (pagesIn bytes) s
  { s with nv := { s.nv with cur := some ⟨o, bytes, sectorOf a, false, a, seq, size⟩ } }

/-- Bytes at ascending addresses from `a`. -/
def bytesAt (a : Nat) (l : List Nat) : List (Nat × Nat) := l.zipIdx.map fun x => (a + x.2, x.1)

/-- A record's program starts where `place` puts it; the SECT record of a sector that is opened for it is programmed before it
(R338, R341) and takes a number that the record does not have (R337), and so is the page `tail` that must follow the record's, so that the COMMIT is the last byte of all (R336,
R346). `mk` gives the bytes from the record's sequence number. (DESIGN CHOICE, log entry 79) -/
def nvAppend (o : NvOp) (size : Nat) (seq : Option Nat) (mk : Nat → List Nat) (tail : List Nat) (at_ : Nat × Option Nat)
    (s : State) : State :=
  let a := at_.1
  match at_.2 with
  | none =>
    let q := seq.getD (nextSeq s)
    nvStartProg o (bytesAt (alignUp (a + size) 256) tail ++ bytesAt a (mk q)) a q size s
  | some n =>
    let q0 := if seq = some (nextSeq s) then nextSeq s + 1 else nextSeq s
    let q := seq.getD (q0 + 1)
    nvStartProg o (bytesAt (n * 4096) (recBytes 1 0 0 q0 (toLe 4 (s.nv.gen + 1) ++ toLe 4 (s.nv.wear.getD n 0)))
      ++ bytesAt (alignUp (a + size) 256) tail ++ bytesAt a (mk q)) a q size s

/-- The next compaction step: the full unprotected sector with the lowest GEN gives up its live records, then is erased
(R341). A sector that must be erased again comes first (R345). None while two erased sectors remain or nothing can be freed. -/
def nvCompact (s : State) : Option NvOp :=
  match s.nv.reErase.find? fun n => !protectedBy (nvBp s) n with
  | some n => some (.compErase n)
  | none =>
  if 2 ≤ (erasedSectors s).length || nvStuck s then none else
  match ((fullSectors s).mergeSort fun a b => decide (le (nvBytes s (a * 4096 + 10) 4) ≤ le (nvBytes s (b * 4096 + 10) 4))).head? with
  | none => none
  | some n => match s.nv.recs.find? fun r => sectorOf r.addr == n && r.id != 1 && liveRec s r with
    | some r => if (place s r.size (if r.id = 0x30 then 256 else 0) true).isSome then some (.compCopy r.addr) else none
    | none => some (.compErase n)

/-- An erase starts; event 0x54 counts it (R404). (DESIGN CHOICE, log entry 80) -/
def nvStartErase (o : NvOp) (sec : Nat) (s : State) : State :=
  let s := perf 0x54 2 1 s
  { s with nv := { s.nv with cur := some ⟨o, [], sec, true, 0, 0, 0⟩ } }

/-- The operation `o` starts; `rest` is the queue without it. -/
def nvStart (o : NvOp) (rest : List NvOp) (s : State) : State :=
  let t := { s with nv := { s.nv with queue := rest } }
  match o with
  | .tallyBit _ (some (a, v)) => nvStartProg o [(a, v)] a 0 1 t
  | .tallyBit n none =>
    match s.nv.tpage.getD n none with
    | none => -- the counter's page is opened first; the increment keeps its place
      match place s 32 256 false with
      | none => nvDrop o t
      | some x => nvAppend (.topen n) 32 none (fun q => recBytes 0x30 0 0 q [n]) [] x s
    | some (page, q) =>
      match tallyBitAt s page with
      | some (a, v) => nvStartProg (.tallyBit n (some (a, v))) [(a, v)] a q 1 t
      | none => -- a full page is absorbed first (R349); the increment keeps its place
        let u := { s with nv := { s.nv with queue := s.nv.queue.erase (.tbase n) } }
        match place s 32 0 false, (NvOp.tbase n).rq s with
        | some x, some r => nvAppend (.tbase n) 32 none (fun q => recBytes r.id 0 0 q r.body) [] x u
        | _, _ => nvDrop o { t with nv := { t.nv with queue := rest.erase (.tbase n) } }
  | .prog sec page data => nvStartProg o (bytesAt (sec * 4096 + page * 256) data) (sec * 4096 + page * 256) 0 0 t
  | .zero _ l => nvStartProg o (l.map fun a => (a, 0)) (l.headD 0) 0 0 t
  | .erase sec => nvStartErase o sec t
  | .compErase sec => nvStartErase o sec t
  | .sect sec cnt => -- step 3 of a compaction: the erase count; the rest of SECT follows when the sector is opened
    nvStartProg o (bytesAt (sec * 4096) (toLe 2 1 ++ [0, 0]) ++ bytesAt (sec * 4096 + 14) (toLe 4 cnt ++ List.replicate 13 0))
      (sec * 4096) 0 0 t
  | .lastFault fill a b =>
    let a := if fill then a.take 7 ++ toLe 4 (basesSeq s) ++ a.drop 11 else a
    match place s 256 0 true with
    | none => nvDrop o t
    | some x => nvAppend o 256 none (fun q => recBytes 0x10 2 0 q a ++ recBytes 0x11 2 0 (q + 1) b) [] x t
  | _ =>
    match o.rq s with
    | none => t
    | some q =>
      match place s (recSize q.len) q.room (o.reserve rest) with
      | none => nvDrop o t
      | some x => nvAppend o (recSize q.len) q.seq (fun n => recBytes q.id q.len q.flags n q.body) q.tail x t

/-- A retired sector whose BADSECT record is neither in the store nor queued, where the record can be placed (R341, R342). -/
def owedBad (s : State) : Option Nat :=
  if (place s 32 0 false).isNone then none else
  s.nv.bad.find? fun n => !s.nv.queue.contains (.badsect n) && !(recsOf s 4).any fun r => (recBody s r).getD 0 0 == n

/-- NV_OPERATION_START (R339, R341, R342): the array is free, BOOT is over, no power-fail save holds the queue. -/
def nvOperationStart (s : State) : State :=
  if s.nv.cur.isSome || s.nv.saved || s.dev.rst || s.dev.st == .boot then s else
  match nvPick s with
  | some (o, rest) => nvStart o rest s
  | none => match owedBad s with
    | some n => nvStart (.badsect n) s.nv.queue s
    | none => match nvCompact s with
      | some o => nvStart o s.nv.queue s
      | none => if nvStuck s then setCond Src.NV_FULL 0 true { s with nv := { s.nv with full := true } } else s

/-- The record that was being written joins the index. -/
def nvIndex (r : Rec) (s : State) : State := { s with nv := { s.nv with recs := insRec r s.nv.recs } }

/-- The append point moves. -/
def moveTo (x : Nat) (s : State) : State := { s with nv := { s.nv with appAddr := x } }

/-- The sector that was opened for a record joins the index with its SECT record, where that is committed (R341). -/
def nvOpened (c : NvCur) (s : State) : State :=
  let n := sectorOf c.recAddr
  if c.recSize ≤ 1 || openSector s == some n then s else
  match recAt s (n * 4096) with
  | none => s
  | some r => if !r.valid then s else
    { (nvIndex r s) with nv := { (nvIndex r s).nv with gen := s.nv.gen + 1, appAddr := n * 4096 + 32 } }

/-- A host command on the array ends with an outcome (R356). -/
def endNvHost (res : Nat) (s : State) : State := { s with nv := { s.nv with hbusy := false, hres := res } }

/-- What follows the commit of an operation's record (R348-R352, R356). The phase part of a bases record starts with the commit of
its rail part: the two are one operation (R351, R355). -/
def nvCommitted (c : NvCur) (s : State) : State :=
  let s := nvOpened c s
  let a := c.recAddr
  let fresh (id : Nat) (s : State) : State := moveTo (a + c.recSize) (nvIndex ⟨a, c.recSize, id, c.recSeq, true⟩ s)
  match c.op with
  | .lstate _ => fresh 0x20 s
  | .bases r p => let s := fresh 0x02 s
                  nvStart (.basesP r p) s.nv.queue s
  | .basesP _ _ => fresh 0x03 s
  | .lastFault _ _ _ =>
    let s := nvIndex ⟨a, 128, 0x10, c.recSeq, true⟩ (nvIndex ⟨a + 128, 128, 0x11, c.recSeq + 1, true⟩ s)
    moveTo (a + 256) { s with nv := { s.nv with ltfOpen := false } }
  | .tbase n =>
    let s := fresh 0x31 s
    { s with nv := { s.nv with tbase := s.nv.tbase.set n (s.nv.tbase.getD n 0 + 2048), tpage := s.nv.tpage.set n none } }
  | .topen n =>
    let pg := alignUp (a + 32) 256
    let s := moveTo (pg + 256) (fresh 0x30 s)
    { s with nv := { s.nv with tpage := s.nv.tpage.set n (some (pg, c.recSeq)) } }
  | .append id _ _ => endNvHost 0 ((fresh id s).setReg (Pg.NV * 256 + Reg.NV_RSEQ) (BitVec.ofNat 32 c.recSeq))
  | .badsect _ => fresh 0x04 s
  | .compCopy src =>
    match s.nv.recs.find? fun r => r.addr == src with
    | none => s
    | some r =>
      let pg := alignUp (a + c.recSize) 256
      let s := fresh r.id { s with nv := { s.nv with recs := s.nv.recs.filter fun x => x.addr != src } }
      if r.id = 0x30 then
        let s := moveTo (pg + 256) s
        { s with nv := { s.nv with tpage := s.nv.tpage.map fun t =>
            match t with | some (_, q) => if q = r.seq then some (pg, q) else t | none => none } }
      else s
  | .prog _ _ _ => endNvHost 0 s
  | .zero again _ => if again then (match s.nv.queue with | o :: rest => nvStart o rest s | [] => s) else s
  | _ => s

/-- The COMMIT bytes of the record that an operation writes: both parts of a last-fault record (R340, R352). -/
def commitsOf (c : NvCur) : List Nat :=
  match c.op with
  | .lastFault _ _ _ => [c.recAddr + 127, c.recAddr + 255]
  | _ => [c.recAddr + c.recSize - 1]

/-- The first slot behind a record whose program failed; a copied tally page lies behind it. -/
def behindCur (c : NvCur) : Nat :=
  match c.bytes.find? fun b => decide (c.recAddr + c.recSize ≤ b.1) with
  | some b => b.1 + 256
  | none => c.recAddr + c.recSize

/-- What a failed program leaves (R329, R340): bits changed from 1 to 0 only. Of a record whose sector is opened for it, the SECT
record before it is committed. (DESIGN CHOICE, log entry 79) -/
def nvSpoilt (c : NvCur) (s : State) : State :=
  c.bytes.foldl (fun s b =>
    if 32 ≤ c.recSize && b.1 < c.recAddr && b.1 % 4096 < 32 then progByte b.1 b.2 s
    else progByte b.1 (Config.badByte s.cyc b.1).toNat s) s

/-- A program has failed verify (R340): 0x00 over COMMIT and once more in the next free slot; in the boot area the host's
command ends; a tally bit is programmed again. -/
def nvProgFailed (c : NvCur) (s : State) : State :=
  let s := event Src.NV_PROG_FAIL c.sector s
  match c.op with
  | .prog _ _ _ => endNvHost 1 s
  | .tallyBit _ _ => { s with nv := { s.nv with queue := c.op :: s.nv.queue } }
  | .zero _ l => nvStartProg c.op (l.map fun a => (a, 0)) c.recAddr 0 0 s
  | .sect n _ =>
    nvStartProg (.zero false [n * 4096 + 31]) [(n * 4096 + 31, 0)] (n * 4096) 0 0
      { s with nv := { s.nv with reErase := s.nv.reErase ++ [n] } }
  | _ =>
    let again := match c.op with | .topen _ => false | _ => true
    let s := moveTo (behindCur c) (nvOpened c s)
    let s := if again then { s with nv := { s.nv with queue := c.op :: s.nv.queue } } else s
    nvStartProg (.zero again (commitsOf c)) ((commitsOf c).map fun a => (a, 0)) c.recAddr 0 0 s

/-- PAGE_PROGRAM_DONE (R329, R336, R340): the bytes are programmed; a program that fails verify leaves undetermined bytes. -/
def pageProgramDone (ok : Bool) (s : State) : State :=
  match s.nv.cur with
  | none => s
  | some c =>
    if c.erase || (match c.op with | .tallyBit _ _ => true | _ => false) then s else
    let t := bytes 5 (256 * pagesIn c.bytes) { s with nv := { s.nv with cur := none } }
    if ok then nvCommitted c (progBytes c.bytes t) else nvProgFailed c (nvSpoilt c t)

/-- SECTOR_ERASE_DONE (R340, R341): the sector's erase count follows at once, as step 3 of the compaction; a sector whose erase fails
verify twice is retired. -/
def sectorEraseDone (ok : Bool) (s : State) : State :=
  match s.nv.cur with
  | none => s
  | some c =>
    if !c.erase then s else
    let n := c.sector
    let t := dropRecs n { s with nv := { s.nv with cur := none } }
    let host := match c.op with | .erase _ => true | _ => false
    if ok then
      let t := eraseSector n t
      let t := { t with nv := { t.nv with wear := t.nv.wear.set n (t.nv.wear.getD n 0 + 1)
                                          reErase := t.nv.reErase.filter (· != n)
                                          failedOnce := t.nv.failedOnce.filter (· != n) } }
      if host then endNvHost 0 t else nvStart (.sect n (t.nv.wear.getD n 0)) t.nv.queue t
    else
      let t := event Src.NV_PROG_FAIL n (spoilSector (Config.badByte t.cyc) n t)
      if host then endNvHost 1 t
      else if t.nv.failedOnce.contains n then
        nvQueue (.badsect n) { t with nv := { t.nv with bad := t.nv.bad ++ [n], reErase := t.nv.reErase.filter (· != n) } }
      else { t with nv := { t.nv with failedOnce := t.nv.failedOnce ++ [n], reErase := n :: t.nv.reErase.filter (· != n) } }

/-- Value of a tally counter from its base and open page (R348). -/
def tallyValue (s : State) (n : Nat) : Nat :=
  min 0xFFFFFFFF (s.nv.tbase.getD n 0 + (match s.nv.tpage.getD n none with | some (pg, _) => tallyPos s pg | none => 0))

/-- TALLY_BIT_DONE (R349, R350): the bit commits; a full page leads to a TBASE record. -/
def tallyBitDone (ok : Bool) (s : State) : State :=
  match s.nv.cur with
  | none => s
  | some c =>
    match c.op with
    | .tallyBit n _ =>
      let t := bytes 5 1 { s with nv := { s.nv with cur := none } }
      if ok then
        let t := progBytes c.bytes t
        let t := { t with nv := { t.nv with tally := t.nv.tally.set n (tallyValue t n) } }
        match t.nv.tpage.getD n none with
        | some (pg, _) => if tallyPos t pg = 2048 && !t.nv.queue.contains (.tbase n) then nvQueue (.tbase n) t else t
        | none => t
      else nvProgFailed c (nvSpoilt c t)
    | _ => s

/-- TALLY_INCREMENT (R348): a count unit reached is queued as a bit program. -/
def tallyIncrement (n : Nat) (s : State) : State :=
  if s.nv.tdue.getD n 0 = 0 then s
  else nvQueue (.tallyBit n none) { s with nv := { s.nv with tdue := s.nv.tdue.set n (s.nv.tdue.getD n 0 - 1) } }

/-- `k` count units of a tally counter are reached (R347). -/
def tallyAdd (n k : Nat) (s : State) : State :=
  { s with nv := { s.nv with tdue := s.nv.tdue.set n (s.nv.tdue.getD n 0 + k) } }

/-! ### Last-fault and last-state records (R352, R355) -/

/-- CLK_UPTIME (R72). -/
def uptime (s : State) : Nat := s.dev.frame / 1000000 % 4294967296

/-- High-side fraction of a generator's active compare, as PH_ACTCMP gives it, in PU16 (R352). -/
def hiFraction (s : State) (p : Nat) : Nat :=
  let g := (s.ph p).gen
  if g.curCmp = 0x3FFFFF then 0x4000 else toPU16 ((g.curCmp : Rat) / (64 * g.curPer : Rat))

/-- Rail of a source's address for a last-fault record (R352); none where an injected address names no rail or phase. -/
def faultRail (s : State) (src addr : Nat) : Option Nat :=
  if src ∈ [0x21, 0x22, 0x23] then some (addr % 16)
  else if (0x10 ≤ src ∧ src < 0x30) ∨ (0x70 ≤ src ∧ src ≤ 0x72) then (if addr < 16 then some addr else none)
  else if (0x30 ≤ src ∧ src < 0x60) ∨ src = 0x73 ∨ src = 0x74 then (if addr < 48 then railOf s addr else none) else none

/-- Body of FLTA: message (39..0), applied class, CAPPED, rail; the bases record of R352 is that of the store. -/
def fltA (s : State) (msg cls : Nat) (capped : Bool) (rail : Option Nat) : List Nat :=
  toLe 5 msg ++ [cls + 8 * b2n capped, rail.getD 0xFF] ++ toLe 4 (basesSeq s) ++ toLe 4 s.dev.frame ++ toLe 4 (uptime s)
    ++ (List.range 16).flatMap (fun r => toLe 2 (refCode s r) ++ toLe 2 (s.rail r).vloop)
    ++ toLe 2 (c16 s.aux.tdie) ++ (List.range 16).flatMap (fun r => toLe 2 (s.rail r).thval)

/-- Body of FLTB; `s` is the state before the class action. -/
def fltB (s : State) (rail : Option Nat) : List Nat :=
  match rail with
  | none => [s.dev.st.code]
  | some r =>
    let ps := phasesOf s r
    [s.dev.st.code, ps.length] ++ toLe 6 (maskOf 48 fun p => ps.contains p) ++ toLe 2 (c16 (s.rail r).irail)
      ++ [(s.rail r).st.code, 0] ++ ps.flatMap fun p => toLe 2 (c16 (s.ph p).isamp) ++ toLe 2 (hiFraction s p)

/-- The collector hands a last-fault record to the Gradebook, or counts that it cannot (R287, R351). While the bases are dirty the
record names the bases record that is queued ahead of it, whose SEQ is known when the last-fault record starts (R352). -/
def handFault (msg cls : Nat) (capped : Bool) (rail : Option Nat) (before : State) (s : State) : State :=
  if s.nv.ltfOpen then
    event Src.FC_NVSKIP 0 { s with fc := { s.fc with nvskip := satInc 0xFFFF s.fc.nvskip } }
  else
    let dirty := basesDirty s
    let s := queueBases s
    nvQueue (.lastFault dirty (fltA before msg cls capped rail) (fltB before rail)) { s with nv := { s.nv with ltfOpen := true } }

/-- GRID_FREQ.F: f_est in PU16 of the nominal frequency (R193). -/
def gridFreq (s : State) : Nat := toPU16 (s.grid.fEst / (if bit s.grid.cfg 31 then 60 else 50))

/-- Body of an LSTATE record (R355). -/
def lstateBody (s : State) : List Nat :=
  [s.dev.st.code, s.twin.pst.code] ++ toLe 8 s.dev.frame ++ toLe 4 (uptime s) ++ toLe 4 (basesSeq s)
    ++ (List.range 16).map (fun r => (s.rail r).st.code + 16 * (s.rail r).nrst)
    ++ (List.range 16).flatMap (fun r => toLe 2 (s.rail r).target ++ toLe 2 (refCode s r) ++ toLe 2 (s.rail r).vloop
        ++ toLe 2 (c16 (s.rail r).irail))
    ++ toLe 4 s.fc.firstHi.toNat ++ toLe 4 s.fc.firstLo.toNat ++ toLe 4 s.fc.firstTs.toNat ++ toLe 4 s.fc.logCnt
    ++ toLe 2 (c16 s.aux.tdie) ++ toLe 2 (gridFreq s) ++ [b2n (basesDirty s)]

/-- What an interrupted program leaves (R344): the bytes reached, then one undetermined byte. -/
def nvPartial (c : NvCur) (s : State) : State :=
  let k := Config.bytesDone s.cyc % (c.bytes.length + 1)
  let s' := progBytes (c.bytes.take k) s
  match c.bytes[k]? with
  | none => s'
  | some b => putByte b.1 (sget erasedByte s'.nv.flash b.1 &&& (BitVec.ofNat 8 b.2 ||| Config.looseByte s.cyc b.1)) s'

/-- The operation in progress is cut short by a loss of supply or a reset (R344-R346). (DESIGN CHOICE, log entry 81) -/
def nvCut (s : State) : State :=
  match s.nv.cur with
  | none => s
  | some c =>
    let t := { s with nv := { s.nv with cur := none } }
    if c.erase then cutErase (Config.looseByte s.cyc) c.sector t else nvPartial c t

/-- The device that keeps running takes note of a program that was cut short: appending resumes at the next page boundary behind
the void record; a sector opened for it is open where its SECT is committed, and is erased again where not (R345). -/
def nvVoided (c : NvCur) (s : State) : State :=
  if c.erase || c.recSize ≤ 1 then s else
  let t := nvOpened c s
  if openSector t == some c.sector then moveTo (alignUp (behindCur c) 256) t
  else { t with nv := { t.nv with reErase := t.nv.reErase ++ [c.sector] } }

/-- A clock loss during an operation (R69): the array as a power loss would leave it, and the record, where all of it is
programmed, committed, else void. A host's command ends with an outcome the spec does not give. (DESIGN CHOICE, log entry 118) -/
def nvClockLoss (s : State) : State :=
  match s.nv.cur with
  | none => s
  | some c =>
    let t := nvCut s
    let host := match c.op with | .prog _ _ _ | .erase _ | .append _ _ _ => true | _ => false
    let t := if host then endNvHost (Config.anyCode s.cyc % 256) t else t
    let t := match c.op with
      | .lastFault _ _ _ => { t with nv := { t.nv with ltfOpen := false } }
      | .sect n _ => { t with nv := { t.nv with reErase := t.nv.reErase ++ [n] } }
      | .zero _ l => { t with nv := { t.nv with queue := .zero false l :: t.nv.queue } }
      | _ => t
    let again (t : State) : State := match c.op with
      | .bases r p | .basesP r p => { t with nv := { t.nv with queue := .bases r p :: t.nv.queue } }
      | _ => t
    if c.erase then
      (match c.op with | .erase _ => t | _ => { (dropRecs c.sector t) with
        nv := { (dropRecs c.sector t).nv with reErase := t.nv.reErase ++ [c.sector] } })
    else if 32 ≤ c.recSize && (recAt t c.recAddr).any (·.valid)
        && (commitsOf c).all (fun a => nvByte t a == 0xA5) then nvCommitted c t
    else again (nvVoided c t)

/-- A program abandoned at a power failure (R355): its record is void, since its COMMIT is not reached; a tally bit reads as
either. (DEDUCED, log entry 85) -/
def nvAbandon (c : NvCur) (s : State) : State :=
  let t := { s with nv := { s.nv with cur := none } }
  if c.erase then
    let t := dropRecs c.sector (cutErase (Config.looseByte s.cyc) c.sector t)
    { t with nv := { t.nv with left := match c.op with | .erase _ => t.nv.left | _ => t.nv.left ++ [c.sector] } }
  else nvVoided c (nvPartial { c with bytes := if c.recSize = 1 then c.bytes else c.bytes.dropLast } t)

/-- A bases record or a last-fault record is in progress (R355). -/
def nvExempt (s : State) : Bool :=
  let rec_ (o : NvOp) : Bool := match o with | .bases _ _ | .basesP _ _ | .lastFault _ _ _ => true | _ => false
  match s.nv.cur with
  | none => false
  | some c => rec_ c.op || (match c.op, s.nv.queue with | .zero true _, o :: _ => rec_ o | _, _ => false)

/-- POWER_FAIL (R351, R355). (DEDUCED, log entry 78; DEDUCED, log entry 85) -/
def powerFail (s : State) : State :=
  if s.dev.rst || s.dev.clkStop || s.dev.st == .boot then s else
  if s.nv.saved then { s with nv := { s.nv with pwrHigh := 0 } } else
  let exempt := nvExempt s
  let body := lstateBody s
  let s := queueBases s
  let s := { s with nv := { s.nv with pwrHigh := 0, saved := true } }
  if exempt then event Src.NV_PWRFAIL 1 s
  else
    let s := match s.nv.cur with
      | none => s
      | some c => { (nvAbandon c s) with nv := { (nvAbandon c s).nv with aband := some c.op } }
    let fits := (place s 256 0 true).isSome
    event Src.NV_PWRFAIL (if fits then 0 else 1) (nvStart (.lstate body) s.nv.queue s)

/-- POWER_FAIL_RECOVER (R355): PWRFAILn has been high for 1000 frames. A host's APPEND whose failed record was being voided is abandoned
with it; the sector of an abandoned SECT may have been opened for the last-state record, or be about to be by a program in progress. (DEDUCED, log entry 85) -/
def powerFailRecover (s : State) : State :=
  if !s.nv.saved || s.nv.pwrHigh < 1000 then s else
  let s := { s with nv := { s.nv with saved := false, pwrHigh := 0 } }
  match s.nv.aband with
  | none => s
  | some o =>
    let s := { s with nv := { s.nv with aband := none } }
    match o with
    | .prog _ _ _ | .erase _ | .append _ _ _ => endNvHost 3 s
    | .topen _ | .compErase _ => s
    | .zero again l =>
      match again, s.nv.queue with
      | true, .append _ _ _ :: rest => endNvHost 3 { s with nv := { s.nv with queue := .zero false l :: rest } }
      | _, q => { s with nv := { s.nv with queue := .zero false l :: q } }
    | .sect n _ => if sectorUsed s n || (match s.nv.cur with | some c => c.sector == n | none => false) then s else { s with nv := { s.nv with queue := o :: s.nv.queue } }
    | _ => { s with nv := { s.nv with queue := o :: s.nv.queue } }

/-! ### Meanings -/

/-- NV_OPERATION_START (R339). -/
def execNvOperationStart (s : State) : Host.Outcome State Fault Refusal := .next (clocked nvOperationStart s.begin)
/-- PAGE_PROGRAM_DONE (R340). -/
def execPageProgramDone (ok : Bool) (s : State) : Host.Outcome State Fault Refusal := .next (clocked (pageProgramDone ok) s.begin)
/-- SECTOR_ERASE_DONE (R341). -/
def execSectorEraseDone (ok : Bool) (s : State) : Host.Outcome State Fault Refusal := .next (clocked (sectorEraseDone ok) s.begin)
/-- TALLY_BIT_DONE (R350). -/
def execTallyBitDone (ok : Bool) (s : State) : Host.Outcome State Fault Refusal := .next (clocked (tallyBitDone ok) s.begin)
/-- TALLY_INCREMENT (R348). -/
def execTallyIncrement (n : Fin 8) (s : State) : Host.Outcome State Fault Refusal := .next (clocked (tallyIncrement n) s.begin)
/-- POWER_FAIL (R355). -/
def execPowerFail (s : State) : Host.Outcome State Fault Refusal := .next (clocked powerFail s.begin)
/-- POWER_FAIL_RECOVER (R355). -/
def execPowerFailRecover (s : State) : Host.Outcome State Fault Refusal := .next (clocked powerFailRecover s.begin)

end Sys2Proof.Machine
end

