-- ==== Sys2Proof/Machine/Fault.lean ====
section
/-! DEFINITION. Machine/Fault.lean: the fault collector (R271-R298): acceptance, class actions, log, latches, first-source latch,
injection, self-fault, ALIVE, leaving SAFE. -/

namespace Sys2Proof.Machine

/-- Rails out of OFF. -/
def railsOut (s : State) : List Nat := (List.range 16).filter fun r => (s.rail r).st != .off

/-- The rails a class 3 action reaches, before FSCOPE widens them (R280, R164, R133). -/
def railsReached (s : State) (src addr : Nat) : List Nat :=
  let one (o : Option Nat) : List Nat := o.toList
  if src ∈ [0x21, 0x22, 0x23] then [addr % 16]
  else if 0x10 ≤ src ∧ src < 0x30 then (if addr < 16 then [addr] else [])
  else if (0x30 ≤ src ∧ src < 0x60) ∨ src = 0x73 ∨ src = 0x74 then (if addr < 48 then one (railOf s addr) else [])
  else if src = 0x60 ∨ (src = 0x61 ∧ addr < 0x80) then one (ctxRail s addr)
  else if src = 0x61 then (if addr < 0x90 then [addr - 0x80] else [])
  else if src = 0x63 then (if addr < 16 then [addr] else [])
  else if 0x70 ≤ src ∧ src ≤ 0x72 then (if addr < 16 then [addr] else [])
  else if src = 0x75 then (List.range 16).filter fun r => decide (addr < 16) &&
    (ffsrc s r == 0x10 + addr || (bit (s.rr r Reg.RAIL_THCFG) 31 && fld (s.rr r Reg.RAIL_THCFG) 7 0 == addr))
  else if src = 0x77 then (List.range 16).filter fun r => decide (addr < 4) && fld (s.rr r Reg.RAIL_SRC) 3 0 == 1 + addr
  else if src = 0x78 then (List.range 16).filter fun r => decide (addr < 4) && fld (s.rr r Reg.RAIL_SRC) 3 0 == 5 + addr
  else if 0xB0 ≤ src ∧ src < 0xB8 then (List.range 16).filter fun r => tripMapsRail s (src - 0xB0) r
  else if src = 0xB8 then (List.range 16).filter fun r => decide (addr < 16) && tripMapsRail s (8 + addr) r
  else railsOut s

/-- The rails reached, each widened to its domain when its FSCOPE = 1 (R28, R280). (DEDUCED, log entry 56) -/
def railsHit (s : State) (src addr : Nat) : List Nat :=
  let l := railsReached s src addr
  (List.range 16).filter fun r => l.contains r || l.any fun q => fscope s q && domOf s q == domOf s r

/-- FORMING is a place of a device in IDLE only: one that enters SAFE or LOCKED while it forms takes ORPHAN, as one whose BOOT ends
there does (R302, R303). (DEDUCED, log entry 94) -/
def endForming (s : State) : State :=
  if s.twin.pst == .forming then { s with twin := { s.twin with pst := .orphan } } else s

/-- Class 4: the safe state (R281). In SAFE or LOCKED nothing more happens (R283). In BOOT the action is in force, and BOOT
ends in SAFE (R419). -/
def safeAction (src addr : Nat) (s : State) : State :=
  if s.dev.st == .safe || s.dev.st == .locked then s else
  if s.dev.st == .boot then setEvt Pg.FC 4 { s with fc := { s.fc with safe := true } } else
  let s := freezeAll s
  let s := { s with dev := { s.dev with st := .safe }, fc := { s.fc with safe := true } }
  let s := leaveActive s
  let s := (railsOut s).foldl (fun s r => toFaulted src addr r s) s
  setEvt Pg.FC 4 (endForming s)

/-- LOCK is set in every page (R282, R421). -/
def lockPages (s : State) : State :=
  loop 0x72 (fun s p => s.setReg (p * 256 + Reg.PG_CTL) (BitVec.ofNat 32 (2 ^ 31))) s

/-- LOCKED (R282): every rail LOCKED, every page locked. -/
def enterLocked (s : State) : State :=
  let s := loop 16 (fun s r => toLocked r s) s
  lockPages (endForming { s with dev := { s.dev with st := .locked }, fc := { s.fc with locked := true, safe := true } })

/-- Class 5: the safe state, then LOCKED (R282); in BOOT the action is in force, and BOOT ends in LOCKED (R419). -/
def lockAction (src addr : Nat) (s : State) : State :=
  let s := safeAction src addr s
  if s.dev.st == .boot then { s with fc := { s.fc with locked := true } } else enterLocked s


/-- The local action of a class 2 message, where its source has one (R118, R226, R228, R229, R247, R279). A phase that EN = 0 has taken out in
the same CKB cycle fails as it stood before (R230). (DEDUCED, log entry 30; DEDUCED, log entry 65; DESIGN CHOICE, log entry 154) -/
def class2 (src addr : Nat) (s : State) : State :=
  let active := match railOf s addr with
    | some r => (s.rail r).st.running && ((s.ph addr).pst == .active || (s.ph addr).offAt == some s.clk)
    | none => false
  if src = Src.PH_OPEN then (if active then failPhase addr s else s)
  else if src = Src.PH_SENSE_IMPL then
    if !active then s
    else if obsCan s addr then s.modPh addr fun x => { x with est := true }
    else event Src.PH_UNAVAIL addr (failPhase addr s)
  else if src = Src.PH_DLCAL then
    if addr < 48 && !(s.ph addr).gen.dlok then s.modGen addr fun g => { g with fine := false } else s
  else if src = Src.RAIL_TWARN then
    if addr < 16 && (s.rail addr).tw.on then startDerate addr s else s
  else s

/-- FLAGS of a message (R271). -/
def Msg.flags (m : Msg) : Nat := 8 * b2n m.inj + 4 * b2n m.real + 2 * b2n m.rep

/-- Message bits 31 to 0 with its sequence number (R271). -/
def Msg.lo (m : Msg) (seq : Nat) : Word := pack [(m.kind, 28), (m.addr % 4096, 16), (m.flags, 12), (seq, 0)]

/-- Entry of the log that stands at index `e` (R284). (DEDUCED, log entry 67) -/
def logEntry (s : State) (e : Nat) : Option LogEntry :=
  s.fc.log[(s.fc.logCnt + 127 - e % 64) % 64]?

/-- The first-source latch (R286). -/
def captureCheck (cls : Nat) (hi lo ts : Word) (s : State) : State :=
  if cls < fld (s.pg Pg.FC Reg.FC_CTL) 10 8 then s
  else if bit s.fc.firstHi 31 then
    { s with fc := { s.fc with ovf := true, ovfCnt := satInc 0xFFFF s.fc.ovfCnt } }
  else setEvt Pg.FC 1 { s with fc := { s.fc with firstHi := hi ||| BitVec.ofNat 32 (2 ^ 31), firstLo := lo, firstTs := ts } }

/-- The arbiter's order (R275): raised earlier, then lower source, then lower address. -/
def Msg.before (a b : Msg) : Bool :=
  decide (a.born < b.born) ||
    (a.born == b.born && (decide (a.src < b.src) || (a.src == b.src && decide (a.addr < b.addr))))

/-- The message the arbiter takes next: the oldest of each queue is eligible, and a queue's messages stand in order. -/
def pickMsg : List Msg → Option Msg
  | [] => none
  | m :: t => match pickMsg t with
    | none => some m
    | some n => if n.before m then some n else some m

/-- The action of the applied class (R278, R283, R309). -/
def classAction (app src addr : Nat) (hit : List Nat) (s : State) : State :=
  let quiet := s.dev.st == .safe || s.dev.st == .locked
  if app = 2 then (if isStandby s then s else class2 src addr s)
  else if app = 3 then
    (if quiet || isStandby s then s else hit.foldl (fun s r => toFaulted src addr r s) s)
  else if app = 4 then safeAction src addr s
  else if app = 5 then (if s.dev.st == .locked then s else lockAction src addr s)
  else s

/-- A message is accepted (R275-R291). (DESIGN CHOICE, log entry 68) -/
def accept (m : Msg) (s : State) : State :=
  let cls := clsOf s m.src
  let seq := s.fc.seq
  let capped := m.inj && !m.real && !bit (s.pg Pg.FC Reg.FC_CTL) 0 && m.kind != 2
  let hit := railsHit s m.src m.addr
  let app0 := if capped then min cls 1 else cls
  let app := if app0 = 3 ∧ hit = [] then 1 else app0
  let hi := pack [(b2n capped, 11), (cls, 8), (m.src, 0)]
  let lo := m.lo seq
  let ts := BitVec.ofNat 32 (m.stamp.getD s.dev.frame)
  let old := s
  let s := { s with fc := { s.fc with seq := (seq + 1) % 4096, logCnt := (s.fc.logCnt + 1) % 4294967296
                                      log := (⟨hi, lo, ts⟩ :: s.fc.log).take 64 } }
  let s := if (s.pg Pg.SAMP Reg.SAMP_CAPLVL).toNat / 65536 % 256 = m.src then { s with capt := { s.capt with srcSeen := true } } else s
  if m.kind = 2 then s else
  let s := perf 0x40 app 1 s
  let s := s.setReg (Pg.FC * 256 + Reg.FC_LAT + m.src / 32)
    (s.pg Pg.FC (Reg.FC_LAT + m.src / 32) ||| BitVec.ofNat 32 (2 ^ (m.src % 32)))
  let s := captureCheck cls hi lo ts s
  if app = 0 then s else
  let s := setEvt Pg.FC 2 s
  let s := match evtPlace m.src m.addr with | some (p, b) => setEvt p (2 ^ b) s | none => s
  if app < 3 then classAction app m.src m.addr hit s else
  let s := tallyAdd 7 1 s
  let s := { s with twin := { s.twin with cnt3 := (s.twin.cnt3 + 1) % 256, src3 := m.src } }
  let s := classAction app m.src m.addr hit s
  handFault (m.src * 2 ^ 32 + lo.toNat) app capped (faultRail old m.src m.addr) old s

/-- FAULT_ACCEPT (R275): one message is taken; none in BOOT, nor while CKB is stopped (R276). -/
def faultAccept (s : State) : State :=
  if s.dev.clkStop || s.dev.st == .boot || s.dev.rst then s else
  match pickMsg s.fc.pend with
  | none => s
  | some m => accept m { s with fc := { s.fc with pend := s.fc.pend.erase m } }

/-- Every message that waits is accepted, in order, one in each CKB cycle (R275, R276). -/
def acceptAll : Nat → State → State
  | 0, s => s
  | n + 1, s =>
    match pickMsg s.fc.pend with
    | none => s
    | some m => acceptAll n (accept m { s with fc := { s.fc with pend := s.fc.pend.erase m } }).later

/-- COLLECTOR_SELF_FAULT (R292): past the arbiter. -/
def selfFault (s : State) : State :=
  let old := s
  let hi := pack [(1, 31), (4, 8), (0xFF, 0)]
  let lo := pack [(1, 28), (4, 12)]
  let ovf := bit s.fc.firstHi 31
  let s := safeAction 0xFF 0 s
  let s := { s with fc := { s.fc with self := true, ovf := s.fc.ovf || ovf, firstHi := hi, firstLo := lo
                                      firstTs := BitVec.ofNat 32 s.dev.frame } }
  let s := tallyAdd 7 1 (setEvt Pg.FC 5 s)
  handFault (0xFF * 2 ^ 32 + lo.toNat) 4 false none old s

/-- Forced messages of one PG_FORCE write (R288). (DEDUCED, log entry 106) -/
def forceRaise (t : PType) (inst : Nat) (w : Word) (s : State) : State :=
  match forceBase t with
  | none => s
  | some (b, n) =>
    let adr := match t with | .rail | .ph => inst | _ => fld (s.pg Pg.FC Reg.FC_INJADR) 11 0
    (bitsOf n w.toNat).foldl (fun s k => raise (b + k) (if isCond (b + k) then 1 else 0) adr true false s) s

/-- A source of class 3 or above stands, FC_SELF included (R294, R323). -/
def anyStand3 (s : State) : Bool := s.fc.self || s.fc.stand.any fun x => decide (3 ≤ clsOf s x.1)

/-- The device leaves SAFE for a state: rails in FAULTED enter OFF, NRST and RSTPEND cleared (R294, R128). -/
def leaveSafe (st : DevState) (s : State) : State :=
  let s := loop 16 (fun s r => if (s.rail r).st == .faulted then (toOff r s).modRail r fun x => { x with nrst := 0 } else s) s
  let s := { s with dev := { s.dev with st := st, safeHold := false, aliveLeft := fld (s.pg Pg.FC Reg.FC_ALIVE) 12 0 }
                    fc := { s.fc with safe := false } }
  let s := { s with phases := s.phases.map fun x => { x with gen := { x.gen with count := 0 } } }
  setEvt Pg.FC 8 s

/-- ALIVE_TOGGLE (R293): HALF frames have passed; held in SAFE, LOCKED and while the clocks stand. -/
def aliveToggle (s : State) : State :=
  if s.fc.safe || s.dev.st == .boot || s.dev.clkStop || s.dev.rst || 0 < s.dev.aliveLeft then s
  else { s with dev := { s.dev with alive := if s.dev.alive == .high then .low else .high
                                    aliveLeft := fld (s.pg Pg.FC Reg.FC_ALIVE) 12 0 } }

/-- FAULT_ACCEPT (R275). -/
def execFaultAccept (s : State) : Host.Outcome State Fault Refusal := .next (clocked faultAccept (s.begin none none true))
/-- COLLECTOR_SELF_FAULT (R292). -/
def execCollectorSelfFault (s : State) : Host.Outcome State Fault Refusal :=
  .next (clocked selfFault s.begin)
/-- ALIVE_TOGGLE (R293). -/
def execAliveToggle (s : State) : Host.Outcome State Fault Refusal := .next (clocked aliveToggle s.begin)

end Sys2Proof.Machine
end

