-- ==== Sys2Proof/Machine/Pair.lean ====
section
/-! DEFINITION. Machine/Pair.lean: what the twin unit shares with other blocks: the registers a digest and a copy cover (R313, R314),
entry to SYNCING, the end of a planned handover (R321). -/

namespace Sys2Proof.Machine

/-- Bits of the RW and RWL fields of a register. -/
def RegRow.rwBits (r : RegRow) : Word :=
  BitVec.ofNat 32 r.wmask &&& ~~~ BitVec.ofNat 32 r.w1c &&& ~~~ BitVec.ofNat 32 r.wo

/-- Addresses of the registers of a row that hold an RW or RWL field. -/
def RegRow.rwOffs (r : RegRow) : List Nat :=
  if r.rwBits = 0 then [] else (List.range r.n).map fun k => r.lo + k * r.stride

/-- Registers with an RW or RWL field, in address order, without the TWIN page, PAGE_SEL and FC_LOGSEL (R313): of the registers
common to every page, PG_CTL, PG_EVTEN and PG_ACL. Of PG_EVTEN every host's copy is a field of its own (R428); of the others the host
is 0. (DESIGN CHOICE, log entry 86) -/
def covered : List (Fin 3 × Nat) :=
  (List.range 0x72).flatMap fun pg =>
    if pg = Pg.TWIN then [] else
    match pageType pg with
    | none => []
    | some (t, _) =>
      ([Reg.PG_CTL, Reg.PG_EVTEN, Reg.PG_ACL] ++ (t.rows.flatMap RegRow.rwOffs).filter fun o =>
        !(pg == Pg.FC && o == Reg.FC_LOGSEL)).flatMap fun o =>
          (if o = Reg.PG_EVTEN then [0, 1, 2] else [0]).map fun h => (h, pg * 256 + o)

/-- The RW and RWL bits of a register as stored; of PG_EVTEN the host's copy. -/
def coveredWord (s : State) (x : Fin 3 × Nat) : Word :=
  let a := x.2
  if a % 256 = Reg.PG_EVTEN then s.reg (hostKey x.1 a)
  else if a % 256 < 8 then s.reg a
  else match regRow a with
    | some r => s.reg a &&& r.rwBits
    | none => 0

/-- Registers of which every host has its own (R377, R380): PG_EVTEN of every page, and HOST_ERRCLR. -/
def hostHeld (a : Nat) : Bool := a % 256 == Reg.PG_EVTEN || a == Pg.HOST * 256 + Reg.HOST_ERRCLR

/-- The address of a write slot (R306, R310). A register that every host has of its own is named by addresses that no page has,
so that the standby clears or sets the same host's (R377). (DESIGN CHOICE, log entry 115) -/
def slotAddr (h : Fin 3) (a : Nat) : BitVec 16 :=
  BitVec.ofNat 16 (if hostHeld a then 0x8000 + a + 0x40 * h.val else a)

/-- The register that a write slot names. -/
def slotReg (v : BitVec 16) : Nat :=
  if v.toNat < 0x8000 then v.toNat else v.toNat - 0x8000 - 0x40 * (v.toNat % 256 / 0x40)

/-- The host whose write it is; of a register that is the same for every host, the owner. -/
def slotHost (s : State) (v : BitVec 16) : Fin 3 :=
  if v.toNat < 0x8000 then (if s.dev.ownsel then 1 else 0) else Fin.ofNat 3 (v.toNat % 256 / 0x40)

/-- The writes of a whole copy (R314): for an RCOMP page the active bank, a commit, then the pending bank. -/
def copyItems (s : State) : List (BitVec 16 × Word) :=
  let put (a : Nat) (w : Word) : BitVec 16 × Word := (slotAddr 0 a, w)
  let rcomp (pg : Nat) : List (BitVec 16 × Word) :=
    (coefOffs.filter fun o => (regRow (pg * 256 + o)).isSome).map (fun o => put (pg * 256 + o) (s.reg (bankKey (pg * 256 + o)))) ++
    [put (pg * 256 + Reg.RCOMP_CTL) (setFld (s.reg (bankKey (pg * 256 + Reg.RCOMP_CTL))) 0 0 1)]
  (List.range 16).flatMap (fun r => rcomp (0x50 + r)) ++ covered.map fun x => (slotAddr x.1 x.2, coveredWord s x)

/-- The slots of the copy under way that are still to be sent, each with the register as it stands when it is sent (R314). While a commit
is pending none is sent, since the banks are about to change. (DESIGN CHOICE, log entry 98) -/
def copyRest (s : State) : List (BitVec 16 × Word) :=
  match s.twin.copied with
  | none => []
  | some n => if (List.range 16).any fun r => (s.rail r).pend then [] else (copyItems s).drop n

/-- The slots of a whole copy in order, and how many they are. -/
def copySlots (s : State) : List (BitVec 16) := (copyItems s).map (·.1)
def copyTotal : Nat := (copyItems State.reset).length

/-- A host transaction ends with an outcome (R390). -/
def endHost (res : Nat) (s : State) : State :=
  { s with sb := { s.sb with hbusy := false, hostPend := false, hres := res
                             again := if s.sb.again == some .host then none else s.sb.again } }

/-- A host transaction that has not begun on the bus, or waits to begin again, is not executed by a standby (R391). (DESIGN CHOICE, log entry 167) -/
def dropWaitingHost (s : State) : State := if s.sb.hbusy && s.sb.cur != some .host then endHost 4 s else s

/-- The device becomes SYNCING in STANDBY (R302, R314): a copy, digests and a correction cycle are due. An injection ends with it
(R263). The pair's counts restart where it is formed, not where its roles are exchanged (R310). (DESIGN CHOICE, log entry 98) -/
def enterSyncing (formed : Bool) (s : State) : State :=
  let s := dropWaitingHost (if s.dev.st == .active then leaveActive s else s)
  { s with dev := { s.dev with st := .standby }
           twin := { s.twin with pst := .syncing, copyLeft := copyTotal, eqAfter := 0, corrAfter := 0, leaving := false
                                 crcErr := if formed then 0 else s.twin.crcErr, lost := if formed then 0 else s.twin.lost
                                 rpl := if formed then 0 else s.twin.rpl, snaps := [], rstate := [], hoLeft := 0
                                 dutyBad := List.replicate 16 0, dutyOk := List.replicate 16 0
                                 dutyArmed := List.replicate 16 true }
           phases := s.phases.map fun x => { x with gen := { x.gen with driving := true } } }

/-- The outgoing device of a planned handover enters STANDBY when the last of its phases has entered STBY (R321). (DEDUCED, log entry 103) -/
def handoverDone (s : State) : State :=
  if s.twin.leaving && (List.range 48).all (fun p => !(s.ph p).gen.driving || !(s.ph p).gen.going || !counts s p) then
    enterSyncing false s
  else s

end Sys2Proof.Machine
end

