-- ==== Sys2Proof/Machine/Pins.lean ====
section
/-! DEFINITION. Machine/Pins.lean: what the outputs of a generator show over a period (R110-R113, R153, R452): placement, the compare of an
energy duty, the set and the HOLD of the period to come, the pulses of an output, and the levels of the output balls. -/

namespace Sys2Proof.Machine

/-- A time in FINE, placed at the nearest CNT where fractional placement is not in force (R118). (DESIGN CHOICE, log entry 31) -/
def place1 (fine : Bool) (t : Nat) : Nat := if fine then t else (t + 32) / 64 * 64

/-- The compare formed from an energy duty (R153). -/
def cmpOf (boost : Bool) (d : Rat) (per : Nat) : Nat :=
  let h := if boost then 1 - d else d
  if h ≤ 0 then 0 else if 1 ≤ h then 0x3FFFFF else (roundAway (h * (per : Rat) * 64)).toNat

/-- The generator is held for the period (R172, R208, R214, R219, R223): not ACTIVE, joining without a set, BRAKE, or a DRIP
period above the band. -/
def holdFor (s : State) (p : Nat) (joined : Bool) : Bool :=
  let x := s.ph p
  match railOf s p with
  | none => false
  | some r =>
    match (s.rail r).st with
    | .ramp | .regulate | .limit | .stopping => x.pst != .active || (x.joining && !joined)
    | .brake => true
    | .drip => x.pst != .active || (x.joining && !joined) ||
        decide (refCode s r + fld (rgOf s r 1) 15 0 < (s.rail r).vloop)
    | _ => false

/-- A BOOST phase: the energy duty is that of the low side (R153). -/
def boostPh (s : State) (p : Nat) : Bool := match railOf s p with | some r => topo s r == 1 | none => false

/-- The phase runs on its held duty (R219). -/
def dripPh (s : State) (p : Nat) : Bool :=
  match railOf s p with | some r => (s.rail r).st == .drip && (s.ph p).pst == .active | none => false

/-- The compare of the period to come, before it is blended (R120, R219). -/
def nextCmp (s : State) (p : Nat) : Nat :=
  let c := nextSet s p
  if dripPh s p then cmpOf (boostPh s p) (s.ph p).dripDuty c.per else c.cmp

/-- The period to come is one in HOLD. -/
def nextHold (s : State) (p : Nat) : Bool := holdFor s p ((s.ph p).joining && (s.ph p).gen.eset.isSome)

/-- 0 % or 100 % (R109). -/
def special (c : Nat) : Bool := c == 0 || c == 0x3FFFFF

/-- An output without its last rise, after which it stays high to the boundary. -/
def Pin.noRest : Pin → Pin
  | .two r f _ none => .pulse r (some f)
  | .pulse (some _) none => .low
  | x => x

/-- Where a high side that rose after its guard ended the low side stands high to the boundary, in FINE from the period's begin (R236). -/
def Pin.restAt : Pin → Option Nat
  | .two _ _ a none => some a
  | .pulse (some t) none => some t
  | _ => none

/-- The two outputs of a generator over the present period as far as it is decided: a pulse that was omitted in it shows where the
period to come continues it (R113); a high side that rose behind an ended low side is omitted where the period to come does not continue it and
the boundary leaves it less than MINPW (R112, R236). (DESIGN CHOICE, log entry 132) -/
def outputs (s : State) (p : Nat) : Pin × Pin :=
  let g := (s.ph p).gen
  let e := g.curPer * 64
  let c := nextCmp s p
  let up := place1 g.fine g.dthNow
  let lo := place1 g.fine (g.lowAt + g.dtlNow)
  let plain := !g.hold && !nextHold s p
  let ends := g.lowCut && g.endHigh && (nextHold s p || c == 0) &&
    (match g.hpin.restAt with | some t => decide (e - t < fld (s.pr p Reg.PH_CTL) 31 24 * 64) | none => false)
  (if ends then g.hpin.noRest
   else if plain && !special g.curCmp && c == 0x3FFFFF && g.endHigh && g.hpin == .low && decide (up < e) then .pulse (some up) none else g.hpin,
   if plain && c == 0 && !g.endHigh && !g.lowCut && g.lpin == .low && decide (lo < e) then .pulse (some lo) none else g.lpin)

/-- The pulses of an output: rise and fall of each. -/
def Pin.pulses : Pin → List (Option Nat × Option Nat)
  | .pulse r f => [(r, f)]
  | .two r f a e => [(r, some f), (some a, e)]
  | .headZ p => p.pulses
  | _ => []

/-- Conduction of a side over a period in FINE (R225). -/
def conduction (x : Pin) (per : Nat) : Nat := sumN (x.pulses.map fun y => (y.2.getD (per * 64)) - (y.1.getD 0))

/-- An output in a period whose first 16 CNT are in high impedance (R321). -/
def Gen.head (g : Gen) (x : Pin) : Pin := if g.zHead then .headZ x else x

/-- An output that boundary scan holds at a level (R452). -/
def scanPin : Lvl → Pin
  | .hiZ => .hiZ | .low => .low | .high => .pulse none none

/-- The two output pins of a phase (R26, R110, R119, R126): high impedance outside HOLD and RUN and before the first period; what boundary
scan holds them at where it has taken the output balls (R452). (DESIGN CHOICE, log entry 107) -/
def pins (s : State) (p : Nat) : Pin × Pin :=
  let g := (s.ph p).gen
  if scanned s then (scanPin (testBall s p), scanPin (testBall s (48 + p)))
  else if s.dev.rst || !g.going then (.hiZ, .hiZ) else
  match gst s p with
  | .hold => (g.head .low, g.head .low)
  | .run => (g.head (outputs s p).1, g.head (outputs s p).2)
  | _ => (.hiZ, .hiZ)

/-- An output ball (R452): what boundary scan holds it at where it has taken the output balls, else the level that the device gives it. (PRESUMED, log entry 16) -/
def ball (s : State) (k : Nat) (own : Lvl) : Lvl := if scanned s then testBall s k else own

/-- The pin DRVENk (R25, R26): driven high, or in high impedance. -/
def drvPin (s : State) (k : Nat) : Lvl := ball s (96 + k) (if drvHigh s k then .high else .hiZ)

/-- The pin ALIVE (R293, R412). -/
def alivePin (s : State) : Lvl := ball s 100 s.dev.alive

/-- The interrupt pin of a host (R380): driven low, or in high impedance. -/
def irqBall (s : State) (h : Nat) : Lvl := ball s (101 + h) (if irqPin s h then .low else .hiZ)

end Sys2Proof.Machine
end

