-- ==== Sys2Proof/Machine/Sense.lean ====
section
/-! DEFINITION. Machine/Sense.lean: the sensing front end and the sampling scheduler (R74-R100, R225): window and absolute
converters, current converters, auxiliary converter, setpoint inputs; the triggers they hand to the loop engine (R139-R141). -/

namespace Sys2Proof.Machine

/-! ### Triggers of the loop engine (R139-R141) -/

/-- A trigger joins the queue with the CKS cycle `at_` in which its sample ended (R140); it replaces an update of its context that has not
begun (R141). -/
def addTrigger (at_ c : Nat) (s : State) : State :=
  let s := { s with eng := { s.eng with queue := s.eng.queue.filter (fun q : QItem => q.ctx != c || begun s q) ++ [(⟨c, at_⟩ : QItem)] } }
  { s with eng := { s.eng with qPeak := max s.eng.qPeak (waiting s s.perf).length } }

/-- A trigger reaches the queue; one whose context has an update that is not finished is an overrun (R141). -/
def enqueue (at_ c : Nat) (s : State) : State :=
  if s.eng.queue.any (fun q => q.ctx == c) then
    let s := { s with eng := { s.eng with lastOvr := c, ovrCnt := satInc 4294967295 s.eng.ovrCnt } }
    event Src.ENG_OVERRUN c (perf 0x12 c 1 (addTrigger at_ c s))
  else addTrigger at_ c s

/-- The current loop of a phase that joins from STOP has no control conversion to trigger it: until it has written the phase's first
set it is triggered with the voltage loop (R139, R214). (DESIGN CHOICE, log entry 131) -/
def triggerJoin (at_ r : Nat) (s : State) : State :=
  ((activeOf s r).filter fun p => (s.ph p).joining && !(s.ph p).gen.going && (s.ph p).gen.eset.isNone && ctxActive s (32 + p)).foldl
    (fun s p => enqueue at_ (32 + p) s) s

/-- The end of a voltage measurement triggers C(r), and C(16 + r) on each NOUT-th trigger (R139). -/
def triggerV (at_ r : Nat) (s : State) : State :=
  if !ctxActive s r then s else
  let s := triggerJoin at_ r (enqueue at_ r s)
  let n := (s.rail r).cntOut + 1
  if n < (s.rail r).nOut then s.modRail r fun x => { x with cntOut := n }
  else enqueue at_ (16 + r) (s.modRail r fun x => { x with cntOut := 0 })


/-- The end of a control conversion triggers C(32 + p) and C(80 + p), decimated by NCUR and NBAL (R139). -/
def triggerI (at_ p : Nat) (s : State) : State :=
  match railOf s p with
  | none => s
  | some r =>
    let s :=
      if !ctxActive s (32 + p) then s
      else if (s.ph p).cntCur + 1 < (s.rail r).nCur then s.modPh p fun x => { x with cntCur := x.cntCur + 1 }
      else enqueue at_ (32 + p) (s.modPh p fun x => { x with cntCur := 0 })
    if !ctxActive s (80 + p) then s
    else if (s.ph p).cntBal + 1 < (s.rail r).nBal then s.modPh p fun x => { x with cntBal := x.cntBal + 1 }
    else enqueue at_ (80 + p) (s.modPh p fun x => { x with cntBal := 0 })

/-- The converters run: after BOOT, in no reset, and with the clocks running (R74). -/
def sensing (s : State) : Bool := !s.dev.rst && !s.dev.clkStop && s.dev.st != .boot

/-- A voltage scaled to PU16 (R38); with a scale of zero the quotient has no value. (DESIGN CHOICE, log entry 24) -/
def scaledPU (s : State) (v : Rat) (scale : Word) : Nat :=
  if bf scale = 0 then Config.anyCode s.cyc % 65536 else toPU16 (v / bf scale)

/-- A sense voltage scaled to SPU16 (R38); with a scale of zero the quotient has no value. -/
def scaledSPU (s : State) (v : Rat) (scale : Word) : Int :=
  if bf scale = 0 then s16 (Config.anyCode s.cyc) else toSPU16 (v / bf scale)

/-! ### Grid angle (R192, R193) -/

/-- Nominal frequency for a GRID_CFG word (R192). -/
def fnomOf (w : Word) : Rat := if bit w 31 then 60 else 50

/-- Size of the phase accumulator (R192). -/
def accMod : Nat := 1099511627776

/-- The increment in force: before the first valid edge after reset, that of the nominal frequency GRID_CFG.FNOM selects
(R192). (DEDUCED, log entry 110) -/
def incNow (s : State) : Nat := if s.grid.valid then s.grid.inc else gridInc (fnomOf (s.pg Pg.GRID Reg.GRID_CFG))

/-- The accumulator at CKS edge `e` since reset, at the increment `inc` (R192). -/
def Grid.at (g : Grid) (e inc : Nat) : Nat := (((g.acc : Int) + ((e : Int) - g.accAt) * inc) % accMod).toNat

/-- The accumulator at the CKS edge nearest an absolute time in CNT (R193). -/
def accNear (s : State) (t : Nat) : Nat := s.grid.at (roundAway ((t : Rat) / 8)).toNat (incNow s)

/-- ANG at CKS edge `e` since reset (R192). -/
def angAt (s : State) (e : Nat) : Nat := s.grid.at e (incNow s) / 16777216 % 65536

/-- The latest CKS edge since reset at the present CKB cycle. -/
def cksNow (s : State) : Nat := edgeCnt s / 8

/-- The accumulator is taken as it stands, before its increment changes from `inc`: it is never stepped (R192). -/
def Grid.upTo (s : State) (inc : Nat) (g : Grid) : Grid := { g with acc := g.at (cksNow s) inc, accAt := cksNow s }

/-! ### Voltage sensing (R75-R80, R89, R90) -/

/-- Pin voltage of a window code under a DAC code (R76). -/
def winVolts (dac : Nat) (w : Int) : Rat := (dac : Rat) * (1.6 / 65536) + (w : Rat) * (1 / 16000)

/-- WINDOW_CONVERSION (R76, R77). (DESIGN CHOICE, log entry 25; DESIGN CHOICE, log entry 123) -/
def windowConversion (r : Nat) (w : Int) (s : State) : State :=
  if !sensing s then s else
  s.modRail r fun x =>
    let oow := w == -512 || w == 511
    let inRun := if oow then 0 else satInc 16 x.inRun
    { x with win := (⟨oow, winVolts x.vdac w, x.vabsV⟩ :: x.win).take 16, oow := oow
             oowRun := if oow then satInc 16 x.oowRun else 0, inRun := inRun, vsArmed := x.vsArmed || inRun == 16 }

/-- VS_WINDOW (R77): 16 conversions in a row were out of window, and the source is armed. -/
def vsWindow (r : Nat) (s : State) : State :=
  if (s.rail r).oowRun = 16 ∧ (s.rail r).vsArmed = true then
    event Src.VS_WINDOW r (s.modRail r fun x => { x with vsArmed := false })
  else s

/-- A condition that stands after `n` in a row and clears after `m` in a row, judged now. -/
def Cond.judge (n m : Nat) (c : Cond) : Cond :=
  if !c.on && decide (n ≤ c.up) then { c with on := true, dn := 0 }
  else if c.on && decide (m ≤ c.dn) then { c with on := false, up := 0 } else c

/-- One more occurrence for or against a condition. -/
def Cond.count (beyond inside : Bool) (c : Cond) : Cond :=
  { c with up := if beyond then satInc 1000000 c.up else 0, dn := if inside then satInc 1000000 c.dn else 0 }

/-- What follows when a channel has become failed: feed-forward lost (R23), observers stop (R225, R227). -/
def channelFailed (s : State) : State := obsCheck (ffLose s)

/-- VS_RANGE (R79). -/
def vsRange (r : Nat) (s : State) : State :=
  let c := (s.rail r).vsRange.judge 4 4
  let s := s.modRail r fun x => { x with vsRange := c }
  channelFailed (setCond Src.VS_RANGE r c.on s)

/-- VS_FAIL (R79). -/
def vsFail (r : Nat) (s : State) : State :=
  let c := (s.rail r).vsFail.judge 8 8
  let s := s.modRail r fun x => { x with vsFail := c }
  channelFailed (setCond Src.VS_FAIL r c.on s)

/-- Code of the fast overvoltage comparator's DAC for RAIL_OVP.FOV (R80, R240). -/
def ovCode (s : State) (r : Nat) : Nat :=
  (clampI 0 0x3FF (roundAway (pu (fld (s.rr r Reg.RAIL_OVP) 15 0) * bf (s.rr r Reg.RAIL_VSCALE) / (8 / 5) * 1024))).toNat

/-- The DAC of the fast overvoltage comparator takes a new code at a frame edge (R80, R240). (DEDUCED, log entry 119) -/
def ovFrame (r : Nat) (s : State) : State :=
  let c := ovCode s r
  s.modRail r fun x => { x with ovOld := x.ovDac, ovDac := c }

/-- A comparator with hysteresis: its output at a voltage, given the output before (R80, R85). -/
def comparator (hi lo : Rat) (before : Bool) (v : Rat) : Bool := decide (hi < v) || (before && !decide (v < lo))

/-- ABSOLUTE_CONVERSION of a channel (R78, R79), with the DAC that follows it (R75) and the PREBIAS average (R175). (DEDUCED, log entry 23; DESIGN CHOICE, log entry 111) -/
def absConversion (r code : Nat) (cm : Bool) (s : State) : State :=
  let v : Rat := (code : Rat) * (1.6 / 16384)
  let vabs := scaledPU s v (s.rr r Reg.RAIL_VSCALE)
  let s := s.modRail r fun x =>
    let bad := code == 0x3FFF || cm
    let follow := x.st == .off || x.st == .precheck || x.st == .prebias
    let fail := match x.win with
      | [] => x.vsFail
      | w :: _ => if w.oow then x.vsFail else
          let d := v - w.v
          let far := decide ((1.5625 : Rat) / 1000 < (if d < 0 then -d else d))
          x.vsFail.count far (!far)
    { x with vabs := vabs, vabsV := v, vabsValid := true, vdac := if follow then min 65535 (code * 4) else x.vdac
             vsRange := x.vsRange.count bad (!bad), vsFail := fail
             pbSum := if x.st == .prebias && decide (x.pbN < 16) && !s.eng.haltReq then x.pbSum + vabs else x.pbSum
             pbN := if x.st == .prebias && !s.eng.haltReq then satInc 16 x.pbN else x.pbN }
  if vsFailed s r || code == 0x3FFF || cm then s
  else ffRestore r (s.modRail r fun x => { x with vOk := some vabs })

/-- Code of the reference DAC for the rail reference (R75). -/
def vdacCode (s : State) (r : Nat) : Nat :=
  (clampI 0 65535 (roundAway (pu (refCode s r) * bf (s.rr r Reg.RAIL_VSCALE) / (8 / 5) * 65536))).toNat

/-- VOLTAGE_MEASUREMENT_END (R75, R77, R89, R90, R198): the measurement that is due in this frame. What the update it triggers
starts with is latched here: the reference, its DAC code, and the grid angle. (DEDUCED, log entry 52) -/
def voltageMeasurementEnd (r : Nat) (s : State) : State :=
  let n := fld (s.rr r Reg.RAIL_VSAMP) 19 16 + 1
  let used := (s.rail r).win.take n
  match voltageDue s r with
  | none => s
  | some t =>
    if !sensing s || used.length < n || nextCnt s ≤ t then s else
    let sub := used.countP (·.oow)
    let mean := sumR (used.map fun w => if w.oow then w.abs else w.v) / (n : Rat)
    let v := scaledPU s mean (s.rr r Reg.RAIL_VSCALE)
    let run := ctxActive s r
    let s := s.modRail r fun x =>
      { x with vloop := v, oowCnt := satAdd 0xFFFF x.oowCnt sub, vmN := x.vmN + 1, vmAt := t, uRef := refCode s r, uAng := angAt s (cksOf t)
               vdac := if run then vdacCode s r else x.vdac }
    triggerV (cksOf t) r (perf 0x25 r sub s)

/-! ### Current sensing (R81-R83, R86-R88) -/

/-- Converter step in volts of the phase's range (R81). -/
def iStep (s : State) (p : Nat) : Rat :=
  match fld (s.pr p Reg.PH_ISENSE) 17 16 with
  | 0 => 0.04 / 2048
  | 1 => 0.16 / 2048
  | _ => 0.8 / 2048

/-- Threshold step in volts of the fast current comparator of the phase's range (R81). -/
def cmpStep (s : State) (p : Nat) : Rat :=
  match fld (s.pr p Reg.PH_ISENSE) 17 16 with
  | 0 => 0.04 / 256
  | 1 => 0.16 / 256
  | _ => 0.8 / 256

/-- Threshold code of the switch-node comparator (R85): the short check's in PRECHECK, else PH_SWSTHR.DT. -/
def swsCode (s : State) (p : Nat) : Nat :=
  let own := fld (s.pr p Reg.PH_SWSTHR) 5 0
  match railOf s p with
  | none => own
  | some r => if (s.rail r).st == .precheck then (s.rail r).sccode else own

/-- The switch-node comparator at a voltage of SWSn, given its output before (R85): 25 mV a code, hysteresis centred on it. -/
def swsOut (code : Nat) (before : Bool) (v : Rat) : Bool :=
  comparator ((code : Rat) / 40 + Config.vSwsh / 2) ((code : Rat) / 40 - Config.vSwsh / 2) before v

/-- PH_IOFS.OFS: 0 with OFSCAL = 0 (R83). -/
def iofsOf (s : State) (p : Nat) : Int := if bit (s.pr p Reg.PH_ISENSE) 0 then (s.ph p).iofs else 0

/-- Current of an exact code in SPU16 (R82). -/
def iCode (s : State) (p : Nat) (c : Rat) : Int :=
  scaledSPU s ((c - (iofsOf s p : Rat)) * iStep s p) (s.pr p Reg.PH_ISCALE)

/-- Every conversion counts toward IS_RANGE (R82). -/
def isRange (p : Nat) (c : Int) (s : State) : State :=
  if c = -2048 ∨ c = 2047 then
    if (s.ph p).isArmed then event Src.IS_RANGE p (s.modPh p fun x => { x with isArmed := false, isIn := 0 })
    else s.modPh p fun x => { x with isIn := 0 }
  else s.modPh p fun x =>
    let n := satInc 64 x.isIn
    { x with isIn := n, isArmed := x.isArmed || n == 64 }

/-- High-side on-time C of a compare in CNT (R87). -/
def onTime (cmp per : Nat) : Nat := if cmp = 0x3FFFFF then per else cmp / 64

/-- Control-sample target of the present period, none under AVG (R87). (DESIGN CHOICE, log entry 143) -/
def sampleTargetOf (x : Phase) : Option Nat :=
  let c := onTime x.gen.curCmp x.gen.curPer
  let p := x.gen.curPer
  match x.smode with
  | 0 => some (if x.gen.curCmp = 0 then p / 2 else c / 2)
  | 1 => some (if c = p then p / 2 else (c + p) / 2)
  | 2 => some (min x.sfixed (p - 8))
  | _ => none

/-- CONTROL_CONVERSION_START (R88, R92): at the first CKS edge at which the published count is at or beyond the target minus LEAD.
Its sample ends four CKS cycles later, the pace of the converter (R83, R88). (DEDUCED, log entry 120) -/
def controlConversionStart (p count : Nat) (s : State) : State :=
  let x := s.ph p
  match sampleTargetOf x with
  | none => s
  | some t =>
    if !sensing s || !counts s p || !x.gen.going || x.sampled || decide (count < t - x.slead) || decide (t - x.slead + 8 ≤ count)
        || decide ((x.gen.org + count) % 8 ≠ 0) || decide (x.gen.curPer ≤ count) || decide (nextCnt s ≤ x.gen.org + count) then s
    else s.modPh p fun x => { x with sampled := true, converting := true, convAt := (x.gen.org + count) / 8 + 4 }

/-- A phase drives as the rail commands RUN: in RUN, or in STBY with RUN commanded (R126, R129). -/
def runsNow (s : State) (p : Nat) : Bool :=
  (s.ph p).gen.going && !(s.ph p).gen.hold && (gst s p == .run || gst s p == .stby)

/-- The terminal voltages V_ind and V_br of the observer, in the rail's pu (R225). -/
def obsVolts (s : State) (r : Nat) : Rat × Rat :=
  let own := pu (s.rail r).vloop
  if ownInd s r then (own, otherPu s r) else (otherPu s r, own)

/-- Share of the present period for which the high side conducts, as far as it is decided (R225). -/
def hiShare (s : State) (p : Nat) : Rat :=
  let per := (s.ph p).gen.curPer
  (conduction (outputs s p).1 per : Rat) / ((per * 64 : Nat) : Rat)

/-- The observer's law (R225, R226): estimate, residual and count after a step. -/
def obsLaw (s : State) (p r : Nat) (o : ObsIn) (h : Rat) : Int × Int × Nat :=
  let sg : Rat := if topo s r = 1 then -1 else 1
  let pred := (o.est : Rat) + bf (pmOf s p 2) * sg * (h * o.vb - o.vi) * 4194304
  let res := (o.meas : Rat) * 256 - pred
  let lim : Rat := ((fld (pmOf s p 4) 15 0 : Nat) : Rat) * 256
  let est := if o.dead then pred else pred + res / ((2 ^ fld (pmOf s p 3) 27 24 : Nat) : Rat)
  (clampI (-8388608) 8388607 (roundAway est), clampI (-32768) 32767 (roundAway (res / 256)),
   if lim < (if res < 0 then -res else res) then satInc 255 o.ncnt else 0)

/-- The observer step of the present period with the conduction as it now stands: a later end of a pulse changes it (R225, R238). (DESIGN CHOICE, log entry 133) -/
def obsRedo (p : Nat) (s : State) : State :=
  match railOf s p, (s.ph p).obs with
  | some r, some o =>
    if !(s.ph p).seeded then s else
    let h := hiShare s p
    let a := obsLaw s p r o o.h
    let b := obsLaw s p r o h
    s.modPh p fun x => { x with oest := clampI (-8388608) 8388607 (x.oest + b.1 - a.1), ores := b.2.1, ncnt := b.2.2
                                obs := some { o with h := h } }
  | _, _ => s

/-- OBSERVER_STEP (R225, R226) at a control sample. (DEDUCED, log entry 28; DESIGN CHOICE, log entry 133) -/
def observerStep (p : Nat) (s : State) : State :=
  match railOf s p with
  | none => s
  | some r =>
    let s := obsCheck1 p s
    if !obsCan s p || !runsNow s p then s.modPh p fun x => { x with ncnt := 0, seeded := false, obs := none } else
    let x := s.ph p
    if !x.seeded then s.modPh p fun x => { x with oest := x.isamp * 256, seeded := true, ncnt := 0, obs := none } else
    let v := obsVolts s r
    let o : ObsIn := ⟨x.oest, x.ncnt, x.isamp, v.1, v.2, x.est, hiShare s p⟩
    let y := obsLaw s p r o o.h
    s.modPh p fun x => { x with oest := y.1, ores := y.2.1, ncnt := y.2.2, obs := some o }

/-- CONTROL_CONVERSION_END (R82, R88, R139, R225). -/
def controlConversionEnd (p : Nat) (c : Int) (s : State) : State :=
  if !sensing s || !(s.ph p).converting || !counts s p then s else
  let i := iCode s p (c : Rat)
  let s := s.modPh p fun x => { x with converting := false, isamp := i, ilast := i }
  triggerI (s.ph p).convAt p (observerStep p (isRange p c s))

/-- FREE_RUNNING_CONVERSION (R82, R87, R88). -/
def freeRunning (p : Nat) (c : Int) (s : State) : State :=
  if !sensing s || (s.ph p).converting then s else
  let i := iCode s p (c : Rat)
  let on := counts s p && (s.ph p).gen.going
  isRange p c (s.modPh p fun x =>
    { x with ilast := i, frSum := if on then x.frSum + c else x.frSum, frN := if on then x.frN + 1 else x.frN
             avSum := if on then x.avSum + c else x.avSum, avN := if on then x.avN + 1 else x.avN })

/-- OFFSET_MEASUREMENT (R83): the mean of the conversions of a phase whose rail is in PRECHECK. -/
def offsetMeasurement (p : Nat) (codes : List Int) (s : State) : State :=
  match railOf s p with
  | none => s
  | some r =>
    if !sensing s || (s.rail r).st != .precheck || !(s.rail r).ofsLeft.contains p || codes.isEmpty then s else
    let s := codes.foldl (fun s c => isRange p c s) s
    let m := roundAway ((sumI codes : Rat) / (codes.length : Rat))
    let s := (s.modPh p fun x => { x with iofs := m }).modRail r fun x => { x with ofsLeft := x.ofsLeft.filter (· != p) }
    setCond Src.IS_OFFSET p (decide (64 < m.natAbs)) s

/-! ### Auxiliary converter (R94, R95) -/

/-- The slots of one round: the enabled AUX channels, then die temperature, VCORE, VANA, VIO. -/
def auxRound (s : State) : List Nat := bitsOf 16 (fld (s.pg Pg.SAMP Reg.SAMP_AUXEN) 15 0) ++ [16, 17, 18, 19]

/-- One slot's result (R94, R95, R248, R297). -/
def auxSlot (slot v : Nat) (s : State) : State :=
  if slot < 16 then
    let raw := v % 16384
    let val := scaledPU s ((raw : Rat) * (1.6 / 16384)) (s.pg Pg.SAMP (Reg.SAMP_AUXSCALE + slot))
    let full := raw == 0x3FFF
    let a := s.aux
    let s := { s with aux := { a with raw := a.raw.set slot raw, val := a.val.set slot val
                                      range := a.range.set slot ((a.range.getD slot Cond.init).count full (!full)) } }
    if auxFailed s slot || full then s
    else ffRestore (16 + slot) { s with aux := { s.aux with ok := s.aux.ok.set slot (some val) } }
  else if slot = 16 then
    let t := s16 v
    let a := s.aux
    { s with aux := { a with tdie := t, dieWarn := a.dieWarn.count (decide (0x3E80 ≤ t)) (decide (t < 0x3C00))
                             dieShut := a.dieShut.count (decide (0x4600 ≤ t)) (decide (t < 0x3E80)) } }
  else
    let k := slot - 17
    let a := s.aux
    let tol := if k = 0 then 3 else if k = 1 then 5 else 10
    let bad := decide (v * 100 < (100 - tol) * 16384) || decide ((100 + tol) * 16384 < v * 100)
    { s with aux := { a with vcore := if k = 0 then v else a.vcore, vana := if k = 1 then v else a.vana
                             vio := if k = 2 then v else a.vio
                             supply := a.supply.set k ((a.supply.getD k Cond.init).count bad (!bad)) } }

/-- The next round takes its channels as the one before it ends (R94). -/
def nextRound (s : State) : State := { s with aux := { s.aux with round := auxRound s } }

/-- AUX_CONVERSION (R94): the next slot of the round completes; a round that has ended is followed by a new one at once. -/
def auxConversion (v : Nat) (s : State) : State :=
  if !sensing s then s else
  match (match s.aux.round with | [] => auxRound s | l => l) with
  | [] => s
  | slot :: rest =>
    let s := auxSlot slot v { s with aux := { s.aux with round := rest } }
    if rest.isEmpty then nextRound s else s

/-- AUX_RANGE (R95). -/
def auxRange (n : Nat) (s : State) : State :=
  let c := (s.aux.range.getD n Cond.init).judge 4 4
  let s := { s with aux := { s.aux with range := s.aux.range.set n c } }
  channelFailed (setCond Src.AUX_RANGE n c.on s)

/-- A conversion of the internal 1.2 V reference lies within ±0.5 % (R95): code 12288 of the 1.6 V span. -/
def sarGood (code : Nat) : Bool := decide (12288 * 995 ≤ code * 1000) && decide (code * 1000 ≤ 12288 * 1005)

/-- SAR_SELF_CHECK (R95). -/
def sarSelfCheck (code : Nat) (s : State) : State :=
  if !sensing s then s else
  let ok := sarGood code
  let c := (s.aux.sarSelf.count (!ok) ok).judge 2 2
  let s := { s with aux := { s.aux with sarSelf := c } }
  channelFailed (setCond Src.SAR_SELF 0 c.on s)

/-! ### Setpoint inputs (R96, R97) -/

/-- SPA_CONVERSION (R96). (DESIGN CHOICE, log entry 26) -/
def spaConversion (n raw : Nat) (s : State) : State :=
  if !sensing s then s else
  let c := s.pg Pg.SETIN (Reg.SETIN_SPA_CFG + n)
  let hist := (raw :: (s.spa.getD n ⟨[], 0⟩).hist).take 128
  let used := hist.take (2 ^ fld c 26 24)
  let v := (sumN used : Rat) / (used.length : Rat) * (1.6 / 16384)
  let ofs := puI (s16 (fld (s.pg Pg.SETIN (Reg.SETIN_SPA_OFS + n)) 15 0))
  let s := { s with spa := s.spa.set n ⟨hist, toPU16 (ofs + bf (setFld c 31 24 0) * v)⟩ }
  if raw = 0x3FFF then event Src.SPA_RANGE n s else s

/-- The glitch filter of a pulse input (R97): a level of less than `g` CNT does not end the level before it. -/
def deglitch (g : Nat) (runs : List (Bool × Nat)) : List (Bool × Nat) :=
  (runs.foldl (fun acc x =>
    match acc with
    | [] => [x]
    | (l, n) :: rest => if x.1 == l || decide (x.2 < g) then (l, n + x.2) :: rest else x :: acc) [(false, 0)]).reverse

/-- One carrier period in CNT, and its high time, of the levels of the pin from a rising edge to the next; none where the filter
leaves no single period (R97). -/
def sppPeriod (g : Nat) (runs : List (Bool × Nat)) : Option (Nat × Nat) :=
  match deglitch g runs with
  | [(_, 0), (true, h), (false, l)] => some (h + l, h)
  | _ => none

/-- SPP_PERIOD_MEASURED (R97): a valid period updates the setpoint and ends a loss; an invalid one is discarded. -/
def sppPeriodMeasured (n : Nat) (runs : List (Bool × Nat)) (s : State) : State :=
  if !sensing s then s else
  match sppPeriod (8 * fld (s.pg Pg.SETIN (Reg.SETIN_SPP_CFG + n)) 27 24) runs with
  | none => s
  | some (period, high) =>
  let x := s.spp.getD n ⟨0, 0, 0, 0, false⟩
  if 4000 ≤ period ∧ period ≤ 400000 then
    let d := (high : Rat) / (period : Rat)
    let c := s.pg Pg.SETIN (Reg.SETIN_SPP_CFG + n)
    let ofs := puI (s16 (fld (s.pg Pg.SETIN (Reg.SETIN_SPP_OFS + n)) 15 0))
    let s := { s with spp := s.spp.set n ⟨toPU16 d, toPU16 (ofs + bf (setFld c 31 24 0) * d), 0, 0, false⟩ }
    setCond Src.SPP_LOSS n false s
  else { s with spp := s.spp.set n { x with bad := satInc 4 x.bad, quiet := 0 } }

/-- No edge for `tout` frames (R97): none since the latest measured period that long ago, or, where the levels since it hold an edge
that the filter lets pass, none after the last of them. The period's own rise comes before those levels: levels that begin low and
then rise hold an edge, levels that begin high hold their first one where they fall. -/
def sppQuiet (g tout quiet : Nat) (levels : List (Bool × Nat)) : Bool :=
  decide (tout ≤ quiet) &&
  (match (deglitch g levels).reverse with
   | (_, n) :: _ :: _ :: _ => decide (400 * tout ≤ n)
   | [(_, n), (_, low)] => low == 0 || decide (400 * tout ≤ n)
   | _ => true)

/-- SPP_LOSS (R97): 4 invalid periods in a row, or no edge for TOUT frames, on an enabled input. (DEDUCED, log entry 27) -/
def sppLoss (n : Nat) (levels : List (Bool × Nat)) (s : State) : State :=
  let x := s.spp.getD n ⟨0, 0, 0, 0, false⟩
  let c := s.pg Pg.SETIN (Reg.SETIN_SPP_CFG + n)
  if bit c 31 && !x.loss
      && (decide (4 ≤ x.bad)
          || sppQuiet (8 * fld c 27 24) (fld (s.pg Pg.SETIN (Reg.SETIN_SPP_OFS + n)) 31 16) x.quiet levels) then
    setCond Src.SPP_LOSS n true { s with spp := s.spp.set n { x with loss := true } }
  else s

/-- The frame's part of the sensing front end: absolute conversions (R78), frames without a pulse edge (R97). -/
def tickSense (abs : List (BitVec 14)) (cm : List Bool) (s : State) : State :=
  if !sensing s then s else
  let s := loop 16 (fun s r => absConversion r (abs.getD r 0).toNat (cm.getD r false) (ovFrame r s)) s
  { s with spp := s.spp.map fun x => { x with quiet := satInc 65535 x.quiet } }

/-! ### Meanings -/

/-- WINDOW_CONVERSION (R76). -/
def execWindowConversion (r : Fin 16) (w : BitVec 10) (s : State) : Host.Outcome State Fault Refusal :=
  .next (clocked (windowConversion r w.toInt) s.begin)
/-- VS_WINDOW (R77). -/
def execVsWindow (r : Fin 16) (s : State) : Host.Outcome State Fault Refusal := .next (clocked (vsWindow r) s.begin)
/-- VS_RANGE (R79). -/
def execVsRange (r : Fin 16) (s : State) : Host.Outcome State Fault Refusal := .next (clocked (vsRange r) s.begin)
/-- VS_FAIL (R79). -/
def execVsFail (r : Fin 16) (s : State) : Host.Outcome State Fault Refusal := .next (clocked (vsFail r) s.begin)
/-- VOLTAGE_MEASUREMENT_END (R90). -/
def execVoltageMeasurementEnd (r : Fin 16) (s : State) : Host.Outcome State Fault Refusal :=
  .next (clocked (voltageMeasurementEnd r) (s.begin none (voltageDue s r)))
/-- CONTROL_CONVERSION_START (R88). -/
def execControlConversionStart (p : Fin 48) (count : Nat) (s : State) : Host.Outcome State Fault Refusal :=
  .next (clocked (controlConversionStart p count) (s.begin none (some ((s.ph p).gen.org + count))))
/-- CONTROL_CONVERSION_END (R139). -/
def execControlConversionEnd (p : Fin 48) (code : BitVec 12) (s : State) : Host.Outcome State Fault Refusal :=
  .next (clocked (controlConversionEnd p code.toInt) (s.begin none (some (8 * (s.ph p).convAt))))
/-- FREE_RUNNING_CONVERSION (R88). -/
def execFreeRunningConversion (p : Fin 48) (code : BitVec 12) (s : State) : Host.Outcome State Fault Refusal :=
  .next (clocked (freeRunning p code.toInt) s.begin)
/-- OFFSET_MEASUREMENT (R83). -/
def execOffsetMeasurement (p : Fin 48) (codes : List (BitVec 12)) (s : State) : Host.Outcome State Fault Refusal :=
  .next (clocked (offsetMeasurement p (codes.map (·.toInt))) s.begin)
/-- AUX_CONVERSION (R94). -/
def execAuxConversion (v : BitVec 16) (s : State) : Host.Outcome State Fault Refusal := .next (clocked (auxConversion v.toNat) s.begin)
/-- AUX_RANGE (R95). -/
def execAuxRange (n : Fin 16) (s : State) : Host.Outcome State Fault Refusal := .next (clocked (auxRange n) s.begin)
/-- SAR_SELF_CHECK (R95). -/
def execSarSelfCheck (code : BitVec 14) (s : State) : Host.Outcome State Fault Refusal :=
  .next (clocked (sarSelfCheck code.toNat) s.begin)
/-- SPA_CONVERSION (R96). -/
def execSpaConversion (n : Fin 4) (raw : BitVec 14) (s : State) : Host.Outcome State Fault Refusal :=
  .next (clocked (spaConversion n raw.toNat) s.begin)
/-- SPP_PERIOD_MEASURED (R97). -/
def execSppPeriodMeasured (n : Fin 4) (high : Nat) (rest : List (Bool × Nat)) (s : State) : Host.Outcome State Fault Refusal :=
  .next (clocked (sppPeriodMeasured n ((true, high) :: rest)) s.begin)
/-- SPP_LOSS (R97). -/
def execSppLoss (n : Fin 4) (s : State) (levels : List (Bool × Nat) := []) : Host.Outcome State Fault Refusal :=
  .next (clocked (sppLoss n levels) s.begin)

end Sys2Proof.Machine
end

