-- ==== Sys2Proof/Machine/Pwm.lean ====
section
/-! DEFINITION. Machine/Pwm.lean: the phase PWM generators (R107-R137): period boundary, waveform, dead time, shadow transfer,
start from rest, delay-line calibration, trips; the cycle-by-cycle limit (R233-R239). -/

namespace Sys2Proof.Machine

/-! ### Waveform of one period (R109-R113) -/

/-- What an output carries over a boundary at which its side stays active (R113): its rise in the new period, none when it is high
already, and how long before the boundary it rose. `r` is the rise in the period of `e` FINE that ends, none when it rose `old`
before that period. -/
def carryOver (r : Option Nat) (old e : Nat) : Option Nat × Nat :=
  match r with
  | none => (none, old + e)
  | some t => if e < t then (some (t - e), 0) else (none, e - t)

/-- The rise of the side that is active at the end of a period: that of its pulse; where the pulse was omitted inside the period,
the rise it has as part of a pulse that continues (R113). -/
def lastRise (was : Pin) (rise : Nat) : Option Nat :=
  match was with
  | .pulse r _ => r
  | .two _ _ again _ => some again
  | _ => some rise

/-- A pulse that continues over the boundary to `fall`: neither omitted nor shortened (R113). Where its side is active to the period's
end (`on`), a rising-edge delay that has not ended by then runs on. -/
def contPulse (rise : Option Nat) (fall : Nat) (on : Bool) : Pin :=
  match rise with
  | some r => if fall ≤ r then (if on then .pulse rise none else .low) else .pulse rise (some fall)
  | none => .pulse none (some fall)

/-- A pulse from `rise` to `fall` in FINE; omitted where its length is not positive or below MINPW (R112). -/
def pulseOrLow (minpw rise fall : Nat) (open_ : Bool) : Pin :=
  if fall ≤ rise ∨ fall - rise < minpw * 64 then .low else .pulse (some rise) (if open_ then none else some fall)

/-- The outputs of a period, the side active at its end, and how long before its begin an output that continues rose. -/
structure Wave where
  h : Pin
  l : Pin
  endHigh : Bool
  riseH : Nat
  riseL : Nat

/-- The two outputs of a period, from the period before (R110-R113, R236). `prev` tells that the period before ran. An output
continues over the boundary next to a 0 % or 100 % period, and the high side's after its rise followed an ended low side. (DEDUCED, log entry 32) -/
def waveform (g : Gen) (prev : Bool) (cmp per dth dtl minpw : Nat) (fine : Bool) : Wave :=
  let e := per * 64
  let next := special cmp || special g.curCmp
  let pt := place1 fine
  let c := pt cmp
  let keepH := prev && g.endHigh && cmp != 0 && (next || g.lowCut)
  let keepL := prev && !g.endHigh && !g.lowCut && cmp == 0
  let ch := carryOver (lastRise g.hpin (pt g.dthNow)) g.riseH (g.curPer * 64)
  let cl := carryOver (lastRise g.lpin (pt (g.lowAt + g.dtlNow))) g.riseL (g.curPer * 64)
  let h : Pin :=
    if cmp = 0 then .low
    else if cmp = 0x3FFFFF then (if keepH then .pulse ch.1 none else .pulse (some (pt dth)) none)
    else if keepH then contPulse ch.1 c (cmp == e) else pulseOrLow minpw (pt dth) c false
  let l : Pin :=
    if cmp = 0x3FFFFF then .low
    else if cmp = 0 then (if keepL then .pulse cl.1 none else .pulse (some (pt dtl)) none)
    else pulseOrLow minpw (pt (cmp + dtl)) e true
  ⟨h, l, cmp == 0x3FFFFF || cmp == e, if keepH then ch.2 else 0, if keepL then cl.2 else 0⟩

/-! ### Dead time (R114-R116) -/

/-- The time in FINE of the switch-node comparator's first transition in the commutating direction, of the node's voltages at times
from the un-delayed falling edge (R85, R114). -/
def crossing (code : Nat) (up : Bool) : List (Nat × Rat) → Option Nat
  | [] => none
  | (t, v) :: rest => if swsOut code (!up) v == up then some t else crossing code up rest

/-- One trim of an adapted edge: delay, hard flag, misses, and whether 0x39 is raised (R115). -/
def trimEdge (dt : Nat) (hard : Bool) (miss : Nat) (tc : Option Nat) (target step nhard lo hi : Nat) :
    Nat × Bool × Nat × Bool :=
  let clamp (x : Int) : Nat := (clampI lo hi x).toNat
  match tc.filter (· < dt) with
  | some t =>
    let diode := dt - t
    let d : Int := if target < diode then dt - (min step (diode - target) : Nat)
      else if diode < target then dt + (min step (target - diode) : Nat) else dt
    (clamp d, false, 0, false)
  | none =>
    if !hard then (clamp (dt + step), decide (nhard ≤ miss + 1), miss + 1, decide (nhard ≤ miss + 1))
    else (clamp ((dt : Int) - step), true, miss, false)

/-- Both pulses of the period are emitted and neither is truncated (R114). -/
def bothWhole (s : State) (p : Nat) : Bool :=
  (s.ph p).gen.whole && (match outputs s p with | (.pulse _ (some _), .pulse (some _) _) => true | _ => false)

/-- The trims of both edges of the period that ends, if both pulses were emitted and neither truncated (R114, R115). (DESIGN CHOICE, log entry 127) -/
def trimPeriod (p : Nat) (nodeH nodeL : List (Nat × Rat)) (s : State) : State :=
  let tcH := crossing (swsCode s p) true nodeH
  let tcL := crossing (swsCode s p) false nodeL
  let g := (s.ph p).gen
  if !(bothWhole s p && runsNow s p) then s else
  let c := g.dtCfg
  let target := fld c 13 0
  let step := fld c 21 16
  let nhard := fld c 27 24
  let (dh, hh, mh, rh) := if g.adH then trimEdge g.dth g.hardH g.missH tcH target step nhard (fld g.dtMin 29 16) (fld g.dtMax 29 16)
    else (g.dth, g.hardH, g.missH, false)
  let (dl, hl, ml, rl) := if g.adL then trimEdge g.dtl g.hardL g.missL tcL target step nhard (fld g.dtMin 13 0) (fld g.dtMax 13 0)
    else (g.dtl, g.hardL, g.missL, false)
  let s := s.modGen p fun g => { g with dth := dh, hardH := hh, missH := mh, dtl := dl, hardL := hl, missL := ml }
  let s := if rh then event Src.PH_DT_HARD p s else s
  if rl then event Src.PH_DT_HARD p s else s

/-! ### A period begins (R107, R119-R125) -/

/-- An offset change taken modulo the period into (-P/2, P/2] (R120). -/
def wrapHalf (per : Nat) (d : Int) : Int :=
  let m := d % (per : Int)
  if (per : Int) < 2 * m then m - per else m

/-- The domain of a phase: its rail's, or PH_CFG.DOM in manual duty mode (R27). -/
def domOfPh (s : State) (p : Nat) : Nat :=
  match railOf s p with
  | some r => domOf s r
  | none => fld (s.pr p Reg.PH_CFG) 9 8

/-- One edge's delay at a boundary: its adaptation goes on, starts from the clamped delay, or ends (R116). -/
def edgeDelay (was now : Bool) (dt set lo hi : Nat) : Nat :=
  if now then (if was then dt else (clampI lo hi dt).toNat) else set

/-- A period begins at `org`: pending sets transfer as a whole (R121, R122, R125), offsets blend (R120), a standby's count is aligned
(R312), the delays, the sample rule and the registers of the period are fixed, and its outputs follow. (DEDUCED, log entry 33; DESIGN CHOICE, log entry 126; DESIGN CHOICE, log entry 128) -/
def startPeriod (first : Bool) (org p : Nat) (s : State) : State :=
  let x := s.ph p
  let g := x.gen
  let prev := !first && runsNow s p
  let set := nextSet s p
  let joined := x.joining && g.eset.isSome
  let hold := nextHold s p
  let drip := dripPh s p
  let cmp0 := nextCmp s p
  let lim : Int := (((set.per + 2047) / 2048 : Nat) : Int)
  let err : Int := s.twin.phAdj.getD p 0
  let adj : Int := if first then 0 else clampI (-lim) lim err
  let d : Int := if first then 0 else wrapHalf set.per ((set.ofs : Int) - g.act.ofs)
  let per := ((set.per : Int) + d + adj).toNat
  let cmp : Nat := if cmp0 = 0 ∨ cmp0 = 0x3FFFFF then cmp0
    else if per = set.per then cmp0 else (roundAway (((cmp0 * per : Nat) : Rat) / ((set.per : Nat) : Rat))).toNat
  let dtCfg := s.pr p Reg.PH_DTCFG
  let dtMin := s.pr p Reg.PH_DTMIN
  let dtMax := s.pr p Reg.PH_DTMAX
  let adH := bit dtCfg 31
  let adL := bit dtCfg 30
  let dth := edgeDelay g.adH adH g.dth set.dth (fld dtMin 29 16) (fld dtMax 29 16)
  let dtl := edgeDelay g.adL adL g.dtl set.dtl (fld dtMin 13 0) (fld dtMax 13 0)
  let fine := g.fine || g.dlok
  let minpw := fld (s.pr p Reg.PH_CTL) 31 24
  let w := if hold then ⟨.low, .low, false, 0, 0⟩ else waveform g prev cmp per dth dtl minpw fine
  let driving := if s.twin.leaving then false
    else g.driving || (s.dev.st == .active && decide ((s.dom (domOfPh s p)).drvRise + 400 ≤ org))
  let samp := s.pr p Reg.PH_SAMP
  let changed := set.per != g.act.per
  let s := s.modPh p fun x =>
    { x with smode := fld samp 31 30, slead := fld samp 23 16, sfixed := fld samp 15 0, sampled := false
             frSum := 0, frN := 0, avSum := 0, avN := 0, endF := false, endR := false, cbcCfg := s.pr p Reg.PH_CBC
             pmCfg := [Reg.PH_TRIM, Reg.PH_IMAX, Reg.PH_OBSK, Reg.PH_DETCFG, Reg.PH_OBSLIM, Reg.PH_OPENCFG].map (s.pr p)
             joining := x.joining && !joined, joinLead := if x.joining && !joined then x.joinLead else none
             seeded := x.seeded && !hold, obs := none
             gen := { g with count := min (nowCnt s - org) (per - 1), org := org, ref := none, act := set, curPer := per, curCmp := cmp
                             eset := none, ldpend := false, dth := dth
                             dtl := dtl, dthNow := dth, dtlNow := dtl, adH := adH, adL := adL, fine := fine, going := true
                             zHead := !g.driving && driving && s.twin.pst == .primary
                             tripHold := tripped s p, driving := driving, hold := hold, hpin := w.h, lpin := w.l, endHigh := w.endHigh
                             riseH := w.riseH, riseL := w.riseL, lowAt := cmp, lowCut := false, cut := 0
                             whole := !hold, dtCfg := dtCfg, dtMin := dtMin, dtMax := dtMax
                             hardH := g.hardH && adH, hardL := g.hardL && adL, missH := if adH then g.missH else 0
                             missL := if adL then g.missL else 0 } }
  let s := { s with twin := { s.twin with phAdj := s.twin.phAdj.set p (if first then 0 else err - adj) } }
  let s := obsCheck1 p s
  match railOf s p with
  | none => s
  | some r =>
    let s := if changed then s.modRail r fun x => { x with notchDue := true } else s
    let s := if changed && (s.rail r).st.running then redecimate r s else s
    if drip && hold then perf 0x26 r 1 s else s

/-! ### The lead phase's boundary (R89, R119, R214, R230) -/

/-- The phase whose boundary is the rail's reference boundary (R119): the lead phase in force; while that one stands, the lowest
ACTIVE phase that goes. -/
def beatOf (s : State) (r : Nat) : Option Nat :=
  match (leadOf s r).filter fun l => (s.ph l).gen.going with
  | some l => some l
  | none => (activeOf s r).find? fun q => (s.ph q).gen.going

/-- A phase of the rail waits for its reference instant, and the boundary of `p`, which is the reference boundary if `beat`, is it
(R119, R214). -/
def waitsFor (s : State) (beat : Bool) (p q : Nat) : Bool :=
  let x := s.ph q
  !x.gen.going && counts s q && x.gen.ref.isNone &&
    (if x.joining then x.gen.eset.isSome && (match x.joinLead with
       | some l => l == p || (beat && !(s.ph l).gen.going)
       | none => beat)
     else beat)

/-- What the boundary of phase `p` at `org` means to its rail: the lead phase changes to that of rank 0 where its offset is 0, and
where the old one stands to the lowest ACTIVE phase that goes; the grid of voltage measurements starts afresh with the lead phase's period; phases that wait take their reference. (DESIGN CHOICE, log entry 116) -/
def railBoundary (org p : Nat) (s : State) : State :=
  match railOf s p with
  | none => s
  | some r =>
    let beat := beatOf s r == some p
    let q := (phasesOf s r).filter (waitsFor s beat p)
    let old := leadOf s r
    let stands := match old with | some l => !(s.ph l).gen.going | none => true
    let takes := ((activeOf s r).head? == some p && (s.ph p).gen.act.ofs == 0)
      || (stands && ((activeOf s r).find? fun q => (s.ph q).gen.going) == some p)
    let s := if takes then s.modRail r fun x => { x with lead := some p } else s
    let s := if leadOf s r == some p then s.modRail r fun x => { x with vmN := 0 } else s
    refAll q.contains org s

/-- The open-phase test of the period that ends (R228). (DEDUCED, log entry 29) -/
def openTest (p : Nat) (s : State) : State :=
  match railOf s p with
  | none => s
  | some r =>
    let x := s.ph p
    let c := pmOf s p 3
    let o := pmOf s p 5
    let run := bit c 30 && !x.est && x.pst == .active && runsNow s p
    let fail := run && decide (pu (fld o 31 16) ≤ x.duty - dff s r) && decide (x.isamp.natAbs < fld o 15 0)
    s.modPh p fun x => { x with ocnt := if fail then satInc 255 x.ocnt else 0 }

/-- The period that ends is closed: IAVG (R88), an AVG sample (R87), ended pulses (R237), the open-phase test (R228), dead time
(R115). -/
def endPeriod (p : Nat) (nodeH nodeL : List (Nat × Rat)) (s : State) : State :=
  let s := obsRedo p (perf 0x20 p 1 s)
  let x := s.ph p
  let avg := if x.frN = 0 then x.iavg else iCode s p ((x.frSum : Rat) / (x.frN : Rat))
  let s := s.modPh p fun x => { x with iavg := avg }
  let s := if x.smode = 3 ∧ 0 < x.avN then
      let i := iCode s p ((x.avSum : Rat) / (x.avN : Rat))
      triggerI (cksOf (x.gen.org + x.gen.curPer)) p (observerStep p (s.modPh p fun x => { x with isamp := i }))
    else s
  let ended := x.endF || x.endR
  let s := s.modPh p fun x =>
    let q := if ended then 0 else satInc 1024 x.cbcQuiet
    { x with cbcAct := ended, cbcRun := if ended then satInc 0xFFFFFF x.cbcRun else 0, cbcQuiet := q
             cbcArmed := x.cbcArmed || q == 1024 }
  trimPeriod p nodeH nodeL (openTest p s)

/-- PERIOD_BOUNDARY (R107): the generator counts, has begun its first period, and its count reaches the active period. -/
def periodBoundary (p : Nat) (nodeH nodeL : List (Nat × Rat)) (s : State) : State :=
  let g := (s.ph p).gen
  if !counts s p || !g.going || s.dev.rst || decide (nextCnt s ≤ g.periodEnd) then s else
  let org := g.periodEnd
  handoverDone (railBoundary org p (startPeriod false org p (endPeriod p nodeH nodeL s)))

/-- GENERATOR_START (R119, R27, R128, R190, R214): the reference instant plus the offset of the set that transfers has come; a joining
phase has its first set, but where no phase of its rail goes. A standby's phase waits for its count instead (R312). -/
def generatorStart (p : Nat) (s : State) : State :=
  let x := s.ph p
  let g := x.gen
  let ofs := (nextSet s p).ofs
  match g.ref with
  | none => s
  | some t =>
    let early := x.joining && g.eset.isNone && !(match railOf s p with | some r => stranded s r | none => false)
    if !counts s p || g.going || s.dev.rst || isStandby s || early || decide (nextCnt s ≤ t + ofs) then s
    else railBoundary (t + ofs) p (startPeriod true (t + ofs) p s)

/-- DELAY_LINE_CALIBRATION (R117, R118). -/
def delayLineCalibration (p : Nat) (ok : Bool) (s : State) : State :=
  if s.dev.rst || s.dev.clkStop then s else
  setCond Src.PH_DLCAL p (!ok) (s.modGen p fun g => { g with dlok := ok })

/-! ### Trips (R131-R134) -/

/-- The fault source and address of a trip input (R133). -/
def tripSrc (n : Nat) : Nat × Nat := if n < 8 then (Src.TRIP_PIN0 + n, n) else (Src.TRIP_OVC, n - 8)

/-- A TRIPn ball is active (R131): its level, or where nothing drives it the inactive one of its pull (R446), against POL. With no
pull the ball floats. -/
def pinActive (s : State) (n k : Nat) (v : Pal) : Bool :=
  let pol := bit (s.pg Pg.TRIP (Reg.TRIP_CFG + n)) 30
  let level := match v with
    | .high => true
    | .low => false
    | .undriven => if bit (s.pg Pg.PIN Reg.PIN_FUNC2) n then pol else Config.floatLevel s.cyc (n + 24 * k)
  level != pol

/-- The fast overvoltage comparator under a DAC code, given its output before (R80). (DESIGN CHOICE, log entry 130) -/
def ovOut (code : Nat) (before : Bool) (v : Rat) : Bool :=
  comparator ((code : Rat) / 640) ((code : Rat) / 640 - Config.vOvh) before v

/-- A trip input at consecutive CKS edges (R131): the first `old` of a comparator's are seen under the code before the latest change. (DEDUCED, log entry 39; DESIGN CHOICE, log entry 130) -/
def tripLevels (s : State) (n : Nat) : TripWave → List Bool
  | .pin l => l.zipIdx.map fun x => pinActive s n x.2 x.1
  | .comp old vs =>
    ((vs.zipIdx.foldl (fun acc x =>
      ovOut (if x.2 < old then (s.rail (n - 8)).ovOld else (s.rail (n - 8)).ovDac) (acc.headD false) x.1 :: acc) [])).reverse

/-- The filter of an input accepts at the last of the edges (R131): active on FILT of them in a row; at once when FILT is 0. -/
def tripFiltered (s : State) (n : Nat) (levels : List Bool) : Bool :=
  let k := max 1 (fld (s.pg Pg.TRIP (Reg.TRIP_CFG + n)) 7 0)
  decide (k ≤ levels.length) && (levels.reverse.take k).all id

/-- TRIP_ACCEPT (R131-R133): the filter accepts, the latch is set, and every mapped phase is in high impedance at once. (DEDUCED, log entry 39) -/
def tripAccept (n : Nat) (wave : TripWave) (s : State) : State :=
  if s.dev.rst || s.dev.clkStop || s.dev.st == .boot || !bit (s.pg Pg.TRIP (Reg.TRIP_CFG + n)) 31
    || !tripFiltered s n (tripLevels s n wave) then s else
  let s := { s with tripLatch := s.tripLatch ||| 2 ^ n, tripRaw := s.tripRaw ||| 2 ^ n, tripCnt := s.tripCnt.set n 255 }
  let s := loop 48 (fun s p => if tripMaps s n p then
    s.modGen p fun g => { g with tripHold := counts s p && g.going, cut := s.dev.frame + 1, endHigh := false, whole := false }
    else s) s
  setCond (tripSrc n).1 (tripSrc n).2 true s

/-! ### Cycle-by-cycle limit (R233-R239) -/

/-- A guard is in force in the period (R233). -/
def guardOn (s : State) (p : Nat) (rev : Bool) : Bool :=
  let c := (s.ph p).cbcCfg
  let bidir := match railOf s p with | some r => topo s r == 2 | none => false
  bit c 31 && (!rev || bit c 30 || bidir)

/-- The guard protects the high side (R233). -/
def guardsHigh (s : State) (p : Nat) (rev : Bool) : Bool :=
  let boost := match railOf s p with | some r => topo s r == 1 | none => false
  if rev then boost else !boost

/-- The guard's output is high at `t` FINE and its blanking, which may have begun before the boundary, is over; not in the CKP cycle
of the ordinary edge (R235, R255). -/
def guardSees (x : Phase) (high : Bool) (t : Nat) : Bool :=
  let leb := fld x.cbcCfg 23 16 * 256
  (if high then x.gen.hpin else x.gen.lpin).pulses.any fun y =>
    decide (t / 64 < (y.2.getD (x.gen.curPer * 64)) / 64) && decide (t < x.gen.curPer * 64) &&
    (match y.1 with
     | none => decide (leb ≤ t + (if high then x.gen.riseH else x.gen.riseL))
     | some r => decide (r + leb ≤ t))

/-- The guard's comparator output at a sense voltage (R84, R233, R234): POS for the forward guard, NEG for the reverse one, at
THR × the step of the range. -/
def guardTrue (s : State) (p : Nat) (rev : Bool) (v : Rat) : Bool :=
  let vth := ((fld (s.ph p).cbcCfg 7 0 : Nat) : Rat) * cmpStep s p
  if rev then decide (v < -vth) else decide (vth < v)

/-- The pulse of an output that is high at `t` falls there. -/
def Pin.endAt (t : Nat) : Pin → Pin
  | .pulse r _ => .pulse r (some t)
  | .two r f a _ => .two r f a (some t)
  | .headZ x => .headZ (x.endAt t)
  | x => x

/-- An output that rises once more, at `t`, and stays high over the boundary. -/
def Pin.again (t : Nat) : Pin → Pin
  | .pulse r (some f) => .two r f t none
  | _ => .pulse (some t) none

/-- The pulse of a guarded output ends at `t`, and the other side's begins after its delay, unless its own guard ended it in the
period (R236). -/
def endPulse (minpw : Nat) (high : Bool) (t : Nat) (g : Gen) : Gen :=
  let e := g.curPer * 64
  if high then
    { g with hpin := g.hpin.endAt t, endHigh := false, whole := false, lowAt := t
             lpin := if g.lowCut then g.lpin else pulseOrLow minpw (place1 g.fine (t + g.dtlNow)) e true }
  else
    { g with lpin := g.lpin.endAt t, endHigh := true, whole := false, lowCut := true, hpin := g.hpin.again (place1 g.fine (t + g.dthNow)) }

/-- CBC_PULSE_END (R236, R237, R255): an output ended by its guard does not rise again in the period; where a trip or BRAKE has taken
the outputs in the same cycle the ended pulse is counted. (DEDUCED, log entry 40; DESIGN CHOICE, log entry 129) -/
def cbcPulseEnd (p : Nat) (rev : Bool) (t : Nat) (v : Rat) (s : State) : State :=
  let o := outputs s p
  let was := (s.ph p).gen
  let x : Phase := { s.ph p with gen := { was with hpin := o.1, lpin := o.2 } }
  let high := guardsHigh s p rev
  let late := x.gen.going && x.gen.cut == s.dev.frame + 1
  if s.dev.rst || !(runsNow s p || late) || !guardOn s p rev || !guardTrue s p rev v || (if rev then x.endR else x.endF)
    || !guardSees x high t then s else
  let other := if rev then x.endF else x.endR
  let s := s.modPh p fun x =>
    let g := endPulse (fld (s.pr p Reg.PH_CTL) 31 24) high t { was with hpin := o.1, lpin := o.2 }
    let g := if !high && other then { g with hpin := o.1, endHigh := false } else g
    { x with gen := if late then was else g, endF := x.endF || !rev, endR := x.endR || rev
             cbcFwd := if rev then x.cbcFwd else satInc 0xFFFF x.cbcFwd, cbcRev := if rev then satInc 0xFFFF x.cbcRev else x.cbcRev
             cbcArmed := false, cbcQuiet := 0 }
  let s := perf 0x21 p 1 (obsRedo p s)
  if x.cbcArmed then event Src.PH_CBC p s else s

/-! ### Phase failures (R226, R228) -/

/-- PH_SENSE_IMPL (R226): once for the rail's run. -/
def phSenseImpl (p : Nat) (s : State) : State :=
  if (s.ph p).senseRaised || decide ((s.ph p).ncnt < fld (pmOf s p 3) 23 16) || (railOf s p).isNone then s
  else event Src.PH_SENSE_IMPL p (s.modPh p fun x => { x with senseRaised := true })

/-- PH_OPEN (R228): once for the rail's run. -/
def phOpen (p : Nat) (s : State) : State :=
  if (s.ph p).openRaised || decide ((s.ph p).ocnt < fld (pmOf s p 3) 15 8) || (railOf s p).isNone then s
  else event Src.PH_OPEN p (s.modPh p fun x => { x with openRaised := true })

/-! ### Meanings -/

/-- PERIOD_BOUNDARY (R107). -/
def execPeriodBoundary (p : Fin 48) (nodeH nodeL : List (Nat × Rat)) (s : State) : Host.Outcome State Fault Refusal :=
  .next (clocked (periodBoundary p nodeH nodeL) (s.begin none (some (s.ph p).gen.periodEnd)))
/-- GENERATOR_START (R119). -/
def execGeneratorStart (p : Fin 48) (s : State) : Host.Outcome State Fault Refusal :=
  .next (clocked (generatorStart p) (s.begin none (startDue s p)))
/-- DELAY_LINE_CALIBRATION (R118). -/
def execDelayLineCalibration (p : Fin 48) (ok : Bool) (s : State) : Host.Outcome State Fault Refusal :=
  .next (clocked (delayLineCalibration p ok) s.begin)
/-- TRIP_ACCEPT (R132). -/
def execTripAccept (n : Fin 24) (s : State) (wave : TripWave := .pin []) : Host.Outcome State Fault Refusal :=
  .next (clocked (tripAccept n wave) s.begin)
/-- CBC_PULSE_END (R236). -/
def execCbcPulseEnd (p : Fin 48) (rev : Bool) (t : Nat) (s : State) (v : Rat := 0) : Host.Outcome State Fault Refusal :=
  .next (clocked (cbcPulseEnd p rev t v) s.begin)
/-- PH_SENSE_IMPL (R226). -/
def execPhSenseImpl (p : Fin 48) (s : State) : Host.Outcome State Fault Refusal := .next (clocked (phSenseImpl p) s.begin)
/-- PH_OPEN (R228). -/
def execPhOpen (p : Fin 48) (s : State) : Host.Outcome State Fault Refusal := .next (clocked (phOpen p) s.begin)

end Sys2Proof.Machine
end

