-- ==== Sys2Proof/Machine/Stage.lean ====
section
/-! DEFINITION. Machine/Stage.lean: the arithmetic of a context update (R53-R57, R148-R150, R155): state words, multiply and
accumulate, renormalisation, the laws of the stages, the preload of a hand-over. -/

namespace Sys2Proof.Machine

/-- A value that travels as a mantissa with its exponent: m × 2^(e - 25) (R53, R149). -/
structure Sig where
  m : Int
  e : Int
  deriving DecidableEq, Repr

/-- The value of a word. -/
def Sig.val (x : Sig) : Rat := (x.m : Rat) * pow2 (x.e - 25)

/-- Zero. -/
def Sig.zero : Sig := ⟨0, -32⟩

/-- An exact value as a normalised word of its own (R54, R55). (DESIGN CHOICE, log entry 121) -/
def sigOf (q : Rat) : Sig :=
  if q = 0 then Sig.zero else
  let l := floorLog2 (if q < 0 then -q else q) + 1
  let e0 : Int := if l < -32 then -32 else l
  let m := roundAway (q * pow2 (25 - e0))
  let r : Sig := if m.natAbs = 33554432 then ⟨m / 2, e0 + 1⟩ else ⟨m, e0⟩
  if 31 < r.e then ⟨clampI (-134217728) 134217727 (roundAway (q * pow2 (-6))), 31⟩ else r

/-- The coefficient 1.0. (DESIGN CHOICE, log entry 114) -/
def bfOne : Word := 0x400001

/-- The exact product of a word and a coefficient, as mantissa and exponent: p × 2^(x - 42) (R56). Codes of one value are
equivalent: the coefficient enters in its normalised form (R46). -/
def prod (x : Sig) (k : Word) : Int × Int := let c := toBF (bf k); (x.m * bfM c, x.e + bfE c)

/-- Products summed in the accumulator (R56): each aligned to the largest product exponent with its own rounding, 48 bits,
saturating. (DEDUCED, log entry 42) -/
def accumulate (ps : List (Int × Int)) (top : Int) : Int :=
  ps.foldl (fun a p => clampI (-140737488355328) 140737488355327 (a + shrAway p.1 (top - p.2).toNat)) 0

/-- The sum of products, rounded to a 28-bit mantissa at the exponent the block held before the update (R56). (DESIGN CHOICE, log entry 112) -/
def mac (e : Int) (xs : List (Sig × Word)) : Sig :=
  let ps := (xs.map fun x => prod x.1 x.2).filter fun p => p.1 != 0
  match ps with
  | [] => ⟨0, e⟩
  | p :: t =>
    let top := t.foldl (fun a q => if a < q.2 then q.2 else a) p.2
    let acc := accumulate ps top
    let sh := top - 17 - e
    let m := if 0 ≤ sh then acc * 2 ^ sh.toNat else shrAway acc (-sh).toNat
    ⟨clampI (-134217728) 134217727 m, e⟩

/-- The words of one update as a block: aligned exactly, then renormalised together (R54, R55). -/
def renorm (xs : List Sig) : Block :=
  match xs.filter fun x => x.m != 0 with
  | [] => Block.init
  | y :: t =>
    let e := t.foldl (fun a x => if x.e < a then x.e else a) y.e
    let ms := xs.map fun x => if x.m = 0 then 0 else x.m * 2 ^ (x.e - e).toNat
    let big := maxN (ms.map Int.natAbs)
    let s0 : Int := (Nat.log2 big : Int) - 24
    let s1 : Int := if 0 < s0 ∧ 33554432 ≤ (shrAway (big : Int) s0.toNat).natAbs then s0 + 1 else s0
    let s : Int := if 31 < e + s1 then 31 - e else if e + s1 < -32 then -32 - e else s1
    let out := ms.map fun m =>
      if 0 ≤ s then clampI (-134217728) 134217727 (shrAway m s.toNat) else m * 2 ^ (-s).toNat
    ⟨e + s, (out ++ List.replicate 8 0).take 8⟩

/-- Word `i` of a block. -/
def Block.word (b : Block) (i : Nat) : Sig := ⟨b.m.getD i 0, b.e⟩

/-- A stage's registers, as its bank holds them (R148, R150). -/
structure Stg where
  ty : Nat
  clamp : Bool
  pl : Bool
  k : List Word
  lmin : Int
  lmax : Int
  deriving DecidableEq, Repr

/-- Coefficient `i`. -/
def Stg.coef (g : Stg) (i : Nat) : Word := g.k.getD i 0

/-- A stage of a set, read from the registers at `base + 7 * i`. -/
def stgAt (rd : Nat → Word) (base i : Nat) : Stg :=
  let b := base + 7 * i
  let l := rd (b + 6)
  { ty := fld (rd b) 2 0, clamp := bit (rd b) 4, pl := bit (rd b) 5, k := (List.range 5).map fun j => rd (b + 1 + j)
    lmin := s16 (fld l 15 0), lmax := s16 (fld l 31 16) }

/-- The six stages of a set. -/
def stagesOf (rd : Nat → Word) (base : Nat) : List Stg := (List.range 6).map (stgAt rd base)

/-- The clamp of a stage (R150): a value that reaches a limit takes it exactly. -/
def Stg.limit (g : Stg) (x : Sig) : Sig :=
  if !g.clamp then x
  else if x.val < puI g.lmin then sigOf (puI g.lmin)
  else if puI g.lmax < x.val then sigOf (puI g.lmax) else x

/-- One stage's law, once (R148): the block after it, and its output. (DESIGN CHOICE, log entry 113) -/
def Stg.run (g : Stg) (b : Block) (x : Sig) : Block × Sig :=
  match g.ty with
  | 1 =>
    let i := g.limit (mac b.e [(b.word 0, bfOne), (x, g.coef 1)])
    (renorm [i], mac b.e [(x, g.coef 0), (i, bfOne)])
  | 2 =>
    let i := g.limit (mac b.e [(b.word 0, bfOne), (x, g.coef 1)])
    let x1 := b.word 2
    let d := mac b.e [(b.word 1, g.coef 3), (x, g.coef 2), (⟨-x1.m, x1.e⟩, g.coef 2)]
    (renorm [i, d, x], mac b.e [(x, g.coef 0), (i, bfOne), (d, bfOne)])
  | 3 =>
    let neg (w : Sig) : Sig := ⟨-w.m, w.e⟩
    let y := g.limit (mac b.e [(x, g.coef 0), (b.word 0, g.coef 1), (b.word 1, g.coef 2), (neg (b.word 2), g.coef 3),
      (neg (b.word 3), g.coef 4)])
    (renorm [x, b.word 0, y, b.word 2], y)
  | _ => (b, x)

/-- The stages in order (R149). -/
def runStages : List Stg → List Block → Sig → List Block × Sig
  | [], _, x => ([], x)
  | g :: gs, bs, x =>
    let r := g.run (bs.headD Block.init) x
    let t := runStages gs bs.tail r.2
    (r.1 :: t.1, t.2)

/-- DC gain of a stage that follows the preload stage (R155). -/
def Stg.dcGain (g : Stg) : Rat :=
  if g.ty = 3 then (bf (g.coef 0) + bf (g.coef 1) + bf (g.coef 2)) / (1 + bf (g.coef 3) + bf (g.coef 4)) else 1

/-- Stages after the preload stage in their steady state for their input (R155 step 3). -/
def steady : List Stg → Sig → List Block × Sig
  | [], x => ([], x)
  | g :: gs, x =>
    if g.ty = 3 then
      let y := g.limit (sigOf (x.val * g.dcGain))
      let t := steady gs y
      (renorm [x, x, y, y] :: t.1, t.2)
    else
      let t := steady gs x
      (Block.init :: t.1, t.2)

/-- A preload in place of an update (R155): the stages before the preload stage from zeroed states, then the integrator that
gives the output `u` (feed-forward terms already taken off), then the stages after it at rest. (DEDUCED, log entry 43) -/
def preloadStages : List Stg → Sig → Rat → List Block × Sig
  | [], x, _ => ([], x)
  | g :: gs, x, u =>
    if g.pl then
      let gain := gs.foldl (fun a h => a * h.dcGain) 1
      let v := u / gain
      let kx := bf (g.coef 0) * x.val
      let i := g.limit (sigOf (v - kx))
      let y := sigOf (kx + i.val)
      let t := steady gs y
      ((if g.ty = 2 then renorm [i, Sig.zero, x] else renorm [i]) :: t.1, t.2)
    else
      let r := g.run Block.init x
      let t := preloadStages gs r.2 u
      (r.1 :: t.1, t.2)

/-- The stage set of a context: its rail's active bank (R157). -/
def setOf (s : State) (c : Nat) : List Stg :=
  match ctxRail s c with
  | some r => stagesOf (s.actC r) (setBase c)
  | none => []

/-- The stage blocks of a context. -/
def blocksOf (s : State) (c : Nat) : List Block := (s.eng.ctx[c]?).getD []

/-- The state with the blocks of a context written. -/
def State.setCtx (s : State) (c : Nat) (bs : List Block) : State :=
  { s with eng := { s.eng with ctx := s.eng.ctx.setIfInBounds c bs } }

/-- One update of a context's stages with input `x`; a preload replaces it where `pl` gives the output it must have. -/
def runCtx (c : Nat) (pl : Option Rat) (x : Rat) (s : State) : State × Rat :=
  let r := match pl with
    | some u => preloadStages (setOf s c) (sigOf x) u
    | none => runStages (setOf s c) (blocksOf s c) (sigOf x)
  (s.setCtx c r.1, r.2.val)

end Sys2Proof.Machine
end

