-- ==== Sys2Proof/Machine/Trig.lean ====
section
/-! DEFINITION. Machine/Trig.lean: the real functions the rules name (R202, R257, R258, R260, R261), in binary fractions of
2^-96: sine and tangent, the argument of a complex number, logarithm and exponential, and the exact rounding of a root. -/

namespace Sys2Proof.Machine

/-- One, as a binary fraction. -/
def fixOne : Int := 79228162514264337593543950336

/-- π as a binary fraction, to the nearest 2^-96. -/
def fixPi : Int := 248902613312231085230521944622

/-- The natural logarithm of 2 as a binary fraction. -/
def fixLn2 : Int := 54916777467707473351141471128

/-- A rational as a binary fraction. -/
def toFix (q : Rat) : Int := roundAway (q * (fixOne : Rat))

/-- A binary fraction as a rational. -/
def ofFix (x : Int) : Rat := (x : Rat) / (fixOne : Rat)

/-- Product of binary fractions. -/
def fixMul (a b : Int) : Int := shrAway (a * b) 96

/-- `n` terms of the sine series from the term `t` of degree `k`, for a square `y2`. -/
def sinTerms : Nat → Int → Int → Nat → Int
  | 0, _, _, _ => 0
  | n + 1, y2, t, k => t + sinTerms n y2 (-(fixMul t y2) / ((k + 1 : Nat) * (k + 2 : Nat) : Int)) (k + 2)

/-- Sine of an angle of at most a quarter turn, in radians. -/
def sinFix (y : Int) : Int := sinTerms 32 (fixMul y y) y 1

/-- `n` terms of the exponential series from the term `t` of degree `k`. -/
def expTerms : Nat → Int → Int → Nat → Int
  | 0, _, _, _ => 0
  | n + 1, y, t, k => t + expTerms n y (fixMul t y / ((k + 1 : Nat) : Int)) (k + 1)

/-- `n` terms of the series of artanh from the power `t` of degree `k`. -/
def artanhTerms : Nat → Int → Int → Nat → Int
  | 0, _, _, _ => 0
  | n + 1, z2, t, k => t / (k : Int) + artanhTerms n z2 (fixMul t z2) (k + 2)

/-- The sine of a 32-bit phase (R257), exact at the quarter turns and within 2^-90 elsewhere. (DESIGN CHOICE, log entry 50) -/
def sine (t : Nat) : Rat :=
  let q := t % 4294967296 / 1073741824
  let r := t % 1073741824
  let a := if q % 2 = 0 then r else 1073741824 - r
  let v : Rat := if a = 0 then 0 else if a = 1073741824 then 1 else ofFix (sinFix (fixPi * (a : Int) / 2147483648))
  if q < 2 then v else -v

/-- tan(π x) for 0 ≤ x < 1/2 (R202). -/
def tanPi (x : Rat) : Rat :=
  let s := ofFix (sinFix (toFix (x * ofFix fixPi)))
  let c := ofFix (sinFix (toFix ((1 / 2 - x) * ofFix fixPi)))
  if c = 0 then 0 else s / c

/-- The angle of `x + iy`, `0 < x`, `0 ≤ y`, in ANG16, rounded: the number of half-code bounds at or below it (R51, R258). -/
def quadAng (x y : Rat) : Nat :=
  [14, 13, 12, 11, 10, 9, 8, 7, 6, 5, 4, 3, 2, 1, 0].foldl (fun k j =>
    let b := (2 * (k + 2 ^ j) - 1) * 32768
    if k + 2 ^ j ≤ 16384 ∧ x * sine b ≤ y * sine (b + 1073741824) then k + 2 ^ j else k) 0

/-- The argument of a complex number other than zero in ANG16 (R258). -/
def ang16 (re im : Rat) : Nat :=
  (if 0 < re ∧ 0 ≤ im then quadAng re im
   else if re ≤ 0 ∧ 0 < im then 16384 + quadAng im (-re)
   else if re < 0 ∧ im ≤ 0 then 32768 + quadAng (-re) (-im)
   else 49152 + quadAng (-im) re) % 65536

/-- The natural logarithm of a positive value, as a binary fraction. -/
def lnFix (q : Rat) : Int :=
  let l := floorLog2 q
  let m := q / pow2 l
  let z := toFix ((m - 1) / (m + 1))
  2 * artanhTerms 40 (fixMul z z) z 1 + l * fixLn2

/-- The exponential of a binary fraction. -/
def expFix (x : Int) : Rat :=
  let k := x / fixLn2
  ofFix (expTerms 32 (x - k * fixLn2) fixOne 0) * pow2 k

/-- `a^(1 - i/n) · b^(i/n)` is at least `c`, for positive values: compared exactly, as powers of n. -/
def rootGe (a b : Rat) (n i : Nat) (c : Rat) : Bool := decide (c ^ n ≤ a ^ (n - i) * b ^ i)

/-- The geometric point `a^(1 - i/n) · b^(i/n)` rounded to BF24 (R51, R260): exact comparisons with the bounds between codes. -/
def geoBF (a b : Rat) (n i : Nat) : Word :=
  let lo := floorLog2 a
  let e := ((List.range ((floorLog2 b - lo).toNat + 1)).filter fun k => rootGe a b n i (pow2 (lo + k))).length + lo
  let m := [15, 14, 13, 12, 11, 10, 9, 8, 7, 6, 5, 4, 3, 2, 1, 0].foldl (fun (m : Nat) j =>
    if rootGe a b n i (((2 * (m + 2 ^ j) - 1 : Nat) : Rat) * pow2 (e - 18)) then m + 2 ^ j else m) 65536
  toBF (((if m = 131071 ∧ rootGe a b n i ((262143 : Rat) * pow2 (e - 18)) = true then 131072 else m : Nat) : Rat) * pow2 (e - 17))

end Sys2Proof.Machine
end

