-- ==== Sys2Proof/Machine/Engine.lean ====
section
/-! DEFINITION. Machine/Engine.lean: the loop engine (R138-R165): voltage-loop, current-loop, outer-limiter and balance updates
with what enters them (gain table, ripple steering, injection, feed-forward, preloads), the entry to LIMIT and BRAKE, the
queue, bank switch and debug halt. -/

namespace Sys2Proof.Machine

/-! ### Inputs of the voltage loop (R146, R147, R198-R203, R257) -/

/-- Error of the voltage loop as a difference of codes (R146), against the reference with which the update started (R75). -/
def errV (s : State) (r : Nat) : Int :=
  let d := ((s.rail r).uRef : Int) - ((s.rail r).vloop : Int)
  if qtyInv s r then -d else d

/-- Breakpoint `k` and gain `k` of the active bank (R147). -/
def lutX (s : State) (r k : Nat) : Int :=
  let w := s.actC r (Reg.RCOMP_LUTX + k / 2)
  s16 (if k % 2 = 0 then fld w 15 0 else fld w 31 16)
def lutG (s : State) (r k : Nat) : Rat := bf (s.actC r (Reg.RCOMP_LUTG + k))

/-- The gain g(e) (R147): interpolated with a slope rounded to BF24. -/
def lutGain (s : State) (r : Nat) (e : Int) : Rat :=
  let e := clampI (-32768) 32767 e
  if e ≤ lutX s r 0 then lutG s r 0
  else if lutX s r 31 ≤ e then lutG s r 31
  else
    let k := ((List.range 31).filter fun k => lutX s r k ≤ e).length - 1
    let sl := bf (toBF ((lutG s r (k + 1) - lutG s r k) / puI (lutX s r (k + 1) - lutX s r k)))
    lutG s r k + sl * puI (e - lutX s r k)

/-- The error after the gain table, scaled by α (R147, R266). (DEDUCED, log entry 45) -/
def gained (s : State) (r : Nat) (e : Int) : Rat :=
  if bit (s.actC r Reg.RCOMP_CTL) 1 then lutGain s r e * bf (s.cup.alpha.getD r bfOne) * puI e else puI e

/-- RTAB_CFG.MODE. -/
def rtabMode (s : State) (r : Nat) : Nat := fld (s.tr r Reg.RTAB_CFG) 31 30

/-- Coefficients b0, b1 and a2 of the notch (R202), with the nominal frequency in force (R196), each rounded to BF24. (DESIGN CHOICE, log entry 162) -/
def notchCoefs (s : State) (r : Nat) : List Word :=
  let k := tanPi (2 * fnomOf s.grid.cfg / fsOf s r)
  let q := bf (s.tr r Reg.RTAB_NOTCH)
  let den := 1 + k / q + k * k
  [toBF ((1 + k * k) / den), toBF (2 * (k * k - 1) / den), toBF ((1 - k / q + k * k) / den)]

/-- The coefficients are computed before the first update after the rail leaves OFF or a period change is transferred (R202). -/
def notchUpdate (r : Nat) (s : State) : State :=
  if !(s.rail r).notchDue then s else
  let k := notchCoefs s r
  s.modRail r fun x => { x with notchK := k, notchDue := false }

/-- The notch as a stage (R202). -/
def notchStage (s : State) (r : Nat) : Stg :=
  let k := (s.rail r).notchK
  let b0 := k.getD 0 0
  let b1 := k.getD 1 0
  { ty := 3, clamp := false, pl := false, k := [b0, b1, b0, b1, k.getD 2 0], lmin := 0, lmax := 0 }

/-- The blend weight (R203, R204). -/
def weight (s : State) (r : Nat) : Rat := ((s.rail r).w : Rat) / (blendLen s : Rat)

/-- The notch runs, and the blend of R203 gives the input of stage 0. -/
def blendInput (r : Nat) (eg : Rat) (s : State) : State × Rat :=
  if rtabMode s r = 0 then (s, eg) else
  let n := (notchStage s r).run (s.rail r).notch (sigOf eg)
  let w := weight s r
  (s.modRail r fun x => { x with notch := n.1 }, w * eg + (1 - w) * n.2.val)

/-- Key of the fraction of a ripple-table entry. -/
def fracKey (r i : Nat) : Nat := 1048576 + r * 256 + i

/-- Entry `i` of a rail's table in 1/256 of an SPU16 code (R197): the register's code, and a fraction beside it. -/
def tabEntry (s : State) (r i : Nat) : Int :=
  let w := s.tr r (Reg.RTAB_E + i / 2)
  s16 (if i % 2 = 0 then fld w 15 0 else fld w 31 16) * 256 + (s.reg (fracKey r i)).toInt

/-- Entry `i` written, in 1/256 of a code. -/
def setEntry (r i : Nat) (v : Int) (s : State) : State :=
  let code := clampI (-32768) 32767 (shrAway v 8)
  let a := (0x60 + r) * 256 + Reg.RTAB_E + i / 2
  let lo := if i % 2 = 0 then 0 else 16
  let s := s.setReg a (setFld (s.reg a) (lo + 15) lo (c16 code))
  s.setReg (fracKey r i) (BitVec.ofInt 32 (v - code * 256))

/-- The read index of this update, from the angle at the end of the sample (R90, R198). -/
def tabIndex (s : State) (r : Nat) : Nat := ((s.rail r).uAng / 256 + fld (s.tr r Reg.RTAB_CFG) 7 0) % 256

/-- The injection runs into a rail (R257). -/
def injecting (s : State) (r : Nat) : Bool := s.cup.run && s.cup.rail == r && !s.cup.zero

/-- The table learns at this update (R199). -/
def learns (s : State) (r : Nat) : Bool :=
  let l := s.tr r Reg.RTAB_LCTL
  rtabMode s r == 2 && bit l 0 && !bit l 1 && s.grid.lock && (s.rail r).w == blendLen s && (s.rail r).st == .regulate
    && !injecting s r

/-- One learning step (R200). -/
def learnStep (r : Nat) (e : Int) (s : State) : State :=
  let on := learns s r
  let s := s.modRail r fun x => { x with learning := on }
  if !on then s else
  let i := (tabIndex s r + 256 - fld (s.tr r Reg.RTAB_CFG) 20 16) % 256
  let b := s.tr r Reg.RTAB_BND
  let v := tabEntry s r i + roundAway (bf (s.tr r Reg.RTAB_MU) * (e : Rat) * 256)
  let v' := clampI (s16 (fld b 15 0) * 256) (s16 (fld b 31 16) * 256) v
  let s := setEntry r i v' s
  if v' = v then
    s.modRail r fun x =>
      let q := satInc 256 x.satQuiet
      { x with satQuiet := q, rSat := x.rSat && q != 256 }
  else
    let s := if (s.rail r).rSat then s else event Src.RTAB_SAT r s
    s.modRail r fun x => { x with rSat := true, satQuiet := 0 }

/-- A rail is adapting (R267). -/
def adapting (s : State) (r : Nat) : Bool := s.cup.run && s.cup.rail == r && s.cup.mode == 1 && s.cup.aden

/-- α of a rail clamped into the bounds and written; the clamp is recorded, and armed again by a step (`step`) in which it does not act (R267). -/
def setAlpha (step : Bool) (r : Nat) (v : Rat) (s : State) : State :=
  let lo := bf (s.pg Pg.CUP Reg.CUP_ADMIN)
  let hi := bf (s.pg Pg.CUP Reg.CUP_ADMAX)
  let c := clampR lo hi v
  let s := { s with cup := { s.cup with alpha := s.cup.alpha.set r (toBF c) } }
  if c = v then { s with cup := { s.cup with adArmed := s.cup.adArmed || step } } else
  let s := if s.cup.adArmed then event Src.CUP_ADLIM r s else s
  { s with cup := { s.cup with adlim := true, adArmed := false } }

/-- Phase advance of the injection per update (R257). -/
def cupInc (s : State) : Nat := (roundAway (bf s.cup.f * 4294967296 / fsOf s s.cup.rail)).toNat

/-- New bounds of α take effect at the first update after their write (R267). -/
def cupBounds (r : Nat) (s : State) : State :=
  if !(adapting s r && s.cup.bndNew) then s else
  cupAgain (setAlpha false r (bf (s.cup.alpha.getD r bfOne)) { s with cup := { s.cup with bndNew := false } })

/-- The normalised BF24 code of the square root of a positive value: exact rounding with an integer root (R51, R457). -/
def sqrtBF (q : Rat) : Word :=
  if q ≤ 0 then 0 else
  let l := floorLog2 q
  let e : Int := l / 2 + 1
  let m := (Nat.sqrt (4 * q * pow2 (2 * (17 - e))).floor.toNat + 1) / 2
  toBF ((m : Rat) * pow2 (e - 17))

/-- |L| of a measurement (R258); a response of zero leaves it open. (DESIGN CHOICE, log entry 51) -/
def gainOf (s : State) (c : CupSums) : Word :=
  let n := c.xs * c.xs + c.xc * c.xc
  if n = 0 then BitVec.ofNat 32 (Config.anyCode s.cyc % 16777216)
  else sqrtBF ((c.us * c.us + c.uc * c.uc) / n)

/-- The next α of an adapting rail after a measurement of gain `g` (R267). -/
def adaptStep (g : Word) (s : State) : State :=
  let r := s.cup.rail
  if !adapting s r then s else
  let st := bf (s.pg Pg.CUP Reg.CUP_ADSTEP)
  let q : Rat := if bf g = 0 then 1 + st else clampR (1 - st) (1 + st) (1 / bf g)
  setAlpha true r (bf (s.cup.alpha.getD r bfOne) * q) s

/-- One update of a measurement (R258, R259). When the integration is complete its sums wait for the result; in continuous mode the next
measurement begins with the next update, α with it (R260, R267). -/
def cupMeasure (u x sn cs : Rat) (s : State) : State :=
  let c := s.cup
  if 0 < c.settle then { s with cup := { c with settle := c.settle - 1 } }
  else if c.integ = 0 then s else
  let m := c.sums
  let m : CupSums := ⟨m.xs + x * sn, m.xc + x * cs, m.us + u * sn, m.uc + u * cs⟩
  let s := { s with cup := { c with sums := m, integ := c.integ - 1, result := if c.integ = 1 then some m else c.result } }
  if c.integ = 1 && c.mode == 1 then cupRestart (adaptStep (gainOf s m) s) else s

/-- The injection's part of a voltage-loop update (R257-R259, R262, R263), from the first one in REGULATE on: the sine added to stage 0's
input `u`, and the sums. A new amplitude applies, and an ending injection stops, at the first update at which θ has passed 0 or one half turn. (DEDUCED, log entry 49) -/
def inject (r : Nat) (u : Rat) (s : State) : State × Rat :=
  if !injecting s r || !(s.cup.begun || (s.rail r).st == .regulate) then (s, u) else
  let inc := cupInc s
  let t := s.cup.theta
  let half := t / 2147483648 % 2
  let cross := half != s.cup.half
  if cross && s.cup.ending.isSome then ({ s with cup := { s.cup with zero := true } }, u) else
  let amp := if cross then fld (s.pg Pg.CUP Reg.CUP_AMP) 15 0 else s.cup.amp
  let sn := sine t
  let x := u + pu amp * sn
  let s := { s with cup := { s.cup with begun := true, amp := amp, half := half, theta := (t + inc) % 4294967296 } }
  (cupMeasure u x sn (sine (t + 1073741824)) s, x)

/-! ### Rail current, bounds, outputs (R93, R152-R154, R177-R181, R217) -/

/-- Latest current of a phase: ISAMP, or the estimate on dead reckoning (R93, R215, R227). -/
def iOf (s : State) (p : Nat) : Rat :=
  let x := s.ph p
  if x.est then puI (clampI (-32768) 32767 (shrAway x.oest 8)) else puI x.isamp

/-- Base of a phase and of a rail in mA. -/
def phBase (s : State) (p : Nat) : Rat := (((s.pr p Reg.PH_IBASE_MA).toNat : Nat) : Rat)
def railBase (s : State) (r : Nat) : Rat := (((s.rr r Reg.RAIL_IBASE_MA).toNat : Nat) : Rat)

/-- IRAIL (R93): the ACTIVE phases' currents in the rail's base; a base of zero leaves it open. -/
def irailOf (s : State) (r : Nat) : Int :=
  if railBase s r = 0 then s16 (Config.anyCode s.cyc)
  else toSPU16 (sumR ((activeOf s r).map fun p => iOf s p * phBase s p) / railBase s r)

/-- The bounds in use (R181, R217): ramped in a current-ramp stop, and never beyond the capacity. (DESIGN CHOICE, log entry 153) -/
def boundsOf (s : State) (r : Nat) : Rat × Rat :=
  let x := s.rail r
  let ramp := x.st == .stopping && x.stopMode == 2
  let hi : Rat := if ramp then pu ((x.rampHi + 32768) / 65536) else x.hi
  let lo : Rat := if ramp then -pu ((x.rampLo + 32768) / 65536) else x.lo
  let c := pu x.capUse
  (if hi < c then hi else c, if lo < -c then -c else lo)

/-- The rail may come under its limiter (R178, R181). -/
def mayEnter (s : State) (r : Nat) : Bool :=
  match (s.rail r).st with
  | .ramp | .regulate => true
  | .stopping => (s.rail r).stopMode == 2 && (s.rail r).limdir == 0
  | _ => false

/-- One update's vote for LIMIT (R178): side 1 upper, 2 lower, 0 neither. -/
def limitVote (side r : Nat) (s : State) : State :=
  s.modRail r fun x =>
    if side = 0 || !mayEnter s r then { x with limCnt := 0 }
    else if x.limSide = side then { x with limCnt := satInc 255 x.limCnt } else { x with limCnt := 1, limSide := side }

/-- The clamp of energy duties (R152). -/
def dlim (s : State) (r : Nat) (d : Rat) : Rat :=
  let w := s.actC r Reg.RCOMP_DLIM
  clampR (pu (fld w 15 0)) (pu (fld w 31 16)) d

/-- The engine writes a complete set for a phase, with its load (R125, R153), and with it a new offset of the phase (R214). -/
def emit (p : Nat) (d : Rat) (s : State) : State :=
  let h := shadowSet s p
  let boost := match railOf s p with | some r => topo s r == 1 | none => false
  let cmp := cmpOf boost d h.per
  let ofs := (s.ph p).newOfs.getD h.ofs
  let s := s.setReg ((0x20 + p) * 256 + Reg.PH_CMP) (BitVec.ofNat 32 cmp)
  let s := s.setReg ((0x20 + p) * 256 + Reg.PH_OFS) (setFld (s.pr p Reg.PH_OFS) 15 0 ofs)
  s.modPh p fun x => { x with duty := d, newOfs := none, gen := { x.gen with eset := some { h with cmp := cmp, ofs := ofs } } }

/-- A rail energy duty reaches the phases with their trims (R152). -/
def emitRail (r : Nat) (d : Rat) (s : State) : State :=
  (activeOf s r).foldl (fun s p => emit p (dlim s r (d + puI (s.ph p).trim)) s) s

/-- A rail current reference is shared among the ACTIVE phases (R154), in SPU16 as every current is (R45); without a base the share is open. -/
def shareOut (r : Nat) (i : Rat) (s : State) : State :=
  let act := activeOf s r
  let sum := sumR (act.map (phBase s))
  let v := if sum = 0 then puI (s16 (Config.anyCode s.cyc)) else i * railBase s r / sum
  act.foldl (fun s p => s.modPh p fun x => { x with iref := puI (toSPU16 v) }) s

/-- An output of the rail takes effect (R152): current reference, or energy duty. -/
def applyOut (r : Nat) (u : Rat) (s : State) : State :=
  let s := s.modRail r fun x => { x with out := u }
  if cascade s r then shareOut r u s else emitRail r u s

/-- A gang follower's slot that reads RUN for the rail (R327): K × its reference. (DEDUCED, log entry 53) -/
def gangRef (s : State) (r : Nat) : Option Rat :=
  let c := s.pg Pg.GANG Reg.GANG_CFG
  if !(bit c 31 && bit c 30) then none else
  ((List.range 4).find? fun k =>
    let w := s.pg Pg.GANG (Reg.GANG_SLOT + k)
    bit w 31 && fld w 27 24 == r && s.gang.slotSt.getD k 0 == 1).map fun k =>
      bf (setFld (s.pg Pg.GANG (Reg.GANG_SLOT + k)) 31 24 0) * puI (s.gang.slotRef.getD k 0)

/-! ### Voltage loop -/

/-- DRIP and BRAKE are left at this update (R220, R223); in a debug halt every state machine holds (R161). -/
def leaveAtUpdate (r : Nat) (s : State) : State :=
  let x := s.rail r
  if s.eng.haltReq then s
  else if x.st == .drip && decide (x.vloop + fld (rgOf s r 1) 15 0 < refCode s r) then dripExit r s
  else if x.st == .brake && (decide (x.irail ≤ (fld (rgOf s r 3) 15 0 : Nat)) || decide (x.vloop ≤ refCode s r)) then
    brakeExit r s
  else s

/-- Some ACTIVE phase runs on its observer. -/
def anyEst (s : State) (r : Nat) : Bool := (activeOf s r).any fun p => (s.ph p).est

/-- BRAKE (R222): judged at the completion of every voltage-loop update; a change of the active set in the same CKB cycle comes first and keeps
the rail in REGULATE (R230), and a debug halt holds it (R161). (DESIGN CHOICE, log entry 154) -/
def brakeTest (r : Nat) (e : Int) (s : State) : State :=
  let x := s.rail r
  let c := rgOf s r 2
  let fell := match x.ePrev with
    | some q => decide (e < 0) && decide ((fld c 15 0 : Nat) < q * 16384 - (e : Rat))
    | none => false
  let s := s.modRail r fun x => { x with ePrev := some (puI e), fell := fell }
  if bit c 31 && x.st == .regulate && fell && x.fell && !anyEst s r && !injecting s r && x.chgAt != some s.clk && !s.eng.haltReq then toBrake r s
  else s

/-- The ripple-table term of this update (R198), and the index it was read at; none in LIMIT or DRIP (R179, R219). -/
def rippleTerm (r : Nat) (s : State) : State × Rat :=
  if rtabMode s r = 0 then (s, 0) else
  let i := tabIndex s r
  let s := s.modRail r fun x => { x with rIdx := i }
  if limited s r || (s.rail r).st == .drip then (s, 0) else
  let t := weight s r * ((tabEntry s r i : Rat) / 4194304)
  (s.modRail r fun x => { x with rTerm := toSPU16 t }, t)

/-- The output of the voltage loop in its own terms, from the stages' `y` (R152), and the side on which a CASCADE clamp acted. -/
def vOutput (s : State) (r : Nat) (y term : Rat) : Rat × Nat :=
  if cascade s r then
    let raw := match gangRef s r with | some g => g | none => y + term
    let b := boundsOf s r
    (puI (toSPU16 (clampR b.2 b.1 raw)), if b.1 < raw then 1 else if raw < b.2 then 2 else 0)
  else (dlim s r (y + term + dff s r), 0)

/-- In LIMIT (R179): preloaded with the limiter's output, then the law; less transfer in the limited direction hands the rail
back, but for a debug halt (R161). (DEDUCED, log entry 46) -/
def vLimited (r : Nat) (x : Rat) (s : State) : State :=
  let ff := if cascade s r then 0 else dff s r
  let u := (s.rail r).limOut
  let s := (runCtx r (some (u - ff)) x s).1
  let (s, y) := runCtx r none x s
  let want := match gangRef s r with | some g => if cascade s r then g else y + ff | none => y + ff
  let less := if (s.rail r).limdir = 2 then decide (u < want) else decide (want < u)
  if !less || s.eng.haltReq then s else
  let s := if (s.rail r).st == .limit then limitExit r s else s.modRail r fun z => { z with limdir := 0, limCnt := 0 }
  applyOut r (vOutput s r y 0).1 s

/-- The voltage loop as the rail's output, or held unapplied in DRIP (R152, R155, R219). -/
def vFree (r : Nat) (x term : Rat) (s : State) : State :=
  let ff := term + (if cascade s r then 0 else dff s r)
  let (s, y) := runCtx r ((s.rail r).plV.map (· - ff)) x s
  let s := s.modRail r fun z => { z with plV := none }
  let o := vOutput s r y term
  if (s.rail r).st == .drip then limitVote 0 r s else
  let s := if cascade s r then limitVote o.2 r s else s
  applyOut r o.1 s

/-- A pending commit switches at the start of an update; one that a debug halt lets complete had started before (R159, R163). -/
def switchAtUpdate (r : Nat) (s : State) : State := if s.eng.haltReq then s else switchIfPending r s

/-- One update of C(r) (R146-R155, R93, R159, R198, R202, R222). (DEDUCED, log entry 52) -/
def vUpdate (r : Nat) (s : State) : State :=
  let s := switchAtUpdate r s
  let s := s.modRail r fun x => { x with irail := irailOf s r }
  let s := cupBounds r (leaveAtUpdate r (notchUpdate r s))
  let e := errV s r
  let (s, b) := blendInput r (gained s r e) s
  let (s, x) := inject r b s
  let (s, term) := rippleTerm r s
  let s := if rtabMode s r = 0 then s else learnStep r e s
  let s := if limited s r then vLimited r x s else vFree r x term s
  brakeTest r e s

/-! ### Outer limiter (R177-R179) -/

/-- One update of C(16 + r). -/
def outerUpdate (r : Nat) (s : State) : State :=
  let s := computeBounds r s
  let b := boundsOf s r
  let i := puI (s.rail r).irail
  if limited s r then
    let e := (if (s.rail r).limdir = 2 then b.2 else b.1) - i
    let (s, y) := runCtx (16 + r) (s.rail r).plL e s
    let y := if cascade s r then puI (toSPU16 y) else y
    applyOut r y (s.modRail r fun x => { x with plL := none, limOut := y })
  else
    let u := (s.rail r).out
    let e := (if 0 ≤ u then b.1 else b.2) - i
    let s := (runCtx (16 + r) (some u) e s).1
    let s := s.modRail r fun x => { x with limOut := u, plL := none }
    if cascade s r then s else limitVote (if b.1 < i then 1 else if i < b.2 then 2 else 0) r s

/-! ### Current loop and balance trim (R152, R154, R215, R216) -/

/-- One update of C(32 + p). -/
def currentUpdate (p r : Nat) (s : State) : State :=
  let ff := dff s r
  let e := (s.ph p).iref + puI (s.ph p).trim - iOf s p
  let (s, y) := runCtx (32 + p) ((s.ph p).plC.map (· - ff)) e s
  let s := s.modPh p fun x => { x with plC := none }
  if (s.rail r).st == .drip then s else emit p (dlim s r (y + ff)) s

/-- Error of the balance trim (R215): the mean is a current, in SPU16 (R45). -/
def balanceError (s : State) (p r : Nat) : Rat :=
  let act := activeOf s r
  if (s.rail r).st == .drip || (s.rail r).st == .brake || act.length ≤ 1 then 0
  else puI (toSPU16 (sumR (act.map (iOf s)) / (act.length : Rat))) - iOf s p

/-- One update of C(80 + p) (R216). -/
def balanceUpdate (p r : Nat) (s : State) : State :=
  let (s, y) := runCtx (80 + p) none (balanceError s p r) s
  let m : Int := ((fld (pmOf s p 0) 31 16 : Nat) : Int)
  let t := clampI (-m) m (toSPU16 y)
  s.modPh p fun x =>
    let at_ := decide (m ≠ 0) && decide (t.natAbs = m.natAbs)
    let inN := if at_ then 0 else satInc 1024 x.trimIn
    { x with trim := t, trimAt := if at_ then satInc 1024 x.trimAt else 0, trimIn := inN, tsat := x.tsat && inN != 1024 }

/-! ### The queue (R140, R141, R145) -/

/-- One update of a context, by its class. -/
def updateCtx (c r : Nat) (s : State) : State :=
  if c < 16 then vUpdate r s
  else if c < 32 then outerUpdate r s
  else if c < 80 then currentUpdate (c - 32) r s
  else balanceUpdate (c - 80) r s

/-- An update of a context reads a word that fails parity: one of its state words, or one of its rail's active bank (R165). (DEDUCED, log entry 139) -/
def readsBad (s : State) (c r : Nat) : Bool := s.eng.parity.contains c || (s.rail r).bankErr

/-- MACs of an update that no lane has issued yet (R138). -/
def macsLeft (s : State) (q : QItem) : Nat :=
  match s.perf.runs.find? (·.q == q) with | some r => r.left | none => ctxCost s q.ctx

/-- ENGINE_UPDATE (R138-R148): the update served first writes its results, after the MACs that it has still to issue, which `lane` issues; one
that reads a parity error writes none (R165). In a debug halt what a lane had taken completes (R161). (DESIGN CHOICE, log entry 41) -/
def engineUpdate (lane latency : Nat) (displaced : Bool) (s : State) : State :=
  if s.dev.rst || s.dev.clkStop then s else
  match pickUpdate s.eng.queue with
  | none => s
  | some q =>
    let left := macsLeft s q
    let fresh := !begun s q
    let s := { s with eng := { s.eng with queue := s.eng.queue.erase q } }
    let s := s.modPerf fun x => { x with runs := x.runs.filter (·.q != q) }
    match ctxRail s q.ctx with
    | none => s
    | some r =>
      if !ctxActive s q.ctx then s else
      let s := if q.ctx < 16 then switchAtUpdate r s else s
      if readsBad s q.ctx r then s else
      let s := updateCtx q.ctx r s
      let cost := ctxCost s q.ctx
      let cl := ctxClass q.ctx
      let l := min 65535 latency
      let s := { s with eng := { s.eng with
        macs := s.eng.macs + cost
        latV := if cl = 1 then max s.eng.latV l else s.eng.latV
        latI := if cl = 2 then max s.eng.latI l else s.eng.latI } }
      let s := perf 0x11 lane left (perf 0x10 q.ctx 1 s)
      if displaced && fresh then perf 0x14 0 1 s else s

/-- ENGINE_PARITY_ERROR (R164, R165): the queued update that reads the word writes no result. (DEDUCED, log entry 139) -/
def parityError (addr : Nat) (s : State) : State :=
  if s.dev.rst || s.dev.clkStop || 0x90 ≤ addr then s else
  let bad (q : QItem) : Bool := if addr < 0x80 then q.ctx == addr else ctxRail s q.ctx == some (addr - 0x80)
  let s := match pickUpdate (s.eng.queue.filter bad) with
    | some q => { s with eng := { s.eng with queue := s.eng.queue.erase q } }
    | none => s
  let s := if addr < 0x80 then { s with eng := { s.eng with parity := addr :: s.eng.parity.filter (· != addr) } }
    else s.modRail (addr - 0x80) fun x => { x with bankErr := true }
  event Src.ENG_PARITY addr s

/-- BANK_SWITCH (R159): at the rail's first voltage-loop update after the acceptance. -/
def bankSwitch (r : Nat) (s : State) : State :=
  if (s.rail r).pend && !(s.rail r).copying && s.eng.queue.any (fun q => q.ctx == r) && !s.eng.haltReq
      && !s.dev.clkStop && !s.dev.rst then switchIfPending r s else s

/-- The active bank copied into the pending bank, LUTEN with it. -/
def copyBank (r : Nat) (s : State) : State :=
  let a := (0x50 + r) * 256
  let s := coefOffs.foldl (fun s o => s.setReg (a + o) (s.reg (bankKey (a + o)))) s
  s.setReg (a + Reg.RCOMP_CTL) (setFld (s.pendC r Reg.RCOMP_CTL) 1 1 (fld (s.actC r Reg.RCOMP_CTL) 1 1))

/-- BANK_COPY_BACK (R159). -/
def bankCopyBack (r : Nat) (s : State) : State :=
  if (s.rail r).copying && !s.dev.rst then
    (copyBank r s).modRail r fun x => { x with pend := false, copying := false } else s

/-- ENG_UTIL_WINDOW (R138): utilisation of the window in PU16, and its peak. -/
def utilWindow (s : State) : State :=
  if s.dev.rst || s.dev.clkStop || s.eng.winLeft ≠ 0 then s else
  let u := toPU16 ((s.eng.macs : Rat) / ((2560 * s.eng.winLen : Nat) : Rat))
  let n := fld (s.pg Pg.ENG Reg.ENG_WIN) 15 0
  { s with eng := { s.eng with util := u, peak := max s.eng.peak u, macs := 0, winLen := n, winLeft := n } }

/-- LIMIT_ENTRY (R178, R181): the count is complete. -/
def limitEntry (r : Nat) (s : State) : State :=
  let x := s.rail r
  if !mayEnter s r || x.limCnt = 0 || decide (x.limCnt < fld x.limCfg 3 0) || s.eng.haltReq then s
  else if x.st == .stopping then
    s.modRail r fun x => { x with limdir := x.limSide, limCnt := 0, limOut := x.out, plL := some x.out, plV := none }
  else toLimit x.limSide r s

/-- PH_TRIMSAT (R216). -/
def phTrimsat (p : Nat) (s : State) : State :=
  if (s.ph p).tsat || decide ((s.ph p).trimAt < 1024) then s
  else event Src.PH_TRIMSAT p (s.modPh p fun x => { x with tsat := true })

/-! ### Meanings -/

/-- ENGINE_UPDATE (R148). -/
def execEngineUpdate (latency : Nat) (displaced : Bool) (s : State) (lane : Fin 8 := 0) : Host.Outcome State Fault Refusal :=
  .next (clocked (engineUpdate lane latency displaced) (s.begin none (updateDue s latency)))
/-- ENGINE_PARITY_ERROR (R165). -/
def execEngineParityError (addr : Nat) (s : State) : Host.Outcome State Fault Refusal := .next (clocked (parityError addr) s.begin)
/-- BANK_SWITCH (R159). -/
def execBankSwitch (r : Fin 16) (s : State) : Host.Outcome State Fault Refusal := .next (clocked (bankSwitch r) s.begin)
/-- BANK_COPY_BACK (R159). -/
def execBankCopyBack (r : Fin 16) (s : State) : Host.Outcome State Fault Refusal := .next (clocked (bankCopyBack r) s.begin)
/-- ENG_UTIL_WINDOW (R138). -/
def execEngUtilWindow (s : State) : Host.Outcome State Fault Refusal := .next (clocked utilWindow s.begin)
/-- LIMIT_ENTRY (R178). -/
def execLimitEntry (r : Fin 16) (s : State) : Host.Outcome State Fault Refusal := .next (clocked (limitEntry r) s.begin)
/-- PH_TRIMSAT (R216). -/
def execPhTrimsat (p : Fin 48) (s : State) : Host.Outcome State Fault Refusal := .next (clocked (phTrimsat p) s.begin)

end Sys2Proof.Machine
end

