-- ==== Sys2Proof/Machine/Seq.lean ====
section
/-! DEFINITION. Machine/Seq.lean: what a frame does to rails and domains (R166-R187, R208-R220), and the transitions that
follow: starts, checks, sequences, restarts, hall monitor, shedding, drip and brake. -/

namespace Sys2Proof.Machine

/-! ### The frame of a rail -/

/-- The state machines act: the engine is not halted (R161), the clocks run, no reset stands. -/
def machinesRun (s : State) : Bool := !s.eng.haltReq && !s.dev.clkStop && !s.dev.rst && s.dev.st != .boot

/-- Increment of the slew limiter per frame, in 2^-16 code (R168). -/
def slewStep (rate : Nat) : Nat := (roundAway ((rate * 65536 : Nat) / 1000 : Rat)).toNat

/-- The slew limiter (R168, R169). -/
def slewRef (ref target up dn : Nat) : Nat :=
  let t := target * 65536
  if ref < t then min (ref + up) t else if t < ref then max (ref - dn) t else ref

/-- Phases that join at a frame (R209, R212): made available while SHEN = 0, or SHED while SHEN = 0 or NMIN exceeds the
available phases. (DEDUCED, log entry 64) -/
def joiners (s : State) (r : Nat) : List Nat :=
  let c := rgOf s r 0
  let all := !bit c 31 || decide ((availOf s r).length < fld c 20 16)
  (phasesOf s r).filter fun p => (s.ph p).pst == .shed && ((s.ph p).joinNext || all)

/-- The joining phases become ACTIVE, as one change of the set (R209, R214). -/
def joinFrame (r : Nat) (s : State) : State :=
  if !(s.rail r).st.running then s else
  match joiners s r with
  | [] => s
  | l => activeChanged r (l.foldl (fun s p => joinPhase p s) s)

/-- Where no ACTIVE phase of a running rail goes there is no lead phase's boundary to wait for: the phases that wait take the frame edge
as their reference instant (R119, R214). (DESIGN CHOICE, log entry 131) -/
def strandFrame (r : Nat) (s : State) : State :=
  if !stranded s r || isStandby s then s else
  refAll (fun p => (activeOf s r).contains p && counts s p && (s.ph p).gen.ref.isNone) (nowCnt s) s

/-- RAIL_SHCFG, RAIL_DRIPCFG, RAIL_BRKCFG, RAIL_BRKLIM, RAIL_THDER, RAIL_SHDWELL take effect (R213, R220, R256). -/
def latchRail (r : Nat) (s : State) : State :=
  s.modRail r fun x => { x with rgCfg :=
    [Reg.RAIL_SHCFG, Reg.RAIL_DRIPCFG, Reg.RAIL_BRKCFG, Reg.RAIL_BRKLIM, Reg.RAIL_THDER, Reg.RAIL_SHDWELL].map (s.rr r) }

/-- A stop that the gang asked for during a debug halt is carried out (R161, R327). -/
def gangHeld (r : Nat) (s : State) : State :=
  match (s.rail r).gangPend with
  | none => s
  | some m => (stopUnder m r s).modRail r fun x => { x with gangPend := none }

/-- A stop accepted earlier is carried out (R180, R181). -/
def stopFrame (r : Nat) (s : State) : State :=
  if !(s.rail r).stopPend then s else
  match (s.rail r).st with
  | .precheck | .prebias => toOff r s
  | .ramp | .regulate | .drip | .limit | .brake => toStopping r s
  | _ => s.modRail r fun x => { x with stopPend := false }

/-- The ramped bounds of a current-ramp stop fall (R181). -/
def rampBounds (r dn : Nat) (s : State) : State :=
  if (s.rail r).st == .stopping && (s.rail r).stopMode == 2 then
    s.modRail r fun x => { x with rampHi := x.rampHi - dn, rampLo := x.rampLo - dn }
  else s

/-- STOPPING ends (R181). -/
def stopDone (s : State) (r : Nat) : Bool :=
  let x := s.rail r
  x.st == .stopping &&
  (if x.stopMode = 2 then x.rampHi == 0 && x.rampLo == 0
   else if x.stopMode = 1 then x.ref == x.target * 65536 else true)

/-- RAMP and REGULATE follow the reference (R176, R169, R263). (DEDUCED, log entry 55) -/
def settleFrame (r : Nat) (s : State) : State :=
  let x := s.rail r
  let at_ := x.ref == x.target * 65536
  let done := at_ && (fld (s.rr r Reg.RAIL_SRC) 3 0 != 9 || x.trkdone)
  match x.st with
  | .ramp => if done then s.modRail r fun x => { x with st := .regulate, frames := 0 } else s
  | .regulate => if at_ then s else rampAgain 1 r (cupAtZero r s)
  | _ => s

/-- IF (R211): set at the first frame of RAMP, filtered at every other. -/
def filterFrame (r : Nat) (s : State) : State :=
  if !(s.rail r).st.running then s else
  let fsh := fld (rgOf s r 0) 27 24
  s.modRail r fun x =>
    if x.st == .ramp && decide (x.frames ≤ 1) then { x with ifilt := x.irail.natAbs * 65536 } else
    { x with ifilt := ((x.ifilt : Int) + shrAway (((x.irail.natAbs * 65536 : Nat) : Int) - x.ifilt) fsh).toNat }

/-- IF exceeds a level given in codes, times n; below it (R212, R218, R220). -/
def ifAbove (s : State) (r level : Nat) : Bool := decide (level * 65536 < (s.rail r).ifilt)
def ifBelow (s : State) (r level : Nat) : Bool := decide ((s.rail r).ifilt < level * 65536)

/-- The dwell counts of shedding, adding and DRIP (R212, R218). (DESIGN CHOICE, log entry 148) -/
def dwellFrame (r : Nat) (s : State) : State :=
  let x := s.rail r
  let n := (activeOf s r).length
  let m := (availOf s r).length
  let c := rgOf s r 0
  let th := s.rr r Reg.RAIL_SHTHR
  let cup := injecting s r
  let shed := bit c 31 && x.st == .regulate && !cup && decide (fld c 20 16 < n) && ifBelow s r ((n - 1) * fld th 15 0)
  let add := bit c 31 && (x.st == .ramp || x.st == .regulate || x.st == .limit) && decide (n < m) && ifAbove s r (n * fld th 31 16)
  let drip := x.st == .regulate && !cup && ifBelow s r (fld (s.rr r Reg.RAIL_DRIPTHR) 15 0)
  s.modRail r fun x => { x with shedCnt := if shed then satInc 65536 x.shedCnt else 0
                                addCnt := if add then satInc 65536 x.addCnt else 0
                                dripCnt := if drip then satInc 65536 x.dripCnt else 0 }

/-- A frame's reasons to leave DRIP (R220): `was` tells that the target differs from the reference. -/
def dripFrame (r : Nat) (was : Bool) (s : State) : State :=
  if (s.rail r).st == .drip &&
      (was || (s.rail r).dripDue || ifAbove s r (fld (s.rr r Reg.RAIL_DRIPTHR) 31 16) || !bit (rgOf s r 1) 31 || injecting s r) then dripExit r s
  else s

/-- The hall monitor (R187). -/
def hallFrame (r : Nat) (s : State) : State :=
  let x := s.rail r
  let c := s.rr r Reg.RAIL_FELIM
  let on := match x.st with
    | .ramp | .regulate | .drip | .brake => true
    | .limit => !bit c 31
    | _ => false
  if !on then endFollow r s else
  let d := ((refCode s r : Int) - x.vloop).natAbs
  let far := decide (fld c 15 0 < d)
  s.modRail r fun x => { x with feCnt := if far then satInc 16777216 x.feCnt else 0
                                feIn := if far then 0 else satInc 16777216 x.feIn }

/-- The blend weight moves by one step towards its target, in every state but OFF (R204). (DESIGN CHOICE, log entry 146) -/
def blendFrame (r : Nat) (s : State) : State :=
  if (s.rail r).st == .off then s else
  let t := blendTarget s r
  s.modRail r fun x => { x with w := if x.w < t then x.w + 1 else x.w - b2n (decide (t < x.w)) }

/-- The undervoltage limit is armed by the first settled frame of the run (R244). -/
def armUv (r : Nat) (s : State) : State :=
  if settled s r && !(s.rail r).uvArmed then s.modRail r fun x => { x with uvArmed := true } else s

/-- The frame that ends counts in the state that the rail has been in (R175, R181, R183). -/
def ageFrame (r : Nat) (s : State) : State :=
  s.modRail r fun x => { x with frames := satInc 16777216 x.frames, rstDelay := x.rstDelay.map (· - 1) }

/-- One frame of a rail's state machine, in the order: frames in the state, stop, target, reference, state, filters and counts. -/
def railFrame (r : Nat) (s : State) : State :=
  let s := strandFrame r (joinFrame r (ageFrame r s))
  let s := gangHeld r (stopFrame r s)
  let s := sampleTarget r s
  let x := s.rail r
  let differs := x.ref != x.target * 65536
  let sl := s.rr r Reg.RAIL_SLEW
  let dn := slewStep (fld sl 15 0)
  let s := if x.st.running then
      rampBounds r dn (s.modRail r fun x => { x with ref := slewRef x.ref x.target (slewStep (fld sl 31 16)) dn })
    else s
  let s := filterFrame r s
  let s := settleFrame r (dripFrame r differs s)
  let s := if stopDone s r then toOff r s else s
  armUv r (hallFrame r (dwellFrame r s))

/-! ### Domain sequences (R184-R186) -/

/-- RAIL_SEQ.RANK and RAIL_SEQ.DLY. -/
def rankOf (s : State) (r : Nat) : Nat := fld (s.rr r Reg.RAIL_SEQ) 3 0
def dlyOf (s : State) (r : Nat) : Nat := fld (s.rr r Reg.RAIL_SEQ) 31 16

/-- Smallest of a list of ranks (16 for none). -/
def minRank (s : State) (l : List Nat) : Nat := l.foldl (fun a r => min a (rankOf s r)) 16

/-- Rails that take part in a start of a domain (R184). -/
def takers (s : State) (d : Nat) : List Nat := (railsOfDom s d).filter fun r => inOff s r && !(phasesOf s r).isEmpty

/-- A start of a rail is accepted (R173): it counts in STARTS (R347), and dirty bases queue a bases record (R351). -/
def startRail (host : Bool) (group r : Nat) (s : State) : State := tallyAdd 6 1 (queueBases (acceptStart host group r s))

/-- A start sequence begins: rank 0 at once (R184). -/
def beginStart (d : Nat) (host auto_ : Bool) (rails : List Nat) (s : State) : State :=
  if rails.isEmpty then s else
  let first := rails.filter fun r => rankOf s r == 0
  let s := first.foldl (fun s r => startRail host (groupOf s d 0) r s) s
  s.modDom d fun x => { x with seq := 1, rank := minRank s rails, todo := rails.filter fun r => rankOf s r != 0
                               issued := first, wait := 0, age := 0, auto_ := auto_
                               stopWait := List.replicate 16 none }

/-- Every rail of the domain with a rank above that of `r` has stopped (R185). -/
def aboveStopped (s : State) (d r : Nat) : Bool :=
  (railsOfDom s d).all fun q => decide (rankOf s q ≤ rankOf s r) || ((s.rail q).st.stopped && !(s.rail q).startPend)

/-- The frames that each rail of a stop sequence has waited since the rails above it stopped (R185). -/
def stopWaits (s : State) (d : Nat) (todo : List Nat) : List (Option Nat) :=
  (List.range 16).map fun r =>
    match (s.dom d).stopWait.getD r none with
    | some n => some (satInc 1000000 n)
    | none => if todo.contains r && aboveStopped s d r then some 0 else none

/-- A stop sequence begins (R185): the highest rank at once. (DEDUCED, log entry 60) -/
def beginStop (d : Nat) (s : State) : State :=
  if (s.dom d).seq = 2 then s else
  let rails := (railsOfDom s d).filter fun r => outOfOff s r && (s.rail r).st != .locked
  let top := maxN (rails.map (rankOf s))
  let first := rails.filter fun r => rankOf s r == top
  let s := (first.foldl (fun s r => stopCmd r s) s).modDom d fun x => { x with stopWait := List.replicate 16 none }
  let todo := rails.filter fun r => rankOf s r != top
  let waits := stopWaits s d todo
  s.modDom d fun x => { x with seq := if rails.isEmpty then 0 else 2, rank := top, todo := todo, issued := first, wait := 0, age := 0
                               stopWait := waits }

/-- One frame of a start sequence (R184): the rank in progress, frames since it became due and since its first start. (DEDUCED, log entry 59; DESIGN CHOICE, log entry 144) -/
def startSeqFrame (d : Nat) (s : State) : State :=
  let x := s.dom d
  let issued := x.issued.filter fun r => !settled s r
  let now := minRank s (x.todo ++ issued)
  s.modDom d fun x =>
    if x.todo.isEmpty && issued.isEmpty then { x with seq := 0, issued := [], wait := 0, age := 0 }
    else if now != x.rank then { x with rank := now, issued := issued, wait := 0, age := 0 }
    else { x with issued := issued, wait := satInc 1000000 x.wait
                  age := if x.issued.isEmpty && x.age == 0 then 0 else satInc 16777216 x.age }

/-- One frame of a stop sequence (R185): each rail's delay counts from the frame at which every rail above it has reached OFF or FAULTED. -/
def stopSeqFrame (d : Nat) (s : State) : State :=
  let x := s.dom d
  let gone (r : Nat) : Bool := (s.rail r).st.stopped && !(s.rail r).startPend
  let issued := x.issued.filter fun r => !gone r
  let todo := x.todo.filter fun r => outOfOff s r && (s.rail r).st != .locked
  let now := maxN ((todo ++ issued).map (rankOf s))
  let waits := stopWaits s d todo
  s.modDom d fun x =>
    if todo.isEmpty && issued.isEmpty then { x with seq := 0, todo := [], issued := [], stopWait := List.replicate 16 none }
    else { x with rank := now, todo := todo, issued := issued, stopWait := waits }

/-- One frame of a domain's sequence. -/
def domFrame (d : Nat) (s : State) : State :=
  if !machinesRun s then s
  else if (s.dom d).seq = 1 then startSeqFrame d s else if (s.dom d).seq = 2 then stopSeqFrame d s else s

/-- SEQUENCE_RANK_START (R184). A start that no longer passes its checks is left to the rank's timeout. NRST of a rail of rank above 0 is cleared
here, where its start is issued (R173). (DESIGN CHOICE, log entry 161) -/
def sequenceRankStart (r : Nat) (s : State) : State :=
  let d := domOf s r
  let x := s.dom d
  if !machinesRun s || x.seq != 1 || !x.todo.contains r || rankOf s r != x.rank || decide (x.wait < dlyOf s r * 10) then s else
  let s := if canStart s r then
      startRail (!x.auto_) (groupOf s d x.rank) r s else s
  s.modDom d fun x => { x with todo := x.todo.filter (· != r), issued := x.issued ++ [r] }

/-- SEQUENCE_RANK_STOP (R185). -/
def sequenceRankStop (r : Nat) (s : State) : State :=
  let d := domOf s r
  let x := s.dom d
  let due := match x.stopWait.getD r none with | some n => decide (dlyOf s r * 10 ≤ n) | none => false
  if !machinesRun s || x.seq != 2 || !x.todo.contains r || !due then s else
  (stopCmd r s).modDom d fun x => { x with todo := x.todo.filter (· != r), issued := x.issued ++ [r] }

/-- RAIL_SEQTO (R186). -/
def railSeqto (d : Nat) (s : State) : State :=
  let x := s.dom d
  let open_ := (List.range 16).filter fun r => (x.issued.contains r || x.todo.contains r) && rankOf s r == x.rank
  match open_ with
  | [] => s
  | r :: _ =>
    if !machinesRun s || x.seq != 1 || decide (x.age < fld (s.pg Pg.DOM Reg.DOM_SEQTO) 23 0) then s else
    event Src.RAIL_SEQTO r (s.modDom d fun x => { x with seq := 0, todo := [], issued := [], wait := 0, age := 0 })

/-! ### Start of a rail (R173-R175, R251) -/

/-- PRECHECK_ENTRY (R26, R174): the frame after an accepted start; DRVEN of the rail's domain is driven high. (DESIGN CHOICE, log entry 3) -/
def precheckEntry (r : Nat) (s : State) : State :=
  if (s.rail r).startPend && (s.rail r).st == .off && machinesRun s then noteDrv (nowCnt s) s (toPrecheck r s) else s

/-- On how many of consecutive samples the switch-node comparator is true, with its hysteresis (R85, R251). -/
def nodeCount (code : Nat) (volts : List Rat) : Nat :=
  (volts.foldl (fun a v => let o := swsOut code a.2 v; (if o then a.1 + 1 else a.1, o)) (0, false)).1

/-- SHORT_CHECK_RESULT (R251): `nodes` gives, for each phase of the rail with EN = 1 in ascending index, the switch node's voltage at
the 256 CKS edges that follow SETTLE, which end 5.12 µs later. (DESIGN CHOICE, log entry 63; DESIGN CHOICE, log entry 151) -/
def shortCheckResult (r : Nat) (nodes : List (List Rat)) (s : State) : State :=
  let x := s.rail r
  if x.st != .precheck || x.scDone || !machinesRun s || decide (x.frames < fld x.scCfg 30 24 + 5) then s else
  let tested := (phasesOf s r).filter (enOf s)
  let high := (tested.zip nodes).filter fun y => decide (128 < nodeCount x.sccode y.2)
  let s := s.modRail r fun x => { x with scDone := true, scres := if high.isEmpty then 1 else 2 }
  high.foldl (fun s y => setCond Src.PH_HS_SHORT y.1 true (s.modPh y.1 fun z => { z with schigh := true })) s

/-- A source of class 3 or above is raised against the rail (R174). -/
def blocked (s : State) (r : Nat) : Bool :=
  s.fc.stand.any fun x => decide (3 ≤ clsOf s x.1) && (railsHit s x.1 x.2).contains r

/-- PREBIAS_ENTRY (R174). -/
def prebiasEntry (r : Nat) (s : State) : State :=
  let x := s.rail r
  if x.st == .precheck && x.scDone && x.ofsLeft.isEmpty && !blocked s r && machinesRun s then toPrebias r s else s

/-- Rails that leave PREBIAS together with `r` (R175). -/
def groupRails (s : State) (r : Nat) : List Nat :=
  if (s.rail r).group = 0 then [r] else (List.range 16).filter fun q => (s.rail q).group == (s.rail r).group

/-- RAMP_ENTRY (R175): every rail of the group has completed its average. (DEDUCED, log entry 62) -/
def rampEntry (r : Nat) (s : State) : State :=
  let g := groupRails s r
  if (s.rail r).st == .prebias && machinesRun s && g.all (fun q => (s.rail q).st == .prebias && (s.rail q).pbN == 16) then
    g.foldl (fun s q => toRamp q s) s
  else s

/-! ### Stop and restart (R181, R183) -/

/-- RAIL_STOPTO (R181). -/
def railStopto (r : Nat) (s : State) : State :=
  if (s.rail r).st == .stopping && machinesRun s && decide (fld (s.rr r Reg.RAIL_STOPTMAX) 23 0 ≤ (s.rail r).frames) then
    event Src.RAIL_STOPTO r (toOff r s)
  else s

/-- The rail stays in FAULTED, and 0x18 says so (R183). -/
def restartGiveUp (r : Nat) (s : State) : State :=
  event Src.RAIL_RSTMAX r (s.modRail r fun x => { x with rstpend := false, rstDelay := none })

/-- RESTART_DELAY_EXPIRY (R183). (DESIGN CHOICE, log entry 134) -/
def restartDelayExpiry (r : Nat) (s : State) : State :=
  let x := s.rail r
  if x.st != .faulted || !x.rstpend || x.rstDelay != some 0 || !machinesRun s then s
  else if x.nmax ≤ x.nrst then restartGiveUp r s
  else s.modRail r fun x => { x with rstDelay := none }

/-- An automatic restart is due (R183). -/
def restartDue (s : State) (r : Nat) : Bool :=
  let x := s.rail r
  x.st == .faulted && x.rstpend && x.rstDelay == none && !faultStands s r && s.dev.st != .safe && machinesRun s

/-- A restart that passes the start checks puts the rail in OFF, counted (R183); one that fails them is given up. -/
def restartOne (r : Nat) (s : State) : State :=
  if startChecks s r then
    let n := satInc 15 (s.rail r).nrst
    (toOff r s).modRail r fun x => { x with nrst := n }
  else restartGiveUp r s

/-- AUTOMATIC_RESTART (R183): with FSCOPE = 1 the rails of the domain that are due start as one domain start. (DEDUCED, log entry 61) -/
def automaticRestart (r : Nat) (s : State) : State :=
  if !restartDue s r then s
  else if fscope s r then
    let d := domOf s r
    if (s.dom d).seq ≠ 0 then s else
    let due := (railsOfDom s d).filter fun q => fscope s q && restartDue s q
    let t := due.foldl (fun s q => restartOne q s) s
    let up := due.filter fun q => (t.rail q).st == .off
    beginStart d false true up t
  else
    let t := restartOne r s
    if (t.rail r).st == .off then startRail false 0 r t else t

/-! ### Hall monitor (R187) -/

/-- RAIL_FOLLOW (R187). -/
def railFollow (r : Nat) (s : State) : State :=
  if !(s.rail r).feact && decide (fld (s.rr r Reg.RAIL_FETIME) 23 0 < (s.rail r).feCnt) && machinesRun s then
    setCond Src.RAIL_FOLLOW r true (s.modRail r fun x => { x with feact := true })
  else s

/-- FOLLOWING_ERROR_REARM (R187). -/
def followRearm (r : Nat) (s : State) : State :=
  if (s.rail r).feact && decide (fld (s.rr r Reg.RAIL_FETIME) 23 0 ≤ (s.rail r).feIn) && machinesRun s then
    setCond Src.RAIL_FOLLOW r false (s.modRail r fun x => { x with feact := false })
  else s

/-! ### Shedding, drip, brake (R212, R218, R223) -/

/-- PHASE_SHED (R209, R212): the last ACTIVE phase in effective order that is not on dead reckoning. -/
def phaseShed (r : Nat) (s : State) : State :=
  if (s.rail r).shedCnt = 0 || decide ((s.rail r).shedCnt < fld (rgOf s r 5) 31 16) || !machinesRun s then s else
  match ((effOrder s r).filter fun p => (s.ph p).pst == .active && !(s.ph p).est).getLast? with
  | none => s
  | some p => activeChanged r (s.modPh p fun x => { x with pst := .shed, joining := false })

/-- PHASE_ADD (R209, R212): the first SHED phase in effective order. -/
def phaseAdd (r : Nat) (s : State) : State :=
  if (s.rail r).addCnt = 0 || decide ((s.rail r).addCnt < fld (rgOf s r 5) 15 0) || !machinesRun s then s else
  match (effOrder s r).find? fun p => (s.ph p).pst == .shed with
  | none => s
  | some p => activeChanged r (joinPhase p s)

/-- DRIP_ENTRY (R218). -/
def dripEntry (r : Nat) (s : State) : State :=
  if (s.rail r).dripCnt = 0 || decide ((s.rail r).dripCnt < fld (rgOf s r 5) 31 16) || !machinesRun s
      || !bit (rgOf s r 1) 31 || (s.rail r).st != .regulate || (s.rail r).ref != (s.rail r).target * 65536 || anyEst s r || injecting s r then s
  else toDrip r s

/-- RAIL_BRAKETO (R223). -/
def railBraketo (r : Nat) (s : State) : State :=
  if (s.rail r).st == .brake && machinesRun s && decide (fld (rgOf s r 3) 31 16 ≤ (s.rail r).frames) then
    event Src.RAIL_BRAKETO r (brakeExit r s)
  else s

/-! ### Meanings -/

/-- PRECHECK_ENTRY (R174). -/
def execPrecheckEntry (r : Fin 16) (s : State) : Host.Outcome State Fault Refusal := .next (clocked (precheckEntry r) s.begin)
/-- SHORT_CHECK_RESULT (R251). -/
def execShortCheckResult (r : Fin 16) (nodes : List (List Rat)) (s : State) : Host.Outcome State Fault Refusal :=
  .next (clocked (shortCheckResult r nodes) s.begin)
/-- PREBIAS_ENTRY (R174). -/
def execPrebiasEntry (r : Fin 16) (s : State) : Host.Outcome State Fault Refusal := .next (clocked (prebiasEntry r) s.begin)
/-- RAMP_ENTRY (R175). -/
def execRampEntry (r : Fin 16) (s : State) : Host.Outcome State Fault Refusal := .next (clocked (rampEntry r) s.begin)
/-- RAIL_STOPTO (R181). -/
def execRailStopto (r : Fin 16) (s : State) : Host.Outcome State Fault Refusal := .next (clocked (railStopto r) s.begin)
/-- RESTART_DELAY_EXPIRY (R183). -/
def execRestartDelayExpiry (r : Fin 16) (s : State) : Host.Outcome State Fault Refusal :=
  .next (clocked (restartDelayExpiry r) s.begin)
/-- AUTOMATIC_RESTART (R183). -/
def execAutomaticRestart (r : Fin 16) (s : State) : Host.Outcome State Fault Refusal := .next (clocked (automaticRestart r) s.begin)
/-- SEQUENCE_RANK_START (R184). -/
def execSequenceRankStart (r : Fin 16) (s : State) : Host.Outcome State Fault Refusal := .next (clocked (sequenceRankStart r) s.begin)
/-- SEQUENCE_RANK_STOP (R185). -/
def execSequenceRankStop (r : Fin 16) (s : State) : Host.Outcome State Fault Refusal := .next (clocked (sequenceRankStop r) s.begin)
/-- RAIL_SEQTO (R186). -/
def execRailSeqto (d : Fin 4) (s : State) : Host.Outcome State Fault Refusal := .next (clocked (railSeqto d) s.begin)
/-- RAIL_FOLLOW (R187). -/
def execRailFollow (r : Fin 16) (s : State) : Host.Outcome State Fault Refusal := .next (clocked (railFollow r) s.begin)
/-- FOLLOWING_ERROR_REARM (R187). -/
def execFollowingErrorRearm (r : Fin 16) (s : State) : Host.Outcome State Fault Refusal := .next (clocked (followRearm r) s.begin)
/-- PHASE_SHED (R212). -/
def execPhaseShed (r : Fin 16) (s : State) : Host.Outcome State Fault Refusal := .next (clocked (phaseShed r) s.begin)
/-- PHASE_ADD (R212). -/
def execPhaseAdd (r : Fin 16) (s : State) : Host.Outcome State Fault Refusal := .next (clocked (phaseAdd r) s.begin)
/-- DRIP_ENTRY (R218). -/
def execDripEntry (r : Fin 16) (s : State) : Host.Outcome State Fault Refusal := .next (clocked (dripEntry r) s.begin)
/-- RAIL_BRAKETO (R223). -/
def execRailBraketo (r : Fin 16) (s : State) : Host.Outcome State Fault Refusal := .next (clocked (railBraketo r) s.begin)

end Sys2Proof.Machine
end

