-- ==== Sys2Proof/Machine/Limits.lean ====
section
/-! DEFINITION. Machine/Limits.lean: protection of load and power stage (R242-R248, R297): voltage and thermal limits, die
temperature guard, internal supplies. -/

namespace Sys2Proof.Machine

/-- Fault source of a voltage limit (R242). -/
def vlimSrc : VLim → Nat
  | .ov => Src.RAIL_OV | .uv => Src.RAIL_UV | .xov => Src.RAIL_XOV | .xuv => Src.RAIL_XUV

/-- Limit code of a voltage limit (R242). -/
def vlimOf (s : State) (r : Nat) : VLim → Nat
  | .ov => fld (s.rr r Reg.RAIL_VLIM) 31 16 | .uv => fld (s.rr r Reg.RAIL_VLIM) 15 0
  | .xov => fld (s.rr r Reg.RAIL_XLIM) 31 16 | .xuv => fld (s.rr r Reg.RAIL_XLIM) 15 0

/-- An overvoltage limit. -/
def vlimOver : VLim → Bool
  | .ov | .xov => true | .uv | .xuv => false

/-- The limit is enabled (R242). -/
def vlimEnabled (k : VLim) (code : Nat) : Bool := if vlimOver k then code != 0xFFFF else code != 0

/-- The condition of a limit. -/
def condOf (x : Rail) : VLim → Cond
  | .ov => x.ov | .uv => x.uv | .xov => x.xov | .xuv => x.xuv

/-- The rail with the condition of a limit replaced. -/
def setCondOf (k : VLim) (c : Cond) (x : Rail) : Rail :=
  match k with
  | .ov => { x with ov := c } | .uv => { x with uv := c } | .xov => { x with xov := c } | .xuv => { x with xuv := c }

/-- The limit is armed in the rail's state (R244). -/
def vlimArmed (x : Rail) : VLim → Bool
  | .ov | .xov => x.st != .locked
  | .xuv => !x.st.stopped
  | .uv => x.uvArmed

/-- What a limit compares (R242); none while the channel is failed, in which the counts hold (R243). -/
def vlimValue (s : State) (r : Nat) : VLim → Option Nat
  | .ov | .uv => if vsFailed s r then none else some (s.rail r).vabs
  | .xov | .xuv => if ffsrc s r = 0x3F || ffFailed s r then none else some (otherCode s r)

/-- Frames for a limit to stand and to clear (R243). -/
def vlimFrames (s : State) (r : Nat) (k : VLim) : Nat :=
  let c := s.rr r Reg.RAIL_LIMT
  if vlimOver k then fld c 31 24 else fld c 23 16

/-- One frame of one voltage limit (R243). -/
def vlimFrame (k : VLim) (r : Nat) (s : State) : State :=
  let lim := vlimOf s r k
  if !vlimEnabled k lim || !vlimArmed (s.rail r) k then s else
  match vlimValue s r k with
  | none => s
  | some v =>
    let hys := fld (s.rr r Reg.RAIL_LIMT) 15 0
    let beyond := if vlimOver k then decide (lim < v) else decide (v < lim)
    let inside := if vlimOver k then decide (v + hys ≤ lim) else decide (lim + hys ≤ v)
    s.modRail r fun x => setCondOf k ((condOf x k).count beyond inside) x

/-- A limit's count and standing condition end: disabled by a write, or out of its armed states (R244). -/
def endLimit (k : VLim) (r : Nat) (s : State) : State :=
  setCond (vlimSrc k) r false (s.modRail r (setCondOf k Cond.init))

/-- VOLTAGE_LIMIT_STANDS (R243). -/
def voltageLimitStands (r : Nat) (k : VLim) (s : State) : State :=
  let n := vlimFrames s r k
  let c := condOf (s.rail r) k
  let c' := c.judge n n
  if c.on || !c'.on then s else setCond (vlimSrc k) r true (s.modRail r (setCondOf k c'))

/-- VOLTAGE_LIMIT_CLEARS (R243). -/
def voltageLimitClears (r : Nat) (k : VLim) (s : State) : State :=
  let n := vlimFrames s r k
  let c := condOf (s.rail r) k
  let c' := c.judge n n
  if !c.on || c'.on then s else setCond (vlimSrc k) r false (s.modRail r (setCondOf k c'))

/-! ### Thermal limits (R246) -/

/-- The value a thermal limit watches, and whether it is signed (R246). -/
def thermalValue (s : State) (r : Nat) : Int × Bool :=
  let src := fld (s.rr r Reg.RAIL_THCFG) 7 0
  if src < 16 then ((s.aux.val.getD src 0 : Nat), false)
  else if 0x40 ≤ src && src < 0x80 then ((s.sb.ent[src - 0x40]?).map (·.val) |>.getD 0, true)
  else (s.aux.tdie, true)

/-- A level in the source's format. -/
def thermalCode (signed : Bool) (c : Nat) : Int := if signed then s16 c else (c : Int)

/-- The thermal conditions and what hangs on them end. -/
def endThermal (r : Nat) (s : State) : State :=
  let s := setCond Src.RAIL_OT r false (setCond Src.RAIL_TWARN r false s)
  s.modRail r fun x => { x with tw := Cond.init, ot := Cond.init, derate := false }

/-- One frame of the thermal limits (R246). -/
def thermalFrame (r : Nat) (s : State) : State :=
  let c := s.rr r Reg.RAIL_THCFG
  if !bit c 31 || (s.rail r).st == .locked then s else
  let (v, sg) := thermalValue s r
  let neg := bit c 30
  let hys := thermalCode sg (fld (rgOf s r 4) 31 16)
  let judge (lvl : Int) (q : Cond) : Cond :=
    if neg then q.count (decide (v < lvl)) (decide (lvl + hys ≤ v)) else q.count (decide (lvl < v)) (decide (v + hys ≤ lvl))
  let l := s.rr r Reg.RAIL_THLIM
  s.modRail r fun x => { x with thval := c16 v, tw := judge (thermalCode sg (fld l 15 0)) x.tw
                                ot := judge (thermalCode sg (fld l 31 16)) x.ot }

/-- THERMAL_LIMIT_STANDS (R246). -/
def thermalLimitStands (r : Nat) (trip : Bool) (s : State) : State :=
  let c := if trip then (s.rail r).ot else (s.rail r).tw
  let c' := c.judge 64 64
  if c.on || !c'.on then s
  else if trip then setCond Src.RAIL_OT r true (s.modRail r fun x => { x with ot := c' })
  else setCond Src.RAIL_TWARN r true (s.modRail r fun x => { x with tw := c' })

/-- THERMAL_LIMIT_CLEARS (R246, R247). -/
def thermalLimitClears (r : Nat) (trip : Bool) (s : State) : State :=
  let c := if trip then (s.rail r).ot else (s.rail r).tw
  let c' := c.judge 64 64
  if !c.on || c'.on then s
  else if trip then setCond Src.RAIL_OT r false (s.modRail r fun x => { x with ot := c' })
  else setCond Src.RAIL_TWARN r false (s.modRail r fun x => { x with tw := c', derate := false })

/-- One frame of a rail's protection. -/
def limitFrame (r : Nat) (s : State) : State :=
  thermalFrame r (vlimFrame .xuv r (vlimFrame .xov r (vlimFrame .uv r (vlimFrame .ov r s))))

/-! ### Die temperature and supplies (R248, R297) -/

/-- DIE_TEMPERATURE_GUARD (R248). -/
def dieGuard (s : State) : State :=
  if s.dev.rst || s.dev.clkStop || s.dev.st == .boot then s else
  let w := s.aux.dieWarn.judge 4 4
  let h := s.aux.dieShut.judge 4 4
  let s := { s with aux := { s.aux with dieWarn := w, dieShut := h } }
  setCond Src.DEV_TSHUT 0 h.on (setCond Src.DEV_TWARN 0 w.on s)

/-- DEV_SUPPLY (R297). -/
def devSupply (n : Nat) (s : State) : State :=
  if s.dev.rst || s.dev.clkStop || s.dev.st == .boot then s else
  let c := (s.aux.supply.getD n Cond.init).judge 4 4
  setCond Src.DEV_SUPPLY n c.on { s with aux := { s.aux with supply := s.aux.supply.set n c } }

/-! ### Meanings -/

/-- VOLTAGE_LIMIT_STANDS (R243). -/
def execVoltageLimitStands (r : Fin 16) (lim : VLim) (s : State) : Host.Outcome State Fault Refusal :=
  .next (clocked (voltageLimitStands r lim) s.begin)
/-- VOLTAGE_LIMIT_CLEARS (R243). -/
def execVoltageLimitClears (r : Fin 16) (lim : VLim) (s : State) : Host.Outcome State Fault Refusal :=
  .next (clocked (voltageLimitClears r lim) s.begin)
/-- THERMAL_LIMIT_STANDS (R246). -/
def execThermalLimitStands (r : Fin 16) (trip : Bool) (s : State) : Host.Outcome State Fault Refusal :=
  .next (clocked (thermalLimitStands r trip) s.begin)
/-- THERMAL_LIMIT_CLEARS (R246). -/
def execThermalLimitClears (r : Fin 16) (trip : Bool) (s : State) : Host.Outcome State Fault Refusal :=
  .next (clocked (thermalLimitClears r trip) s.begin)
/-- DIE_TEMPERATURE_GUARD (R248). -/
def execDieTemperatureGuard (s : State) : Host.Outcome State Fault Refusal := .next (clocked dieGuard s.begin)
/-- DEV_SUPPLY (R297). -/
def execDevSupply (n : Fin 3) (s : State) : Host.Outcome State Fault Refusal := .next (clocked (devSupply n) s.begin)

end Sys2Proof.Machine
end

