-- ==== Sys2Proof/Machine/Grid.lean ====
section
/-! DEFINITION. Machine/Grid.lean: the angle tracker (R191-R196) and the clock monitor (R64-R71). -/

namespace Sys2Proof.Machine

/-! ### Angle tracker -/

/-- The frequency estimate: before the first valid edge, the nominal frequency (R192). -/
def estNow (s : State) : Rat := if s.grid.valid then s.grid.fEst else fnomOf (s.pg Pg.GRID Reg.GRID_CFG)

/-- The frame edge's advance of the accumulator: the rest of the frame's 50 CKS edges (R192). -/
def gridFrame (s : State) : State :=
  { s with grid := { s.grid with acc := (s.grid.acc + (50 - s.grid.accAt % 50) * incNow s) % accMod, accAt := 50 * s.dev.frame } }

/-- The running frequency put in force from the present CKS edge on (R192, R193). -/
def setFrun (s : State) (f : Rat) (g : Grid) : Grid := { g.upTo s (incNow s) with fRun := f, inc := gridInc f }

/-- One step of the law at a valid edge at distance `d` (R193), with the count toward lock (R194). -/
def gridStep (t d : Nat) (s : State) : State :=
  let g := { s.grid with cfg := s.pg Pg.GRID Reg.GRID_CFG, zcofs := fld (s.pg Pg.GRID Reg.GRID_ZCOFS) 15 0 }
  let win := s.pg Pg.GRID Reg.GRID_WIN
  let phi := angDiff g.zcofs (accNear s t / 16777216 % 65536)
  let fm : Rat := 400000000 / (d : Rat)
  let fe := if g.lock then g.fEst + (fm - g.fEst) / ((2 ^ fld g.cfg 10 8 : Nat) : Rat) else fm
  let pull : Rat := if g.lock then (phi : Rat) / 65536 / ((2 ^ fld g.cfg 2 0 : Nat) : Rat) else (phi : Rat) / 65536
  let near := decide (phi.natAbs ≤ fld win 15 0)
  -- a blend in progress keeps its weight when its length changes with the nominal frequency (R196, R204)
  let s := if bit g.cfg 31 == bit s.grid.cfg 31 then s else
    let len (w : Word) : Nat := if bit w 31 then 133336 else 160000
    loop 16 (fun s r => s.modRail r fun x =>
      { x with w := (roundAway ((x.w * len g.cfg : Nat) / ((len s.grid.cfg : Nat) : Rat))).toNat }) s
  let g := { g with ref := some t, phErr := phi, per := d, fEst := fe, valid := true
                    lcnt := if g.lock then g.lcnt else if near then satInc 15 g.lcnt else 0
                    mcnt := 0, missed := 0
                    tooFar := g.lock && decide (fld win 31 16 < phi.natAbs) }
  { s with grid := setFrun s (fe * (1 + pull)) g }

/-- GRIDZC_EDGE (R100, R191): an edge after which the pin stays high for the filter length; its time stamp, and its class by its distance
from the reference edge. -/
def gridzcEdge (frame cnt high : Nat) (s : State) : State :=
  if !sensing s || decide (high < 8 * fld (s.pg Pg.SETIN Reg.SETIN_ZCFILT) 7 0) then s else
  let t := frame * 400 + cnt
  let s := { s with grid := { s.grid with zcFrame := frame, zcCnt := cnt } }
  match s.grid.ref with
  | none => { s with grid := { s.grid with ref := some t } }
  | some t0 =>
    let d := t - t0
    if d < 5714286 then
      event Src.GRID_EDGE_REJ 0 { s with grid := { s.grid with rej := satInc 0xFFFF s.grid.rej } }
    else if d ≤ 10000000 then gridStep t d s
    else { s with grid := { s.grid with ref := some t, lcnt := 0, missed := 0 } }

/-- GRID_LOCK (R194). -/
def gridLock (s : State) : State :=
  if !sensing s || s.grid.lock || s.grid.lcnt = 0 || decide (s.grid.lcnt < fld s.grid.cfg 23 20) then s else
  event Src.GRID_LOCK 0 { s with grid := { s.grid with lock := true, tooFar := false } }

/-- MISSED_PERIOD (R194, R195): 1.25 / f_est after the reference edge, and at each further 1 / f_est. -/
def missedPeriod (s : State) : State :=
  match s.grid.ref with
  | none => s
  | some t =>
    let past : Rat := ((s.dev.frame * 400 : Nat) : Rat) - (t : Rat)
    let due : Rat := (5 / 4 + (if s.grid.lock then (s.grid.missed : Rat) else 0)) * 400000000 / estNow s
    if !sensing s || past < due then s
    else if s.grid.lock then { s with grid := { s.grid with mcnt := satInc 15 s.grid.mcnt, missed := s.grid.missed + 1 } }
    else { s with grid := { s.grid with lcnt := 0 } }

/-- GRID_UNLOCK (R193, R195): holdover at f_est. LCNT holds its value while LOCK = 1 and is cleared here (R194); where both conditions hold the
missed periods are reported (R195). (DESIGN CHOICE, log entry 160) -/
def gridUnlock (s : State) : State :=
  let missed := decide (fld s.grid.cfg 27 24 ≤ s.grid.mcnt)
  if !sensing s || !s.grid.lock || !(missed || s.grid.tooFar) then s else
  let g := { s.grid with lock := false, lcnt := 0, tooFar := false, ulk := satInc 0xFFFF s.grid.ulk }
  event Src.GRID_UNLOCK (if missed then 0 else 1) { s with grid := setFrun s g.fEst g }

/-! ### Clock monitor (R64-R71) -/

/-- Transfers in progress end as if abandoned, with no record (R360): what a clock loss does to the ports. The bytes they have completed
are counted at the next frame edge (R406). -/
def abandonPorts (s : State) : State :=
  let quit (p : Spi) : Spi := if p.sel && p.serve then { p with serve := false, prev := p.code } else p
  let s := loop 2 (fun s k => if (s.ports.spi.getD k Spi.init).sel && (s.ports.spi.getD k Spi.init).serve then cutUnit k s else s) s
  let s := if s.ports.hpc.busy && s.ports.hpc.serve then cutUnit 2 s else s
  { s with ports := { s.ports with spi := s.ports.spi.map quit
                                   hpc := { s.ports.hpc with serve := false, held := none } } }

/-- A clock loss (R64, R65, R316): the clocks stand, outputs are in high impedance, the device is in SAFE, its own lanes carry the
safe pattern. The frame's cycles to come are not run (R62). In step 1 of BOOT, before the PLL has locked, the clock monitor counts and reports
nothing (R64, R413), and after it a loss in BOOT leaves SAFEHOLD at 0 (R65). (DESIGN CHOICE, log entry 14; DESIGN CHOICE, log entry 69; DESIGN CHOICE, log entry 159) -/
def clockLoss (ref : Bool) (s : State) : State :=
  if s.dev.rst || (s.dev.st == .boot && !s.dev.pllUp) then s else
  let d := s.dev
  let held := if d.clkStop then d.irqHeld else (List.range 3).map fun h => irqPin s h
  let s := if d.clkStop then s else nvClockLoss (abandonPorts (freezeAll s))
  let enter := d.st == .idle || d.st == .active || d.st == .standby
  let st := if enter then DevState.safe else d.st
  let s := if enter then setEvt Pg.FC 4 s else s
  { s with dev := { d with
      clkStop := true, irqHeld := held, st := st, safeHold := d.safeHold || d.st != .boot
      causeRef := (d.clkStop && d.causeRef) || ref, causePll := (d.clkStop && d.causePll) || !ref
      lossRef := d.lossRef || ref, lossPll := d.lossPll || !ref
      refLoss := if ref then satInc 0xFFFF d.refLoss else d.refLoss
      pllUnlk := if ref then d.pllUnlk else satInc 0xFFFF d.pllUnlk
      lastLoss := BitVec.ofNat 32 d.frame }
           fc := { s.fc with safe := s.fc.safe || st == .safe }
           twin := { s.twin with pst := if st == .safe && s.twin.pst == .forming then .orphan else s.twin.pst, tx := none
                                 pattern := (st == .safe || st == .locked) && bit (s.pg Pg.TWIN Reg.TWIN_CFG) 31 } }

/-- RC_MEASUREMENT (R68): once every 1000 frames; before they have passed it measures nothing. (DESIGN CHOICE, log entry 122; DESIGN CHOICE, log entry 158) -/
def rcMeasurement (count : Nat) (s : State) : State :=
  if s.dev.rst || s.dev.clkStop || !s.dev.pllUp || decide (s.dev.rcAge < 1000) then s else
  let good := decide (28800 ≤ count) && decide (count ≤ 35200)
  let run := if good == s.dev.rcOk then 0 else s.dev.rcRun + 1
  let s := { s with dev := { s.dev with rcMeas := min 65535 count, rcAge := 0, rcRun := if 2 ≤ run then 0 else run
                                        rcOk := if 2 ≤ run then good else s.dev.rcOk } }
  setCond Src.CLK_RC_FAIL 0 (!s.dev.rcOk) s

/-! ### Meanings -/

/-- GRIDZC_EDGE (R100). -/
def execGridzcEdge (frame cnt : Nat) (s : State) (high : Nat := 4000) : Host.Outcome State Fault Refusal :=
  .next (clocked (gridzcEdge frame cnt high) (s.begin none (some (frame * 400 + cnt))))
/-- GRID_LOCK (R194). -/
def execGridLock (s : State) : Host.Outcome State Fault Refusal := .next (clocked gridLock s.begin)
/-- MISSED_PERIOD (R195). -/
def execMissedPeriod (s : State) : Host.Outcome State Fault Refusal := .next (clocked missedPeriod s.begin)
/-- GRID_UNLOCK (R195). -/
def execGridUnlock (s : State) : Host.Outcome State Fault Refusal := .next (clocked gridUnlock s.begin)
/-- REFERENCE_LOSS (R64). -/
def execReferenceLoss (s : State) : Host.Outcome State Fault Refusal := .next (clockLoss true s.begin)
/-- PLL_UNLOCK (R64). -/
def execPllUnlock (s : State) : Host.Outcome State Fault Refusal := .next (clockLoss false s.begin)
/-- RC_MEASUREMENT (R68). -/
def execRcMeasurement (count : Nat) (s : State) : Host.Outcome State Fault Refusal := .next (clocked (rcMeasurement count) s.begin)

end Sys2Proof.Machine
end

