-- ==== Sys2Proof/Machine/Measure.lean ====
section
/-! DEFINITION. Machine/Measure.lean: snapshot capture (R101-R103), the cupping unit's results (R258-R267), the performance
counters' own events (R398-R405). -/

namespace Sys2Proof.Machine

/-! ### Snapshot capture (R101-R103) -/

/-- Latest result of a capture channel (SAMP_CAPSEL): as a 16-bit sample, and in its own format for the level. -/
def chanValue (s : State) (c : Nat) : Int :=
  if c < 0x10 then ((s.rail c).vloop : Int)
  else if c < 0x20 then ((s.rail (c - 0x10)).vabs : Int)
  else if c < 0x50 then (s.ph (c - 0x20)).ilast
  else ((s.aux.val.getD (c - 0x50) 0 : Nat) : Int)

/-- Channels that SAMP_CAPSEL selects, CH0 first. -/
def capSelected (w : Word) : List Nat := ([fld w 7 0, fld w 15 8, fld w 23 16, fld w 31 24]).filter (· != 0xFF)

/-- LEVEL in channel 0's format. -/
def capLevel (s : State) : Int :=
  let l := fld (s.pg Pg.SAMP Reg.SAMP_CAPLVL) 15 0
  let c := fld (s.pg Pg.SAMP Reg.SAMP_CAPSEL) 7 0
  if 0x20 ≤ c && c < 0x50 then s16 l else (l : Int)

/-- Samples per channel held so far. -/
def capLen (c : Capt) : Nat := ((c.chans.head?).map List.length).getD 0

/-- Samples before the trigger: PRE, at most the channel's share. -/
def capPre (s : State) : Nat := min (fld (s.pg Pg.SAMP Reg.SAMP_CAPCFG) 27 16) s.capt.share

/-- The trigger of R103 occurs at this tick: the sample reaches LEVEL from one beyond it. (DESIGN CHOICE, log entry 165) -/
def capTrigger (s : State) (now : Option Int) : Bool :=
  let c := s.pg Pg.SAMP Reg.SAMP_CAPCFG
  let lvl := capLevel s
  match fld c 31 30 with
  | 0 => decide (capPre s ≤ capLen s.capt) || s.capt.sel.isEmpty
  | 1 => s.capt.srcSeen
  | 2 => (match s.capt.prev0, now with | some a, some b => decide (a < lvl) && decide (lvl ≤ b) | _, _ => false)
  | _ => (match s.capt.prev0, now with | some a, some b => decide (lvl < a) && decide (b ≤ lvl) | _, _ => false)

/-- CAPTURE_TICK (R101, R103): every selected channel's latest result is stored, newest first; before the trigger only the
latest PRE samples are kept, and nothing is stored beyond the channel's share. (DEDUCED, log entry 70) -/
def captureTick (s : State) : State :=
  if !sensing s || s.capt.st ≠ 1 || s.capt.owner ≠ 1 then s else
  let pre := capPre s
  let c0 := fld (s.pg Pg.SAMP Reg.SAMP_CAPSEL) 7 0
  let now := if c0 = 0xFF then none else some (chanValue s c0)
  let fire := s.capt.trig.isNone && capTrigger s now
  let c := s.capt
  let trig := if fire then some (min pre (capLen c)) else c.trig
  let add (l : List Nat) (ch : Nat) : List Nat :=
    if trig.isSome then (if l.length < c.share then c16 (chanValue s ch) :: l else l)
    else c16 (chanValue s ch) :: l.take (pre - 1)
  let keep (l : List Nat) (ch : Nat) : List Nat := if trig.isNone && pre = 0 then [] else add l ch
  { s with capt := { c with chans := (c.chans.zip c.sel).map fun x => keep x.1 x.2
                            trig := trig, srcSeen := false, prev0 := now } }

/-- CAPTURE_DONE (R103). -/
def captureDone (s : State) : State :=
  if !sensing s || s.capt.st ≠ 1 || s.capt.owner ≠ 1 || s.capt.trig.isNone
      || !s.capt.chans.all (fun l => l.length == s.capt.share) then s else
  event Src.CAP_DONE 0 { s with capt := { s.capt with st := 2 } }

/-! ### Cupping unit (R258-R267) -/

/-- The complex loop gain L = -U / X of a measurement (R258). -/
def loopGain (c : CupSums) : Rat × Rat :=
  let n := c.xs * c.xs + c.xc * c.xc
  (-(c.us * c.xs + c.uc * c.xc) / n, -(c.uc * c.xs - c.us * c.xc) / n)

/-- arg L in ANG16 (R258); a loop gain of zero has none. (DESIGN CHOICE, log entry 51) -/
def argOf (s : State) (re im : Rat) : Nat := if re = 0 ∧ im = 0 then Config.anyCode s.cyc % 65536 else ang16 re im

/-- Frequency of point `i` of a sweep (R260). -/
def sweepFreq (s : State) (i : Nat) : Word :=
  let a := bf (s.pg Pg.CUP Reg.CUP_FSTART)
  let b := bf (s.pg Pg.CUP Reg.CUP_FSTOP)
  let n := fld (s.pg Pg.CUP Reg.CUP_NPTS) 9 0 - 1
  if i = 0 then toBF a else if n ≤ i then toBF b else geoBF a b n i

/-- The points with their phases unwrapped (R261): frequency, |L|, phase in 1/65536 turn. -/
def unwrap : List (Word × Word × Nat) → Option Int → List (Rat × Rat × Int)
  | [], _ => []
  | (f, g, p) :: t, prev =>
    let q : Int := match prev with
      | none => s16 p
      | some a => a + angDiff p (a % 65536).toNat
    (bf f, bf g, q) :: unwrap t (some q)

/-- The first pair of neighbours that satisfies a condition. -/
def firstPair (f : Rat × Rat × Int → Rat × Rat × Int → Bool) : List (Rat × Rat × Int) → Option ((Rat × Rat × Int) × (Rat × Rat × Int))
  | a :: b :: t => if f a b then some (a, b) else firstPair f (b :: t)
  | _ => none

/-- The value a share `t` of the way from `a` to `b` (R261). -/
def between (t a b : Rat) : Rat := a + t * (b - a)

/-- `exp` of the value a share `t` of the way from `ln a` to `ln b`: interpolation of a logarithm (R261). -/
def geoBetween (t a b : Rat) : Rat := expFix (roundAway (between t (lnFix a) (lnFix b)))

/-- Crossover and gain margin of a finished sweep, by interpolation linear in log f (R261). A response of zero has no logarithm: it
leaves what it would be interpolated to open. (DESIGN CHOICE, log entry 51) -/
def sweepResult (s : State) : State :=
  let l := unwrap s.cup.pts none
  let open_ (a b : Rat × Rat × Int) := decide (a.2.1 = 0) || decide (b.2.1 = 0)
  let any := Config.anyCode s.cyc
  let s := match firstPair (fun a b => decide (1 ≤ a.2.1) && decide (b.2.1 < 1)) l with
    | none => { s with cup := { s.cup with noxo := true, xo := 0 } }
    | some (a, b) =>
      let ya : Rat := lnFix a.2.1
      let t := ya / (ya - (lnFix b.2.1 : Rat))
      let xo := if open_ a b then BitVec.ofNat 32 (any % 16777216) else toBF (clampR a.1 b.1 (geoBetween t a.1 b.1))
      let ph := if open_ a b then any else c16 (roundAway (between t a.2.2 b.2.2))
      { s with cup := { s.cup with noxo := false, xo := xo, pm := (ph + 0x8000) % 65536 } }
  match firstPair (fun a b => decide (-32768 < a.2.2) && decide (b.2.2 ≤ -32768)) l with
  | none => { s with cup := { s.cup with nogm := true, gm := 0 } }
  | some (a, b) =>
    let t : Rat := ((a.2.2 + 32768 : Int) : Rat) / ((a.2.2 - b.2.2 : Int) : Rat)
    let gm := if open_ a b then BitVec.ofNat 32 (any % 16777216) else toBF (1 / geoBetween t a.2.1 b.2.1)
    { s with cup := { s.cup with nogm := false, gm := gm } }

/-- The eight buffer samples of a completed point (R265). -/
def pointSamples (f g : Word) (p : Nat) : List Nat := [fld f 15 0, fld f 23 16, fld g 15 0, fld g 23 16, p, 1, 0, 0]

/-- CUP_MEASUREMENT_DONE (R258-R261, R265): the result of a complete integration is written. (DESIGN CHOICE, log entry 137) -/
def cupDone (s : State) : State :=
  match s.cup.result with
  | none => s
  | some m =>
    if !s.cup.run then s else
    let g := gainOf s m
    let l := loopGain m
    let a := argOf s l.1 l.2
    let s := { s with cup := { s.cup with result := none, gain := g, ph := a, pm := (a + 0x8000) % 65536 } }
    let finish (s : State) : State :=
      { s with cup := { s.cup with ending := if s.cup.ending.isNone then some (true, false) else s.cup.ending } }
    match s.cup.mode with
    | 0 => finish s
    | 1 => s
    | _ =>
      let s := { s with capt := { s.capt with sweep := s.capt.sweep ++ pointSamples s.cup.f g a }
                        cup := { s.cup with pts := s.cup.pts ++ [(s.cup.f, g, a)] } }
      let n := fld (s.pg Pg.CUP Reg.CUP_NPTS) 9 0
      if n ≤ s.cup.pt + 1 then finish (sweepResult s)
      else cupRestart { s with cup := { s.cup with pt := s.cup.pt + 1, f := sweepFreq s (s.cup.pt + 1) } }

/-- INJECTION_END (R263): the next zero of the injected sine has been reached. -/
def injectionEnd (s : State) : State :=
  match s.cup.ending with
  | none => s
  | some (done, byRail) => if s.cup.run && s.cup.zero then endInjection done byRail s else s

/-! ### Performance counters (R398-R405) -/

/-- PERF_WRAP (R401): the flag of a wrap. -/
def perfWrap (n : Nat) (s : State) : State :=
  if !(s.perf.wrapped.getD n false) then s else
  let s := { s with perf := { s.perf with wrapped := s.perf.wrapped.set n false } }
  let s := s.setReg (Pg.PERF * 256 + Reg.PERF_OVF) (s.pg Pg.PERF Reg.PERF_OVF ||| BitVec.ofNat 32 (2 ^ n))
  setEvt Pg.PERF 1 s

/-- BANDWIDTH_WINDOW_END (R405). (DESIGN CHOICE, log entry 74) -/
def bwEnd (s : State) : State :=
  if s.dev.rst || s.dev.clkStop || s.perf.bwLeft ≠ 0 then s else
  let s := { s with perf := { s.perf with bw := s.perf.bwAcc.map (min 4294967295), bwAcc := List.replicate 6 0
                                          bwSeq := (s.perf.bwSeq + 1) % 65536
                                          bwLeft := fld (s.pg Pg.PERF Reg.PERF_BWWIN) 15 0 } }
  setEvt Pg.PERF 2 s

/-! ### Meanings -/

/-- CAPTURE_TICK (R101). -/
def execCaptureTick (s : State) : Host.Outcome State Fault Refusal := .next (clocked captureTick s.begin)
/-- CAPTURE_DONE (R103). -/
def execCaptureDone (s : State) : Host.Outcome State Fault Refusal := .next (clocked captureDone s.begin)
/-- CUP_MEASUREMENT_DONE (R259). -/
def execCupMeasurementDone (s : State) : Host.Outcome State Fault Refusal := .next (clocked cupDone s.begin)
/-- INJECTION_END (R263). -/
def execInjectionEnd (s : State) : Host.Outcome State Fault Refusal := .next (clocked injectionEnd s.begin)
/-- PERF_WRAP (R401). -/
def execPerfWrap (n : Fin 32) (s : State) : Host.Outcome State Fault Refusal := .next (clocked (perfWrap n) s.begin)
/-- BANDWIDTH_WINDOW_END (R405). -/
def execBandwidthWindowEnd (s : State) : Host.Outcome State Fault Refusal := .next (clocked bwEnd s.begin)

end Sys2Proof.Machine
end

