-- ==== Sys2Proof/Machine/View.lean ====
section
/-! DEFINITION. Machine/View.lean: what a read of each register returns (R424, R429, R430, R433): stored fields as last accepted,
read-only fields from the block's state. -/

namespace Sys2Proof.Machine

/-! ### Views of the blocks -/

/-- PG_STS.IDLE of a page (R431). During BOOT the device counts as IDLE. -/
def blockIdle (s : State) (pg : Nat) : Bool :=
  let devIdle := s.dev.st == .idle || s.dev.st == .boot
  if Pg.RAIL ≤ pg && pg < Pg.PH then inOff s (pg - Pg.RAIL)
  else if Pg.PH ≤ pg && pg < Pg.RCOMP then
    (match railOf s (pg - Pg.PH) with | some r => inOff s r | none => true) && !enOf s (pg - Pg.PH)
  else if pg = Pg.NV then s.nv.cur.isNone
  else if pg = Pg.TWIN || pg = Pg.GANG then devIdle
  else true

/-- PG_STS.STAND of a page (R427). -/
def pageStands (s : State) (pg : Nat) : Bool :=
  match pageType pg with
  | none => false
  | some (t, n) =>
    match forceBase t with
    | none => false
    | some (b, k) => (t == .fc && s.fc.self) || s.fc.stand.any fun x => decide (b ≤ x.1) && decide (x.1 < b + k)
        && (match t with | .rail | .ph => x.2 == n | _ => true)

/-- Registers common to every page (R424), for host `h`. -/
def viewCommon (s : State) (h pg : Nat) (t : PType) (n off : Nat) : Word :=
  match off with
  | 0 => pack [(t.code, 24), (n, 16), (1, 8), (t.nreg, 0)]
  | 1 => pack [(b2n (bit (s.pg pg Reg.PG_CTL) 31), 31), (1, 0)]
  | 2 => pack [(b2n (s.dev.st == .locked || (isStandby s && pg != Pg.TWIN)), 31), (b2n (blockIdle s pg), 30),
      (b2n (s.pg pg Reg.PG_EVT != 0), 29), (b2n (pageStands s pg), 28)]
  | 3 => s.pg pg Reg.PG_EVT
  | 4 => s.reg (hostKey h (pg * 256 + Reg.PG_EVTEN))
  | 6 =>
    let own := 3 * 4 ^ owner s
    let other (k : Nat) : Nat := if k = owner s then 0 else if pg = Pg.HOST then 4 ^ k else fld (s.pg pg Reg.PG_ACL) (2 * k + 1) (2 * k) * 4 ^ k
    BitVec.ofNat 32 (own + other 0 + other 1 + other 2)
  | _ => 0

/-- Mean energy duty of a rail's ACTIVE phases as transferred at their latest boundaries (R313). -/
def dutyVal (s : State) (r : Nat) : Nat :=
  let act := activeOf s r
  if act.isEmpty then 0 else
  let d (p : Nat) : Rat :=
    let g := (s.ph p).gen.act
    let h : Rat := if g.cmp = 0x3FFFFF then 1 else (g.cmp : Rat) / ((64 * g.per : Nat) : Rat)
    if topo s r = 1 then 1 - h else h
  toPU16 (sumR (act.map d) / (act.length : Rat))

/-- Load of one active context in MAC/s (R142, R139). -/
def loadOf (s : State) (c : Nat) : Rat :=
  match ctxRail s c with
  | none => 0
  | some r =>
    if !ctxActive s c then 0 else
    let per := railPerNow s r
    let x := s.rail r
    let f : Rat := 400000000 / (per : Rat)
    let rate : Rat := if c < 16 then f * (vrate s r : Rat) else if c < 32 then f * (vrate s r : Rat) / (x.nOut : Rat)
      else if c < 80 then f / (x.nCur : Rat) else f / (x.nBal : Rat)
    rate * (ctxCost s c : Rat)

/-- RTAB_STS.MST (R204): from the weight and its target, in OFF too, where the weight is held. (DESIGN CHOICE, log entry 146) -/
def mstOf (s : State) (r : Nat) : Nat :=
  let w := (s.rail r).w
  let t := blendTarget s r
  if rtabMode s r = 0 then 0
  else if w < t then 2 else if t < w then 4 else if w = 0 then 1 else 3

/-- RCOMP_COST: costs of the pending bank under the present RAIL_CFG (R143). -/
def costWord (s : State) (r : Nat) : Word :=
  let c (b : Nat) : Nat := min 255 (setCost (fun o => s.pendC r o) b (s.rr r Reg.RAIL_CFG))
  pack [(c 0x10, 24), (c 0x3A, 16), (c 0x64, 8), (c 0x8E, 0)]

/-- ENG_STDAT: the word ENG_STADR selects, sign-extended (R162). -/
def stdat (s : State) : Word :=
  let a := s.pg Pg.ENG Reg.ENG_STADR
  let b := ((blocksOf s (fld a 13 7))[fld a 6 4]?).getD Block.init
  if fld a 3 0 = 8 then BitVec.ofInt 32 b.e else BitVec.ofInt 32 (b.m.getD (fld a 3 0) 0)

/-- The log entry that host `h` selects (R284). -/
def selEntry (s : State) (h : Nat) : Option LogEntry :=
  logEntry s (fld (s.reg (hostKey h (Pg.FC * 256 + Reg.FC_LOGSEL))) 5 0)

/-- Sample `i` of the capture buffer (R101, R265): each channel's share in channel order, oldest sample first; a sweep's
points. -/
def capSample (s : State) (i : Nat) : Nat :=
  if s.capt.isSweep then s.capt.sweep.getD i 0
  else if s.capt.share = 0 then 0
  else ((s.capt.chans[i / s.capt.share]?).map fun l => l.reverse.getD (i % s.capt.share) 0).getD 0

/-- A host's error register (R377). -/
def errWord (e : HostErr) : Word := pack [(e.code, 24), (e.cnt, 16), (e.addr, 0)]

/-- Address of the two-wire port (R366). -/
def hpcAddr (s : State) : Nat := 0x58 + 2 * b2n s.dev.addr1 + b2n s.dev.addr0

/-- Age of a mailbox in ms (R387). -/
def mbAge (s : State) (e : SbEntry) : Nat := if e.valid then min 255 ((s.dev.frame - e.lastOk) / 1000) else min 255 (s.dev.frame / 1000)

/-- The gang balls this device drives (R326, R445). -/
def gangDrives (s : State) : Nat :=
  let c := s.pg Pg.GANG Reg.GANG_CFG
  if bit c 31 && !bit c 30 then fld (s.pg Pg.PIN Reg.PIN_FUNC0) 2 0 else 0

/-! ### Read-only fields of the block registers -/

def viewDev (s : State) (off : Nat) : Word :=
  match off with
  | 0x8 => pack [(s.dev.img, 14), (s.dev.cause, 10), (s.dev.st.code, 0)]
  | 0xA => s.dev.bootErrA
  | 0xB => s.dev.bootErrB
  | 0xC => s.dev.imgSer
  | 0xD => BitVec.ofNat 32 s.dev.bootTime
  | _ => 0

def viewClk (s : State) (h off : Nat) : Word :=
  match off with
  | 0x8 => pack [(b2n s.dev.safeHold, 7), (b2n s.dev.clksel, 4), (b2n s.dev.rcOk, 3), (b2n s.dev.causePll, 1), (b2n s.dev.causeRef, 0)]
  | 0x9 => pack [(s.dev.refLoss, 16), (s.dev.pllUnlk, 0)]
  | 0xA => BitVec.ofNat 32 s.dev.frame
  | 0xB => s.reg (hostKey h (Pg.CLK * 256 + Reg.CLK_FRAME_HI))
  | 0xC => BitVec.ofNat 32 (uptime s)
  | 0xD => s.dev.lastLoss
  | 0xE => BitVec.ofNat 32 s.dev.rcMeas
  | _ => 0

def viewHost (s : State) (h off : Nat) : Word :=
  let page (k : Nat) : Nat := fld (s.reg (hostKey k 0xFF)) 7 0
  match off with
  | 0x8 => (s.pg Pg.HOST 0x8) ||| BitVec.ofNat 32 (owner s)
  | 0x9 => (s.pg Pg.HOST 0x9) ||| BitVec.ofNat 32 (hpcAddr s * 65536)
  | 0xA => errWord (s.ports.err.getD 0 ⟨0, 0, 0⟩)
  | 0xB => errWord (s.ports.err.getD 1 ⟨0, 0, 0⟩)
  | 0xC => errWord (s.ports.err.getD 2 ⟨0, 0, 0⟩)
  | 0xE => pack [(page 2, 16), (page 1, 8), (page 0, 0)]
  | 0xF => BitVec.ofNat 32 s.ports.hpc.ptr
  | 0x14 => pack [(s.ports.frm.getD 2 0, 16), (s.ports.frm.getD 1 0, 8), (s.ports.frm.getD 0 0, 0)]
  | o => if 0x10 ≤ o && o < 0x14 then irqPend s h (o - 0x10) else 0

def viewFc (s : State) (h off : Nat) : Word :=
  match off with
  | 0x9 => pack [(b2n s.fc.safe, 31), (b2n s.fc.locked, 30), (b2n s.fc.self, 29), (s.fc.nvskip, 0)]
  | 0xA => s.fc.firstHi
  | 0xB => s.fc.firstLo
  | 0xC => s.fc.firstTs
  | 0xD => pack [(b2n s.fc.ovf, 31), (s.fc.ovfCnt, 0)]
  | 0x11 => BitVec.ofNat 32 s.fc.seq
  | 0x12 => BitVec.ofNat 32 s.fc.logCnt
  | 0x13 => s.reg (hostKey h (Pg.FC * 256 + Reg.FC_LOGSEL))
  | 0x14 => (selEntry s h).elim 0 fun e => e.hi ||| BitVec.ofNat 32 (2 ^ 31)
  | 0x15 => (selEntry s h).elim 0 (·.lo)
  | 0x16 => (selEntry s h).elim 0 (·.ts)
  | o => if 0x28 ≤ o && o < 0x30 then fcStand s (o - 0x28) else s.pg Pg.FC o

def viewPerf (s : State) (h off : Nat) : Word :=
  if off = Reg.PERF_SNAPHI then s.reg (hostKey h (Pg.PERF * 256 + off))
  else if off = Reg.PERF_BWSEQ then BitVec.ofNat 32 s.perf.bwSeq
  else if 0x10 ≤ off && off < 0x16 then BitVec.ofNat 32 (s.perf.bw.getD (off - 0x10) 0)
  else if 0x20 ≤ off && off < 0x40 then BitVec.ofNat 32 (s.perf.ctr.getD (off - 0x20) 0)
  else s.pg Pg.PERF off

def viewNv (s : State) (off : Nat) : Word :=
  match off with
  | 0x8 =>
    let op := match s.nv.cur with
      | none => 0
      | some c => if c.erase then 2 else match c.op with | .tallyBit _ _ => 3 | _ => 1
    let sec := match s.nv.cur with | some c => c.sector | none => 0
    pack [(b2n s.nv.cur.isSome, 31), (b2n s.nv.hbusy, 30), (b2n s.nv.saved, 29), (b2n (stands s Src.NV_FULL), 28),
      (b2n s.nv.found, 27), (op, 24), (s.nv.hres, 8), (sec, 0)]
  | 0xE => pack [(liveSlots s, 16), (freeSlots s, 0)]
  | 0xF => BitVec.ofNat 32 (wearMax s)
  | 0x10 => BitVec.ofNat 32 s.nv.drop
  | o => if 0x14 ≤ o && o < 0x1C then BitVec.ofNat 32 (s.nv.tally.getD (o - 0x14) 0) else s.pg Pg.NV o

def viewDom (s : State) (off : Nat) : Word :=
  let m (k : Nat) : Nat := maskOf 16 fun r => domOf s r == k
  match off with
  | 0x8 => pack [(m 1, 16), (m 0, 0)]
  | 0x9 => pack [(m 3, 16), (m 2, 0)]
  | 0xA => BitVec.ofNat 32 (maskOf 4 (drvHigh s))
  | 0x12 => pack ((List.range 4).flatMap fun k => [((s.dom k).rank % 16, 4 * k + 16), ((s.dom k).seq, 2 * k)])
  | o => s.pg Pg.DOM o

def viewSbus (s : State) (off : Nat) : Word :=
  match off with
  | 0x9 => pack [(b2n s.sb.cur.isSome, 31), (b2n s.sb.hbusy, 30), (b2n s.sb.stuck, 29), (b2n s.sb.recov, 28), (s.sb.hres, 16), (s.sb.late, 0)]
  | 0xA => pack [(s.sb.arbLost, 16), (s.sb.fail, 0)]
  | o =>
    if 0x80 ≤ o && o < 0xC0 then
      match s.sb.ent[o - 0x80]? with
      | some e => pack [(b2n e.valid, 31), (b2n e.stale, 30), (mbAge s e, 16), (c16 e.val, 0)]
      | none => 0
    else s.pg Pg.SBUS o

def viewTwin (s : State) (off : Nat) : Word :=
  let t := s.twin
  match off with
  | 0xA => pack [(b2n s.dev.role, 31), (t.pst.code, 28), (b2n (t.hbPrev.isSome && decide (t.loss < 4)), 27), (t.pal, 25), (b2n t.psafe, 24),
      (min 15 t.loss, 20), (b2n (t.hoLeft != 0), 19)]
  | 0xC => pack [(c16 t.theta, 16), (maxN t.errs, 0)]
  | 0xD => t.digest
  | 0xE => t.pdigest
  | 0xF => pack [(t.crcErr, 16), (t.lost, 0)]
  | 0x10 => BitVec.ofNat 32 t.rpl
  | 0x11 => BitVec.ofNat 32 t.last
  | o => s.pg Pg.TWIN o

def viewSetin (s : State) (off : Nat) : Word :=
  if 0x18 ≤ off && off < 0x1C then
    let x := s.spa.getD (off - 0x18) ⟨[], 0⟩
    pack [(x.hist.headD 0, 16), (x.val, 0)]
  else if 0x1C ≤ off && off < 0x20 then
    let x := s.spp.getD (off - 0x1C) ⟨0, 0, 0, 0, false⟩
    pack [(x.duty, 16), (x.val, 0)]
  else if off = 0x21 then pack [(s.grid.zcFrame % 8388608, 9), (s.grid.zcCnt, 0)]
  else s.pg Pg.SETIN off

def viewGrid (s : State) (off : Nat) : Word :=
  let g := s.grid
  match off with
  | 0xB => pack [(b2n g.lock, 31), (b2n g.valid, 30), (g.lcnt, 8), (g.mcnt, 0)]
  | 0xC => pack [(c16 g.phErr, 16), (angAt s (cksNow s), 0)]
  | 0xD => BitVec.ofNat 32 (gridFreq s)
  | 0xE => BitVec.ofNat 32 g.per
  | 0xF => pack [(g.ulk, 16), (g.rej, 0)]
  | o => s.pg Pg.GRID o

def viewCup (s : State) (off : Nat) : Word :=
  let c := s.cup
  match off with
  | 0x12 => pack [(b2n c.run, 31), (b2n (s.capt.owner == 2), 30), (b2n c.adlim, 29), (b2n c.noxo, 28), (b2n c.nogm, 27), (c.last, 24), (c.pt, 0)]
  | 0x13 => c.gain
  | 0x14 => pack [(c.pm, 16), (c.ph, 0)]
  | 0x15 => c.xo
  | 0x16 => c.gm
  | o => if 0x20 ≤ o && o < 0x30 then c.alpha.getD (o - 0x20) 0 else s.pg Pg.CUP o

def viewSamp (s : State) (off : Nat) : Word :=
  let a := s.aux
  if 0x20 ≤ off && off < 0x30 then pack [(a.raw.getD (off - 0x20) 0, 16), (a.val.getD (off - 0x20) 0, 0)]
  else if off = 0x30 then pack [(a.vcore, 16), (c16 a.tdie, 0)]
  else if off = 0x31 then pack [(a.vio, 16), (a.vana, 0)]
  else if off = 0x44 then pack [(s.capt.trig.getD 0, 16), (s.capt.st, 2), (s.capt.owner, 0)]
  else if off = 0x46 then
    let p := fld (s.pg Pg.SAMP Reg.SAMP_CAPPTR) 11 0
    pack [(capSample s (p + 1), 16), (capSample s p, 0)]
  else s.pg Pg.SAMP off

def viewEng (s : State) (off : Nat) : Word :=
  let e := s.eng
  match off with
  | 0x8 => pack [(b2n e.halted, 31), (e.lastOvr, 8), (((List.range 128).filter (ctxActive s)).length, 0)]
  | 0x9 => BitVec.ofNat 32 (toPU16 (sumR ((List.range 128).map (loadOf s)) / 2560000000))
  | 0xA => pack [(e.peak, 16), (e.util, 0)]
  | 0xC => pack [(min 255 (waiting s s.perf).length, 16), (min 255 e.qPeak, 0)]
  | 0xD => pack [(e.latI, 16), (e.latV, 0)]
  | 0xE => BitVec.ofNat 32 e.ovrCnt
  | 0x12 => stdat s
  | o => s.pg Pg.ENG o

def viewTrip (s : State) (off : Nat) : Word :=
  if off = Reg.TRIP_STS then BitVec.ofNat 32 s.tripLatch
  else if off = Reg.TRIP_RAW then BitVec.ofNat 32 s.tripRaw else s.pg Pg.TRIP off

def viewRail (s : State) (r off : Nat) : Word :=
  let x := s.rail r
  let ps := phasesOf s r
  match off with
  | 0x9 => BitVec.ofNat 32 (maskOf 32 fun p => ps.contains p)
  | 0xA => pack [(min 31 ps.length, 24), (maskOf 16 fun p => ps.contains (p + 32), 0)]
  | 0x11 => pack [(b2n x.oow, 31), (b2n (vsFailed s r), 30), ((leadOf s r).getD 0x3F, 16), (x.oowCnt, 0)]
  | 0x12 => pack [(x.vabs, 16), (x.vloop, 0)]
  | 0x13 => BitVec.ofNat 32 x.vdac
  | 0x14 => BitVec.ofNat 32 (c16 x.irail)
  | 0x24 => pack [(x.target, 16), (refCode s r, 0)]
  | 0x29 => pack [(x.nrst, 28), (b2n (settled s r), 23), (b2n x.trkdone, 22), (x.limdir, 20), (b2n x.feact, 17), (b2n x.rstpend, 16), (x.st.code, 0)]
  | 0x41 => pack [((activeOf s r).length, 24), ((availOf s r).length, 16), (min 65535 ((x.ifilt + 32768) / 65536), 0)]
  | 0x46 => BitVec.ofNat 32 x.cap
  | 0x51 => pack [(b2n x.ov.on, 31), (b2n x.uv.on, 30), (b2n x.xov.on, 29), (b2n x.xuv.on, 28), (b2n x.tw.on, 27), (b2n x.ot.on, 26),
      (x.scres, 22), (x.sccode, 16), (x.thval, 0)]
  | o => s.rr r o

/-- PH_PMSTS.PST (R208): NONE in every rail state outside RAMP to STOPPING, and for an unassigned phase. -/
def pstShown (s : State) (p : Nat) : Pst :=
  match railOf s p with
  | some r => if (s.rail r).st.running then (s.ph p).pst else .none
  | none => .none

def viewPh (s : State) (p off : Nat) : Word :=
  let x := s.ph p
  let g := x.gen
  match off with
  | 0x12 => BitVec.ofNat 32 ((iofsOf s p) % 4096).toNat
  | 0x13 => pack [(c16 x.iavg, 16), (c16 x.isamp, 0)]
  | 0x19 => pack [(b2n g.ldpend, 31), (b2n g.dlok, 30), (b2n g.hardH, 29), (b2n g.hardL, 28), (b2n (railOf s p).isNone, 27), ((gst s p).code, 24)]
  | 0x22 => pack [(g.dth, 16), (g.dtl, 0)]
  | 0x23 => pack [(g.curPer, 16), (g.count, 0)]
  | 0x24 => BitVec.ofNat 32 g.curCmp
  | 0x28 => (setFld (s.pr p off) 15 0 (c16 x.trim))
  | 0x2E =>
    pack [((pstShown s p).code, 28), (b2n x.est, 27), (b2n x.tsat, 26), (b2n (obsCan s p), 25), (c16 (clampI (-32768) 32767 (shrAway x.oest 8)), 0)]
  | 0x2F => pack [(x.ncnt, 24), (x.ocnt, 16), (c16 x.ores, 0)]
  | 0x31 => pack [(x.cbcFwd, 16), (x.cbcRev, 0)]
  | 0x32 => pack [(b2n x.cbcAct, 31), (b2n x.schigh, 30), (x.cbcRun, 0)]
  | o => s.pr p o

def viewRcomp (s : State) (r off : Nat) : Word :=
  let x := s.rail r
  match off with
  | 0x9 => pack [(b2n x.pend, 31), (b2n x.bankErr, 30)]
  | 0xA => costWord s r
  | 0xB => pack [(min 255 x.nOut, 16), (min 255 x.nCur, 8), (min 255 x.nBal, 0)]
  | o => s.pendC r o

def viewRtab (s : State) (r off : Nat) : Word :=
  let x := s.rail r
  match off with
  | 0x8D => pack [(mstOf s r, 29), (b2n x.learning, 28), (b2n x.rSat, 27), (x.rIdx, 16), (toPU16 (weight s r), 0)]
  | 0x8E => BitVec.ofNat 32 (c16 x.rTerm)
  | o => s.tr r o

def viewPin (s : State) (off : Nat) : Word :=
  if off = Reg.PIN_STS then
    pack [(b2n s.dev.clksel, 12), (b2n s.dev.role, 11), (b2n s.dev.ownsel, 10), (b2n s.dev.addr1, 9), (b2n s.dev.addr0, 8),
      (gangDrives s, 4), (fld (s.pg Pg.PIN Reg.PIN_FUNC0) 2 0, 0)]
  else s.pg Pg.PIN off

def viewGang (s : State) (off : Nat) : Word :=
  if off = Reg.GANG_STS then
    pack [(b2n s.gang.link, 31), (sumN ((List.range 4).map fun k => s.gang.slotSt.getD k 0 * 4 ^ k), 8), (s.gang.crcErr, 0)]
  else s.pg Pg.GANG off

/-- What a read of a register returns to host `h` (R429, R433): 0 at an offset that holds no register (R432). -/
def readReg (s : State) (h a : Nat) : Word :=
  let pg := a / 256
  let off := a % 256
  match pageType pg with
  | none => 0
  | some (t, n) =>
    if off = Reg.PAGE_SEL then s.reg (hostKey h Reg.PAGE_SEL)
    else if off < 8 then viewCommon s h pg t n off
    else if (regRow a).isNone then 0
    else match t with
      | .dev => viewDev s off | .clk => viewClk s h off | .host => viewHost s h off | .fc => viewFc s h off
      | .fcsev => s.reg a | .perf => viewPerf s h off | .nv => viewNv s off | .dom => viewDom s off
      | .sbus => viewSbus s off | .twin => viewTwin s off | .setin => viewSetin s off | .grid => viewGrid s off
      | .cup => viewCup s off | .samp => viewSamp s off | .eng => viewEng s off | .trip => viewTrip s off
      | .rail => viewRail s n off | .ph => viewPh s n off | .rcomp => viewRcomp s n off | .rtab => viewRtab s n off
      | .pin => viewPin s off | .gang => viewGang s off

end Sys2Proof.Machine
end

