-- ==== Sys2Proof/Machine/Check.lean ====
section
/-! DEFINITION. Machine/Check.lean: the checks a host access meets (R373-R376, R430-R432) and each register's own checks, as the
block chapters lay them down. -/

namespace Sys2Proof.Machine

/-! Error codes (R434). -/
namespace Err

abbrev OK : Nat := 0x0
abbrev NO_PAGE : Nat := 0x1
abbrev NO_REG : Nat := 0x2
abbrev RO : Nat := 0x3
abbrev DENIED : Nat := 0x4
abbrev RANGE : Nat := 0x5
abbrev CONFLICT : Nat := 0x6
abbrev BUSY : Nat := 0x7
abbrev STATE : Nat := 0x8
abbrev LOCKED : Nat := 0x9
abbrev TRIP_ACTIVE : Nat := 0xA
abbrev ADAPT_ACTIVE : Nat := 0xB
abbrev SEQ : Nat := 0xC
abbrev PEC : Nat := 0xD
abbrev TWIN_RO : Nat := 0xE
abbrev PARTIAL : Nat := 0xF

end Err

/-- The first code whose condition holds (R376); OK when none does. -/
def firstErr : List (Bool × Nat) → Nat
  | [] => Err.OK
  | (b, c) :: t => if b then c else firstErr t

/-- A BF24 field lies within a range. -/
def within (w : Word) (lo hi : Rat) : Bool := decide (lo ≤ bf w) && decide (bf w ≤ hi)

/-- How many bits of a word are set among the low `n`. -/
def bitCount (n : Nat) (w : Word) : Nat := (bitsOf n w.toNat).length

/-! ### Rails -/

/-- DRIP is legal for a RAIL_CFG word (R221); BRAKE is (R224). -/
def dripLegal (c : Word) : Bool := decide (fld c 1 0 < 2) && !bit c 3
def brakeLegal (c : Word) : Bool := decide (fld c 1 0 = 0) && !bit c 3

/-- A stop mode is illegal for a RAIL_CFG word (R181). -/
def stopIllegal (c : Word) (mode : Nat) : Bool := mode == 3 || (mode == 1 && bit c 3) || (mode == 2 && !bit c 2)

/-- A power limit is enabled (R177). -/
def plimOn (w : Word) : Bool := fld w 31 16 != 0xFFFF || fld w 15 0 != 0xFFFF

/-- An other-terminal limit is enabled (R242). -/
def xlimOn (w : Word) : Bool := fld w 31 16 != 0xFFFF || fld w 15 0 != 0

/-- The undervoltage limit of a word is enabled, and is at or above an enabled overvoltage limit (R245). -/
def limCrossed (w : Word) : Bool := fld w 15 0 != 0 && fld w 31 16 != 0xFFFF && decide (fld w 31 16 ≤ fld w 15 0)

/-- A FFSRC code names a disabled AUX channel (R95). -/
def auxOff (s : State) (n : Nat) : Bool := decide (n < 16) && !bit (s.pg Pg.SAMP Reg.SAMP_AUXEN) n

/-- RAIL_CFG (R20, R22, R95, R143, R177, R181, R221, R224, R245). -/
def chkRailCfg (s : State) (r : Nat) (w : Word) : Nat :=
  let f := fld w 13 8
  let costs (b : Nat) : Bool := decide (setCap b < setCost (fun o => s.actC r o) b w)
  firstErr [
    (fld w 1 0 == 3, Err.RANGE),
    (!bit w 2 && (fld w 1 0 == 2 || bit w 3), Err.RANGE),
    (f == r || (decide (0x20 ≤ f) && decide (f ≤ 0x3E)), Err.RANGE),
    (stopIllegal w (fld (s.rr r Reg.RAIL_STOPCFG) 31 30), Err.RANGE),
    (f == 0x3F && xlimOn (s.rr r Reg.RAIL_XLIM), Err.RANGE),
    (f == 0x3F && !ownIndW w && plimOn (s.rr r Reg.RAIL_PLIM), Err.RANGE),
    (costs 0x10 || costs 0x3A || costs 0x64 || costs 0x8E, Err.RANGE),
    (bit (s.rr r Reg.RAIL_DRIPCFG) 31 && !dripLegal w, Err.RANGE),
    (bit (s.rr r Reg.RAIL_BRKCFG) 31 && !brakeLegal w, Err.RANGE),
    (decide (0x10 ≤ f) && decide (f < 0x20) && auxOff s (f - 0x10), Err.CONFLICT)]

/-- A chain of TRACK rails that starts at leader `l` comes back to rail `r` (R171). -/
def chainBack (s : State) (r : Nat) : Nat → Nat → Bool
  | 0, _ => false
  | n + 1, l =>
    l == r || (fld (s.rr l Reg.RAIL_SRC) 3 0 == 9 && chainBack s r n (fld (s.rr l Reg.RAIL_SRC) 15 12))

/-- RAIL_SRC (R166, R167, R170, R171). -/
def chkRailSrc (s : State) (r : Nat) (w : Word) : Nat :=
  let old := s.rr r Reg.RAIL_SRC
  let track (v : Word) : Bool := fld v 3 0 == 9
  firstErr [
    (decide (0xA ≤ fld w 3 0) || decide (2 ≤ fld w 9 8), Err.RANGE),
    (track w && chainBack s r 17 (fld w 15 12), Err.RANGE),
    (!inOff s r && (track w != track old || fld w 15 12 != fld old 15 12 || fld w 9 8 != fld old 9 8), Err.STATE),
    (!srcEnabled s (fld w 3 0), Err.CONFLICT)]

/-- RAIL_CMD (R161, R173, R180, R183). -/
def chkRailCmd (s : State) (r : Nat) (w : Word) : Nat :=
  firstErr [
    (decide (1 < bitCount 3 w), Err.RANGE),
    (s.eng.haltReq, Err.STATE),
    (bit w 0 && !canStart s r, Err.STATE),
    (bit w 1 && (s.rail r).st == .locked, Err.LOCKED),
    (bit w 2 && ((s.rail r).st != .faulted || faultStands s r || s.dev.st == .safe), Err.STATE)]

/-- The slots of RAIL_SHORD with register `k` replaced (R209). -/
def shordWith (s : State) (r k : Nat) (w : Word) : List Nat :=
  (List.range 24).map fun j =>
    let v := if j / 4 = k then w else s.rr r (Reg.RAIL_SHORD + j / 4)
    fld v (8 * (j % 4) + 5) (8 * (j % 4))

/-- RAIL_SHORD (R210). -/
def chkShord (s : State) (r k : Nat) (w : Word) : Nat :=
  let l := shordWith s r k w
  let named := l.filter (· < 48)
  firstErr [
    ((List.range 4).any fun j => fld w (8 * j + 7) (8 * j + 6) != 0, Err.RANGE),
    ((List.range 4).any fun j => decide (0x30 ≤ fld w (8 * j + 5) (8 * j)) && fld w (8 * j + 5) (8 * j) != 0x3F, Err.RANGE),
    (decide (named.dedup.length < named.length), Err.RANGE)]

/-- RAIL_THCFG (R246, R388). -/
def chkThcfg (s : State) (w : Word) : Nat :=
  let src := fld w 7 0
  firstErr [
    (!(decide (src < 0x10) || (decide (0x40 ≤ src) && decide (src ≤ 0x80))), Err.RANGE),
    (bit w 31 && auxOff s src, Err.CONFLICT),
    (bit w 31 && decide (0x40 ≤ src) && decide (src < 0x80) && !bit (s.pg Pg.SBUS (Reg.SB_POLL + (src - 0x40))) 31, Err.CONFLICT)]

/-- RAIL_THLIM: WARN beyond TRIP in the direction of NEG (R246). -/
def thlimBad (s : State) (r : Nat) (w : Word) : Bool :=
  let c := s.rr r Reg.RAIL_THCFG
  let sg := decide (0x10 ≤ fld c 7 0)
  let warn := thermalCode sg (fld w 15 0)
  let trip := thermalCode sg (fld w 31 16)
  if bit c 30 then decide (warn < trip) else decide (trip < warn)

/-- The own checks of a rail page's register. -/
def chkRail (s : State) (r off : Nat) (w : Word) : Nat :=
  let cfg := s.rr r Reg.RAIL_CFG
  let bad (b : Bool) : Nat := if b then Err.RANGE else Err.OK
  match off with
  | 0x08 => chkRailCfg s r w
  | 0x0B => bad (!(decide (1 ≤ w.toNat) && decide (w.toNat ≤ 4000000)))
  | 0x0C => bad (!within w (1 / 10) (8 / 5))
  | 0x0D => bad (!(decide (1 ≤ w.toNat) && decide (w.toNat ≤ 2000000)))
  | 0x10 => bad (fld w 25 24 == 3 || (outOfOff s r && !rateOk (railPer s r) (2 ^ fld w 25 24)))
  | 0x21 => chkRailSrc s r w
  | 0x22 => bad (fld w 31 16 == 0 || fld w 15 0 == 0)
  | 0x26 => bad (fld cfg 13 8 == 0x3F && !ownIndW cfg && plimOn w)
  | 0x27 => bad (fld w 3 0 == 0)
  | 0x28 => chkRailCmd s r w
  | 0x2B => bad (fld w 23 0 == 0)
  | 0x2D => bad (stopIllegal cfg (fld w 31 30))
  | 0x2E => bad (fld w 23 0 == 0)
  | 0x38 => bad (fld w 20 16 == 0 || decide (24 < fld w 20 16))
  | 0x39 => bad (decide (fld w 31 16 ≤ fld w 15 0))
  | 0x3A => bad (fld w 31 16 == 0 || fld w 15 0 == 0)
  | 0x42 => bad ((bit w 31 && !dripLegal cfg) || fld w 15 0 == 0)
  | 0x43 => bad (decide (fld w 31 16 ≤ fld w 15 0))
  | 0x44 => bad ((bit w 31 && !brakeLegal cfg) || fld w 15 0 == 0)
  | 0x45 => bad (fld w 31 16 == 0)
  | 0x48 => bad (decide (fld w 15 0 < 0x400))
  | 0x49 => bad (limCrossed w)
  | 0x4A => bad (limCrossed w || (fld cfg 13 8 == 0x3F && xlimOn w))
  | 0x4B => bad (fld w 31 24 == 0 || fld w 23 16 == 0)
  | 0x4C => chkThcfg s w
  | 0x4D => bad (thlimBad s r w)
  | 0x4F => bad (fld w 30 24 == 0)
  | 0x50 => bad (!within w (1 / 10) (8 / 5))
  | o => if 0x3B ≤ o && o < 0x41 then chkShord s r (o - 0x3B) w else Err.OK

/-! ### Phases -/

/-- The phase's rail is out of OFF (R125). -/
def railBusy (s : State) (p : Nat) : Bool :=
  match railOf s p with
  | some r => outOfOff s r
  | none => false

/-- PH_CFG (R34). (DESIGN CHOICE, log entry 19) -/
def chkPhCfg (s : State) (p : Nat) (w : Word) : Nat :=
  let n := fld w 4 0
  firstErr [
    (decide (0x10 ≤ n) && n != 0x1F, Err.RANGE),
    (railBusy s p || enOf s p || (decide (n < 16) && outOfOff s n), Err.STATE),
    (decide (n < 16) && decide (24 ≤ ((phasesOf s n).filter (· != p)).length), Err.RANGE)]

/-- An ordinary compare lies above a period (R109, R124). -/
def cmpAbove (cmp per : Nat) : Bool := cmp != 0x3FFFFF && decide (per * 64 < cmp)

/-- The shadow registers PH_PER, PH_CMP, PH_DT and PH_OFS (R91, R108, R119, R123-R125). -/
def chkShadow (s : State) (p off : Nat) (w : Word) : Nat :=
  let out := railBusy s p
  let per := fld (s.pr p Reg.PH_PER) 15 0
  let busy := (s.ph p).gen.ldpend
  match off with
  | 0x1A =>
    let n := fld w 15 0
    firstErr [
      (busy, Err.BUSY),
      (decide (n < 100), Err.RANGE),
      (out && !rateOk n (match railOf s p with | some r => vrate s r | none => 1), Err.RANGE),
      (!out && (cmpAbove (fld (s.pr p Reg.PH_CMP) 21 0) n || decide (n ≤ fld (s.pr p Reg.PH_OFS) 15 0)), Err.RANGE)]
  | 0x1B => firstErr [(busy, Err.BUSY), (out, Err.STATE), (cmpAbove (fld w 21 0) per, Err.RANGE)]
  | 0x1C => firstErr [(busy, Err.BUSY)]
  | _ => firstErr [(busy, Err.BUSY), (out, Err.STATE), (decide (per ≤ fld w 15 0), Err.RANGE)]

/-- A lower bound exceeds an upper bound of a delay (R116). -/
def dtCrossed (lo hi : Word) : Bool := decide (fld hi 29 16 < fld lo 29 16) || decide (fld hi 13 0 < fld lo 13 0)

/-- The own checks of a phase page's register. -/
def chkPh (s : State) (p off : Nat) (w : Word) : Nat :=
  let bad (b : Bool) : Nat := if b then Err.RANGE else Err.OK
  match off with
  | 0x08 => chkPhCfg s p w
  | 0x09 => bad (!(decide (1 ≤ w.toNat) && decide (w.toNat ≤ 1000000)))
  | 0x0A => bad (!within w (1 / 1000) (8 / 5))
  | 0x10 => bad (fld w 17 16 == 3)
  | 0x1A | 0x1B | 0x1C | 0x1D => chkShadow s p off w
  | 0x1E => if railBusy s p then Err.STATE else Err.OK
  | 0x1F => bad (dtCrossed w (s.pr p Reg.PH_DTMAX))
  | 0x20 => bad (dtCrossed (s.pr p Reg.PH_DTMIN) w)
  | 0x21 => bad (fld w 27 24 == 0 || fld w 21 16 == 0)
  | 0x2B => bad (fld w 23 16 == 0 || fld w 15 8 == 0)
  | 0x30 => bad (bit w 31 && fld w 7 0 == 0)
  | _ => Err.OK

/-! ### Coefficient banks and ripple tables -/

/-- Exactly one preload stage, of type PI or PID, and after it only BIQ or NONE with finite gain (R158). -/
def plGood : List Stg → Bool
  | [] => false
  | g :: t =>
    if g.pl then (g.ty == 1 || g.ty == 2) && t.all fun h => !h.pl && (h.ty == 0 || (h.ty == 3 &&
        bf (h.coef 0) + bf (h.coef 1) + bf (h.coef 2) != 0 && 1 + bf (h.coef 3) + bf (h.coef 4) != 0))
    else plGood t

/-- The checks of a commit (R158). -/
def chkCommit (s : State) (r : Nat) : Nat :=
  let rd (o : Nat) : Word := s.pendC r o
  let x (k : Nat) : Int := s16 (if k % 2 = 0 then fld (rd (Reg.RCOMP_LUTX + k / 2)) 15 0 else fld (rd (Reg.RCOMP_LUTX + k / 2)) 31 16)
  let set (b : Nat) : List Stg := stagesOf rd b
  let d := rd Reg.RCOMP_DLIM
  let cfg := s.rr r Reg.RAIL_CFG
  let act (b : Nat) : List Stg := stagesOf (fun o => s.actC r o) b
  let shape (l : List Stg) : List (Nat × Bool) := l.map fun g => (g.ty, g.pl)
  let bases := [0x10, 0x3A, 0x64, 0x8E]
  firstErr [
    (!(List.range 31).all fun k => decide (x k < x (k + 1)), Err.RANGE),
    (bases.any fun b => (set b).any fun g => g.clamp && decide (g.lmax < g.lmin), Err.RANGE),
    (decide (fld d 31 16 < fld d 15 0) || decide (0x4000 < fld d 31 16), Err.RANGE),
    (bases.any fun b => decide (setCap b < setCost rd b cfg), Err.RANGE),
    (!(plGood (set 0x10) && plGood (set 0x3A) && plGood (set 0x64)) || (set 0x8E).any (·.pl), Err.RANGE),
    (outOfOff s r && bases.any fun b => shape (set b) != shape (act b), Err.STATE)]

/-- RCOMP_CTL (R158, R159, R268). -/
def chkRcompCtl (s : State) (r : Nat) (w : Word) : Nat :=
  if (s.rail r).pend then
    (if bit w 0 && bit w 1 == bit (s.pendC r Reg.RCOMP_CTL) 1 then Err.OK else Err.BUSY)
  else if adapting s r && !bit w 1 then Err.ADAPT_ACTIVE
  else if bit w 0 then chkCommit s r else Err.OK

/-- The own checks of an RCOMP page's register (R157, R159, R268). -/
def chkRcomp (s : State) (r off : Nat) (w : Word) : Nat :=
  if off = Reg.RCOMP_CTL then chkRcompCtl s r w else
  firstErr [
    (decide (Reg.RCOMP_LUTX ≤ off) && adapting s r, Err.ADAPT_ACTIVE),
    ((s.rail r).pend, Err.BUSY),
    (decide (0x10 ≤ off) && decide (off < Reg.RCOMP_LUTX) && (off - 0x10) % 7 == 0 && decide (4 ≤ fld w 2 0), Err.RANGE)]

/-- Learning is enabled and not frozen (R197). -/
def learnsOn (s : State) (r : Nat) : Bool := bit (s.tr r Reg.RTAB_LCTL) 0 && !bit (s.tr r Reg.RTAB_LCTL) 1

/-- The own checks of an RTAB page's register (R197, R201-R205). (DESIGN CHOICE, log entry 19) -/
def chkRtab (s : State) (r off : Nat) (w : Word) : Nat :=
  let b := s.tr r Reg.RTAB_BND
  let outside (bd : Word) (v : Int) : Bool := decide (v < s16 (fld bd 15 0) * 256) || decide (s16 (fld bd 31 16) * 256 < v)
  let old := s.tr r Reg.RTAB_CFG
  let bad (b : Bool) : Nat := if b then Err.RANGE else Err.OK
  match off with
  | 0x88 => firstErr [
      (fld w 31 30 == 3, Err.RANGE),
      (fld w 31 30 != fld old 31 30 && outOfOff s r, Err.STATE),
      ((fld w 20 16 != fld old 20 16 || fld w 7 0 != fld old 7 0) && learnsOn s r, Err.STATE)]
  | 0x89 => if bit w 2 && learnsOn s r then Err.STATE else Err.OK
  | 0x8A => bad (!within w 0 (1 / 4))
  | 0x8B => bad (decide (0 < s16 (fld w 15 0)) || decide (s16 (fld w 31 16) < 0) ||
      (List.range 256).any fun i => outside w (tabEntry s r i))
  | 0x8C => firstErr [(!within w (1 / 2) 16, Err.RANGE), (outOfOff s r, Err.STATE)]
  | _ => firstErr [(learnsOn s r, Err.STATE),
      (outside b (s16 (fld w 15 0) * 256) || outside b (s16 (fld w 31 16) * 256), Err.RANGE)]

/-! ### Sensing, grid, cupping, engine, trips, pins -/

/-- A rail out of OFF has this source code in RAIL_SRC (R167). -/
def srcInUse (s : State) (c : Nat) : Bool := (List.range 16).any fun r => outOfOff s r && fld (s.rr r Reg.RAIL_SRC) 3 0 == c

/-- SETIN page (R97, R99, R167). -/
def chkSetin (s : State) (off : Nat) (w : Word) : Nat :=
  let pin := s.pg Pg.PIN Reg.PIN_FUNC0
  if 8 ≤ off && off < 0xC then
    let n := off - 8
    firstErr [(bit w 31 && n == 3 && bit pin 2, Err.CONFLICT), (!bit w 31 && srcInUse s (1 + n), Err.CONFLICT)]
  else if 0x10 ≤ off && off < 0x14 then
    let n := off - 0x10
    firstErr [(bit w 31 && ((n == 2 && bit pin 0) || (n == 3 && bit pin 1)), Err.CONFLICT), (!bit w 31 && srcInUse s (5 + n), Err.CONFLICT)]
  else if 0x14 ≤ off && off < 0x18 && fld w 31 16 == 0 then Err.RANGE
  else Err.OK

/-- GRID page (R196). -/
def chkGrid (s : State) (off : Nat) (w : Word) : Nat :=
  let old := s.pg Pg.GRID Reg.GRID_CFG
  match off with
  | 0x8 => firstErr [
      (fld w 27 24 == 0 || fld w 23 20 == 0, Err.RANGE),
      (bit w 31 != bit old 31 && (List.range 16).any (fun r => rtabMode s r != 0 && outOfOff s r), Err.STATE)]
  | 0xA => if fld w 15 0 == 0 || decide (fld w 31 16 < fld w 15 0) then Err.RANGE else Err.OK
  | _ => Err.OK

/-- Update rate of a rail's voltage loop for the checks of a start (R262). -/
def cupRate (s : State) (r : Nat) : Rat := fsOf s r

/-- CUP_CMD (R262-R266). -/
def chkCupCmd (s : State) (w : Word) : Nat :=
  let c := s.pg Pg.CUP Reg.CUP_CFG
  let r := fld c 23 20
  let mode := fld c 31 30
  let st := bit w 0
  let a := bf (s.pg Pg.CUP Reg.CUP_FSTART)
  let b := bf (s.pg Pg.CUP Reg.CUP_FSTOP)
  let f := if mode = 2 then b else bf (s.pg Pg.CUP Reg.CUP_FREQ)
  firstErr [
    (decide (1 < bitCount 4 w), Err.RANGE),
    (st && s.cup.run, Err.BUSY),
    (st && (s.rail r).st != .regulate && (s.rail r).st != .drip, Err.STATE),
    (st && bit c 29 && (mode != 1 || !bit (s.actC r Reg.RCOMP_CTL) 1), Err.STATE),
    (st && (decide (cupRate s r < 4 * f) || (mode == 2 && decide (b ≤ a))), Err.RANGE),
    (st && mode == 2 && s.capt.owner == 1, Err.CONFLICT),
    (bit w 2 && adapting s r, Err.ADAPT_ACTIVE),
    (bit w 3 && s.cup.run, Err.BUSY)]

/-- CUP page (R260-R268). (DESIGN CHOICE, log entry 19; DEDUCED, log entry 22) -/
def chkCup (s : State) (off : Nat) (w : Word) : Nat :=
  let bad (b : Bool) : Nat := if b then Err.RANGE else Err.OK
  let held := (off == 0x8 || off == 0xA || off == 0xB || off == 0xC || off == 0xD) && s.cup.run
  if held then Err.BUSY else
  match off with
  | 0x8 => bad (fld w 31 30 == 3 || fld w 15 8 == 0)
  | 0x9 => bad (fld w 15 0 == 0 || decide (0x800 < fld w 15 0))
  | 0xA => bad (!within w 1 500000)
  | 0xD => bad (decide (fld w 9 0 < 2) || decide (512 < fld w 9 0))
  | 0xE => bad (!within w (1 / 16) 16 || decide (bf (s.pg Pg.CUP Reg.CUP_ADMAX) < bf w))
  | 0xF => bad (!within w (1 / 16) 16 || decide (bf w < bf (s.pg Pg.CUP Reg.CUP_ADMIN)))
  | 0x10 => bad (!within w (1 / 128) (1 / 2))
  | 0x11 => chkCupCmd s w
  | _ => Err.OK

/-- A channel code of SAMP_CAPSEL is legal (R101). -/
def capCodeOk (c : Nat) : Bool :=
  decide (c < 0x50) || (decide (0x50 ≤ c) && decide (c < 0x60)) || c == 0xFF

/-- Samples of one channel for a SAMP_CAPSEL word (R101). -/
def capShare (sel : Word) : Nat := 4096 / max 1 (capSelected sel).length

/-- An AUX channel that a write would disable is in use (R95, R246). -/
def auxInUse (s : State) (n : Nat) : Bool :=
  (List.range 16).any fun r => (outOfOff s r && ffsrc s r == 0x10 + n)
    || (bit (s.rr r Reg.RAIL_THCFG) 31 && fld (s.rr r Reg.RAIL_THCFG) 7 0 == n)

/-- SAMP page (R94, R95, R101, R102, R246). -/
def chkSamp (s : State) (off : Nat) (w : Word) : Nat :=
  let run := s.capt.st == 1
  let bad (b : Bool) : Nat := if b then Err.RANGE else Err.OK
  match off with
  | 0x08 => if (List.range 16).any fun n => bit (s.pg Pg.SAMP off) n && !bit w n && auxInUse s n then Err.CONFLICT else Err.OK
  | 0x40 => firstErr [(run, Err.BUSY), (!([fld w 7 0, fld w 15 8, fld w 23 16, fld w 31 24].all capCodeOk), Err.RANGE)]
  | 0x41 => firstErr [(run, Err.BUSY), (decide (capShare (s.pg Pg.SAMP Reg.SAMP_CAPSEL) < fld w 27 16), Err.RANGE)]
  | 0x42 => firstErr [(run, Err.BUSY)]
  | 0x43 => if bit w 0 && s.capt.owner == 2 then Err.CONFLICT else Err.OK
  | 0x45 => bad (bit w 0)
  | o => if 0x10 ≤ o && o < 0x20 then bad (!within w (1 / 10) (8 / 5)) else Err.OK

/-- ENG page (R138, R161, R162). -/
def chkEng (s : State) (off : Nat) (w : Word) : Nat :=
  match off with
  | 0xB => if fld w 15 0 == 0 then Err.RANGE else Err.OK
  | 0x10 => if bit w 0 && paired s then Err.STATE else Err.OK
  | 0x11 => if decide (6 ≤ fld w 6 4) || decide (9 ≤ fld w 3 0) then Err.RANGE else Err.OK
  | _ => Err.OK

/-- TRIP page (R131, R134, R135). -/
def chkTrip (s : State) (off : Nat) (w : Word) : Nat :=
  if off = Reg.TRIP_CLR then
    (if (bitsOf 24 w.toNat).any fun n => s.tripRaw.testBit n then Err.TRIP_ACTIVE else Err.OK)
  else if Reg.TRIP_CFG ≤ off && off < Reg.TRIP_CFG + 24 then
    let n := off - Reg.TRIP_CFG
    firstErr [(s.tripLatch.testBit n, Err.STATE), (decide (8 ≤ n) && bit w 30, Err.RANGE)]
  else if Reg.TRIP_MAP ≤ off && off < Reg.TRIP_MAP + 24 && s.tripLatch.testBit (off - Reg.TRIP_MAP) then Err.STATE
  else Err.OK

/-- PIN page (R99, R445, R446). -/
def chkPin (s : State) (off : Nat) (w : Word) : Nat :=
  let old := s.pg Pg.PIN Reg.PIN_FUNC0
  let spa3 := bit (s.pg Pg.SETIN (Reg.SETIN_SPA_CFG + 3)) 31
  let spp (n : Nat) : Bool := bit (s.pg Pg.SETIN (Reg.SETIN_SPP_CFG + n)) 31
  let three (n : Nat) : Bool := (List.range n).any fun k => fld w (2 * k + 1) (2 * k) == 3
  match off with
  | 0x8 => firstErr [
      ((bit w 2 && spa3) || (bit w 1 && spp 3) || (bit w 0 && spp 2), Err.CONFLICT),
      (bit (s.pg Pg.GANG Reg.GANG_CFG) 31 && (List.range 3).any (fun k => bit old k && !bit w k), Err.CONFLICT)]
  | 0x9 => if three 4 then Err.RANGE else Err.OK
  | 0xB => if three 3 then Err.RANGE else Err.OK
  | _ => Err.OK

/-! ### Collector, counters, Gradebook, stage bus, pair, device -/

/-- FC page (R285, R286, R293, R294). -/
def chkFc (s : State) (off : Nat) (w : Word) : Nat :=
  match off with
  | 0x8 => if decide (6 ≤ fld w 10 8) then Err.RANGE else Err.OK
  | 0xE => firstErr [
      (bit w 0 && bit w 1, Err.RANGE),
      (bit w 1 && s.dev.st == .locked, Err.LOCKED),
      (bit w 1 && (s.dev.st != .safe || anyStand3 s || s.twin.pst != .solo), Err.STATE)]
  | 0xF => if decide (fld w 12 0 < 50) || decide (5000 < fld w 12 0) then Err.RANGE else Err.OK
  | o => if 0x20 ≤ o && o < 0x28 && (bitsOf 32 w.toNat).any (fun j => stands s (32 * (o - 0x20) + j)) then Err.STATE else Err.OK

/-- FCSEV page (R277). -/
def chkFcsev (off : Nat) (w : Word) : Nat :=
  if (List.range 8).any fun j =>
    let r := classRange (8 * (off - 8) + j)
    let c := fld w (4 * j + 2) (4 * j)
    decide (c < r.1) || decide (r.2 < c)
  then Err.RANGE else Err.OK

/-- Whether an event code counts (some false), watches a threshold (some true), or names nothing (R404). -/
def evtKind (e : Nat) : Option Bool :=
  if [0x13, 0x22, 0x23, 0x32, 0x41].contains e then some true
  else if [0x00, 0x01, 0x02, 0x10, 0x11, 0x12, 0x14, 0x20, 0x21, 0x24, 0x25, 0x26, 0x30, 0x31, 0x40, 0x50, 0x51, 0x52, 0x53, 0x54].contains e
  then some false else none

/-- An instance lies in the range of its event (R404). -/
def evtInst (e i : Nat) : Bool :=
  match e with
  | 0x10 | 0x12 => decide (i < 0x80) || i == 0xFF
  | 0x11 => decide (i < 8) || i == 0xFF
  | 0x20 | 0x21 => decide (i < 0x30)
  | 0x22 => decide (i < 0x10) || i == 0xFF
  | 0x23 | 0x24 | 0x25 | 0x26 => decide (i < 0x10)
  | 0x30 | 0x31 | 0x54 => decide (i < 3) || i == 0xFF
  | 0x32 => decide (i < 3)
  | 0x40 => decide (i < 6) || i == 0xFF
  | 0x52 => decide (i < 0x40) || i == 0xFF
  | _ => i == 0

/-- PERF page (R399, R405). -/
def chkPerf (s : State) (off : Nat) (w : Word) : Nat :=
  if off = Reg.PERF_BWWIN then (if fld w 15 0 == 0 then Err.RANGE else Err.OK)
  else if off < Reg.PERF_CFG then Err.OK
  else
    let n := off - Reg.PERF_CFG
    let e := fld w 30 24
    firstErr [
      (bit (s.pg Pg.PERF Reg.PERF_RUN) n, Err.STATE),
      (bit w 31 && (n == 0 || fld w 30 0 != 0), Err.RANGE),
      ((evtKind e).isNone || !evtInst e (fld w 23 16), Err.RANGE),
      (evtKind e == some false && fld w 15 0 != 0, Err.RANGE)]

/-- A page of the array is being programmed, or its sector erased (R330). -/
def nvPageBusy (s : State) (a : Nat) : Bool :=
  match s.nv.cur with
  | none => false
  | some c => if c.erase then c.sector == sectorOf a else c.bytes.any fun b => b.1 / 256 == a / 256

/-- A record type of R338. -/
def nvTypeOk (id : Nat) : Bool :=
  [0x01, 0x02, 0x03, 0x04, 0x10, 0x11, 0x20, 0x30, 0x31].contains id || (decide (0x100 ≤ id) && decide (id ≤ 0x7FFF))

/-- The record a FIND or FINDSEQ names (R356). -/
def nvFound (s : State) (cmd : Nat) : Option Rec :=
  let rec_ := s.pg Pg.NV Reg.NV_REC
  if cmd = 5 then (findable s (fld rec_ 31 16))[fld rec_ 11 8]?
  else ((s.nv.recs.filter fun r => r.valid && wholeRec s r && r.seq == (s.pg Pg.NV Reg.NV_RSEQ).toNat).mergeSort fun a b => decide (b.addr ≤ a.addr)).head?

/-- NV_CMD (R330, R333, R356). An all-zero write requests nothing (R429). -/
def chkNvCmd (s : State) (w : Word) : Nat :=
  let cmd := fld w 3 0
  let a := s.pg Pg.NV Reg.NV_ADDR
  let sec := fld a 10 4
  let page := sec * 4096 + fld a 3 0 * 256
  let id := fld (s.pg Pg.NV Reg.NV_REC) 31 16
  let found := match nvFound s cmd with | some r => nvPageBusy s r.addr | none => false
  if cmd = 0 then Err.OK else firstErr [
    (s.nv.hbusy, Err.BUSY),
    (decide (6 < cmd), Err.RANGE),
    (cmd == 1 && nvPageBusy s page, Err.BUSY),
    ((cmd == 2 || cmd == 3) && decide (32 ≤ sec), Err.RANGE),
    ((cmd == 2 || cmd == 3) && protectedBy (nvBp s) sec, Err.LOCKED),
    (cmd == 4 && !(decide (0x100 ≤ id) && decide (id ≤ 0x7FFF)), Err.RANGE),
    (cmd == 5 && !nvTypeOk id, Err.RANGE),
    ((cmd == 5 || cmd == 6) && found, Err.BUSY)]

/-- NV page (R333, R347, R356). -/
def chkNv (s : State) (off : Nat) (w : Word) : Nat :=
  if off = Reg.NV_CMD then chkNvCmd s w
  else if (off = Reg.NV_ADDR || off = Reg.NV_REC || Reg.NV_BUF ≤ off) && s.nv.hbusy then Err.BUSY
  else if Reg.NV_TCFG ≤ off && off < Reg.NV_TCFG + 4 && decide (bf w < 8) then Err.RANGE
  else Err.OK

/-- DOM page (R161, R184-R186). -/
def chkDom (s : State) (off : Nat) (w : Word) : Nat :=
  match off with
  | 0x10 => firstErr [
      ((List.range 4).any fun k => bit w k && bit w (k + 4), Err.RANGE),
      (s.eng.haltReq, Err.STATE),
      ((List.range 4).any fun k => bit w k && ((s.dom k).seq != 0 || !(takers s k).all (canStart s)), Err.STATE)]
  | 0x11 => if fld w 23 0 == 0 then Err.RANGE else Err.OK
  | _ => Err.OK

/-- SBUS page (R384-R393). -/
def chkSbus (s : State) (off : Nat) (w : Word) : Nat :=
  let old := s.pg Pg.SBUS Reg.SB_CFG
  match off with
  | 0x8 => firstErr [
      (fld w 23 16 == 0 || fld w 30 29 == 3, Err.RANGE),
      (bit old 31 && (fld w 30 29 != fld old 30 29 || fld w 27 24 != fld old 27 24), Err.STATE)]
  | 0xB => firstErr [
      (decide (4 < fld w 15 13) || (bit w 31 && fld w 15 13 == 0), Err.RANGE),
      (!bit old 31, Err.STATE),
      (s.sb.hbusy, Err.BUSY)]
  | 0xC => if s.sb.hbusy then Err.BUSY else Err.OK
  | o =>
    let n := o - Reg.SB_POLL
    firstErr [
      (fld w 7 0 == 0, Err.RANGE),
      (!bit w 31 && (List.range 16).any (fun r => bit (s.rr r Reg.RAIL_THCFG) 31 && fld (s.rr r Reg.RAIL_THCFG) 7 0 == 0x40 + n), Err.CONFLICT)]

/-- TWIN page (R321-R325). -/
def chkTwin (s : State) (off : Nat) (w : Word) : Nat :=
  match off with
  | 0x8 => firstErr [
      (fld w 23 16 == 0 || fld w 15 8 == 0, Err.RANGE),
      (bit w 31 && bit (s.pg Pg.GANG Reg.GANG_CFG) 31, Err.CONFLICT)]
  | 0xB => firstErr [
      (decide (1 < bitCount 3 w), Err.RANGE),
      (bit w 0 && !(s.twin.pst == .primary && s.twin.ppst == 4), Err.STATE),
      (bit w 1 && s.twin.pst != .primary && s.twin.pst != .solo, Err.STATE),
      (bit w 2 && !((s.twin.pst == .orphan || s.twin.pst == .syncing || s.twin.pst == .ready) && s.dev.st == .safe
        && !anyStand3 s), Err.STATE)]
  | _ => Err.OK

/-- GANG page (R325). -/
def chkGang (s : State) (off : Nat) (w : Word) : Nat :=
  if off = Reg.GANG_CFG then firstErr [
      (fld w 7 0 == 0, Err.RANGE),
      (bit w 31 && (bit (s.pg Pg.TWIN Reg.TWIN_CFG) 31 || fld (s.pg Pg.PIN Reg.PIN_FUNC0) 2 0 != 7), Err.CONFLICT)]
  else if off < Reg.GANG_OFS then
    firstErr [(outOfOff s (fld w 27 24), Err.STATE), (!cascade s (fld w 27 24), Err.RANGE)]
  else Err.OK

/-- DEV_CMD (R420). -/
def chkDevCmd (s : State) (w : Word) : Nat :=
  let pst := s.twin.pst
  firstErr [
    (decide (1 < bitCount 3 w), Err.RANGE),
    (if bit w 2 then fld w 31 24 != 0x5A else fld w 31 24 != 0, Err.RANGE),
    (bit w 0 && !(s.dev.st == .idle && (pst == .solo || pst == .primary)), Err.STATE),
    (bit w 1 && !(s.dev.st == .active && (List.range 16).all (inOff s)), Err.STATE),
    (bit w 2 && (!(s.dev.st == .idle || s.dev.st == .active || s.dev.st == .safe) || pst == .primary), Err.STATE)]

/-- The own checks of a block register, by page type. (DESIGN CHOICE, log entry 19) -/
def chkBlock (s : State) (t : PType) (n off : Nat) (w : Word) : Nat :=
  match t with
  | .dev => chkDevCmd s w
  | .clk => Err.OK
  | .host => Err.OK
  | .fc => chkFc s off w
  | .fcsev => chkFcsev off w
  | .perf => chkPerf s off w
  | .nv => chkNv s off w
  | .dom => chkDom s off w
  | .sbus => chkSbus s off w
  | .twin => chkTwin s off w
  | .setin => chkSetin s off w
  | .grid => chkGrid s off w
  | .cup => chkCup s off w
  | .samp => chkSamp s off w
  | .eng => chkEng s off w
  | .trip => chkTrip s off w
  | .rail => chkRail s n off w
  | .ph => chkPh s n off w
  | .rcomp => chkRcomp s n off w
  | .rtab => chkRtab s n off w
  | .pin => chkPin s off w
  | .gang => chkGang s off w

/-- RWL fields, reserved bits, then the chapter's checks (R430, R431). -/
def chkReg (s : State) (a : Nat) (row : RegRow) (t : PType) (n : Nat) (w : Word) : Nat :=
  let rwl := BitVec.ofNat 32 row.rwl
  let guarded := row.rwl != 0 && (row.wmask == row.rwl || (s.reg a ^^^ w) &&& rwl != 0)
  firstErr [
    (guarded && bit (s.pg (a / 256) Reg.PG_CTL) 31, Err.LOCKED),
    (guarded && !blockIdle s (a / 256), Err.STATE),
    (w &&& BitVec.ofNat 32 row.resv != 0, Err.RANGE),
    (true, chkBlock s t n (a % 256) w)]

/-- Registers common to every page (R373, R375, R425, R288). (DEDUCED, log entry 20) -/
def chkHeader (s : State) (h pg : Nat) (t : PType) (off : Nat) (w : Word) : Nat :=
  match off with
  | 0x1 => firstErr [
      (fld w 30 1 != 0, Err.RANGE),
      (bit (s.pg pg Reg.PG_CTL) 31 && !bit w 31 && (s.ports.idRead.getD h none) != some pg, Err.SEQ)]
  | 0x5 =>
    let ok (b k i : Nat) : Bool := decide (i < k) && isSrc (b + i)
    (match forceBase t with
     | none => if w = 0 then Err.OK else Err.RANGE
     | some (b, k) => if (bitsOf 32 w.toNat).all (ok b k) then Err.OK else Err.RANGE)
  | 0x6 =>
    let f (k : Nat) : Nat := fld w (2 * k + 1) (2 * k)
    firstErr [
      (fld w 31 6 != 0 || (List.range 3).any (fun k => f k == 2), Err.RANGE),
      (f (owner s) != 3, Err.RANGE),
      (pg == Pg.HOST && (List.range 3).any (fun k => k != owner s && f k != 1), Err.RANGE)]
  | _ => Err.OK

/-- A write is allowed by R373 and R374. -/
def mayWrite (s : State) (h pg off : Nat) (w : Word) : Bool :=
  let acc := accessOf s h pg
  if off = Reg.PAGE_SEL then true
  else if pg = Pg.HOST && off = Reg.HOST_ERRCLR then true
  else if pg = Pg.HOST && off = Reg.PG_EVT && w &&& ~~~ BitVec.ofNat 32 (2 ^ h) == 0 then true
  else if off = Reg.PG_EVTEN then acc != 0
  else if off = Reg.PG_CTL || off = Reg.PG_ACL then h == owner s
  else acc == 3

/-- Registers that a standby and a device in LOCKED still take from a host (R282, R310). -/
def alwaysServed (pg off : Nat) : Bool := off == Reg.PAGE_SEL || (pg == Pg.FC && off == Reg.FC_LOGSEL)

/-- The code of a write (R376). -/
def writeCode (s : State) (h a : Nat) (w : Word) : Nat :=
  let pg := a / 256
  let off := a % 256
  match pageType pg with
  | none => Err.NO_PAGE
  | some (t, n) =>
    let header := off < 7 || off == Reg.PAGE_SEL
    let row := if off < 8 || off == Reg.PAGE_SEL then none else regRow a
    let rw := if header then off != 0 && off != 2 else match row with | some r => r.wmask != 0 | none => false
    firstErr [
      (!header && row.isNone, Err.NO_REG),
      (!mayWrite s h pg off w, Err.DENIED),
      (isStandby s && pg != Pg.TWIN && !alwaysServed pg off, Err.TWIN_RO),
      (s.dev.st == .locked && !alwaysServed pg off, Err.LOCKED),
      (!rw, Err.RO),
      (off == Reg.PAGE_SEL && fld w 31 8 != 0, Err.RANGE),
      (off == Reg.PAGE_SEL && (pageType (fld w 7 0)).isNone, Err.NO_PAGE),
      (header && off != Reg.PAGE_SEL, chkHeader s h pg t off w),
      (true, match row with | some r => chkReg s a r t n w | none => Err.OK)]

/-- The code of a read (R374, R376, R102, R162). (DEDUCED, log entry 21) -/
def readCode (s : State) (h a : Nat) : Nat :=
  let pg := a / 256
  let off := a % 256
  firstErr [
    ((pageType pg).isNone, Err.NO_PAGE),
    (off != Reg.PG_ID && accessOf s h pg == 0, Err.DENIED),
    (a == Pg.SAMP * 256 + Reg.SAMP_CAPDATA && s.capt.st == 1, Err.BUSY),
    (a == Pg.ENG * 256 + Reg.ENG_STDAT && !s.eng.halted, Err.BUSY)]

end Sys2Proof.Machine
end

