-- ==== Sys2Proof/Machine/Reset.lean ====
section
/-! DEFINITION. Machine/Reset.lean: asserting and releasing a reset (R409-R413, R421), and the rebuilding of the Gradebook's index in
BOOT (R345, R349, R350). -/

namespace Sys2Proof.Machine

/-! ### Assertion (R411, R412, R421) -/

/-- Order of the causes that meet in one reset (R412): POR, RESETn, twin-commanded, soft. -/
def causeRank (c : Nat) : Nat := match c with | 0 => 0 | 1 => 1 | 3 => 2 | _ => 3

/-- A reset is asserted: every register takes its reset value, the flash keeps its contents, an operation of the array ends as a
power loss would end it, and the straps and loss counts are kept as R421 lists. -/
def assertReset (cause : Nat) (vcoreLost : Bool) (s : State) : State :=
  let c := if s.dev.rst && decide (causeRank s.dev.cause ≤ causeRank cause) then s.dev.cause else cause
  let d := s.dev
  let locked := d.st == .locked || d.lockAtEnd
  let flash := (nvCut s).nv.flash
  { State.reset with
    pending := s.pending, cyc := s.cyc, clk := s.clk, nv := Nv.init flash
    dev := { Dev.init c with
      clksel := d.clksel, role := d.role, ownsel := d.ownsel, addr0 := d.addr0, addr1 := d.addr1
      refLoss := if c = 0 then 0 else d.refLoss, pllUnlk := if c = 0 then 0 else d.pllUnlk
      pllUp := decide (2 ≤ c) && d.pllUp, lockAtEnd := locked && !vcoreLost
      testen := d.testen, tap := if cause = 0 then .idcode else d.tap, tdo := d.tdo, cells := d.cells } }

/-- POWER_ON_RESET (R409, R411). -/
def powerOnReset (vcoreLost : Bool) (s : State) : State := assertReset 0 vcoreLost s

/-- RESETN (R411): ignored in LOCKED (R295). (DEDUCED, log entry 15; DESIGN CHOICE, log entry 75) -/
def resetnPulse (s : State) : State := if s.dev.st == .locked then s else assertReset 1 false s

/-- An instruction as the port executes it: every other than those it accepts runs as BYPASS, EXTEST, CLAMP and HIGHZ so with TESTEN low
(R452). -/
def tapRuns (testen : Bool) (i : TapInstr) : TapInstr :=
  match i with
  | .extest | .clamp | .highz => if testen then i else .bypass
  | .other => .bypass
  | _ => i

/-- TESTEN (R452): a high level holds the device in reset as RESETn does; at a low one EXTEST, CLAMP and HIGHZ run as BYPASS. -/
def testenLevel (level : Bool) (s : State) : State :=
  let s := { s with dev := { s.dev with testen := level, tap := tapRuns level s.dev.tap } }
  if level then resetnPulse s else s

/-- TWIN_COMMANDED_RESET (R323): the fourth received frame with PRST; ignored in LOCKED. -/
def twinReset (s : State) : State :=
  if s.dev.rst || s.dev.st == .locked || s.twin.prstGot < 4 then s else assertReset 3 false s

/-! ### Release: steps 1 to 4 of BOOT (R413) -/

/-- What the flash self-test leaves when it fails (R413, R416): both copies untried, 0x95 with its cause. -/
def flashFailed (s : State) : State :=
  let w : Word := pack [(3, 30)]
  setCond Src.NV_BOOT_FAIL 3 true { s with dev := { s.dev with bootErrA := w, bootErrB := w } }

/-- Steps 2 to 4 of BOOT with what they find. -/
def bootChecks (trimOk collectorOk flashOk : Bool) (s : State) : State :=
  let s := if trimOk then s else setCond Src.SENSE_TRIM 0 true s
  let s := if collectorOk then s else selfFault s
  if flashOk then s else flashFailed s

/-- The clocks run (R62): the lock is a CKF edge, the first CKB cycle of the frame that carries the count held (R70); the accumulator goes
on from where the clocks stopped (R192). -/
def firstEdge (s : State) : State :=
  let s := { s with grid := { s.grid.upTo s (incNow s) with accAt := 50 * s.dev.frame } }
  perf 0x02 0 1 { s with clk := s.clk + 1, perf := { s.perf with at_ := 0, skip := 0, now := 0, acc := false, head := true } }

/-- The straps as the release of a reset leaves them (R58, R301, R359, R366): sampled where it is a power-on reset. (DEDUCED, log entry 156) -/
def Dev.sampled (y : Straps) (d : Dev) : Dev :=
  if d.cause = 0 then { d with clksel := y.clksel, role := y.role, ownsel := y.ownsel, addr0 := y.addr0, addr1 := y.addr1 } else d

/-- BOOT has passed step 1 (R413). Where the PLL locks anew, the first frame begins at the lock; where it kept running, at the next CKF edge
(R70). -/
def bootFrom (x : BootFinds) (s : State) : State :=
  let d := s.dev
  let s := if d.pllUp then s else firstEdge s
  bootChecks x.trimOk x.collectorOk x.flashOk { s with dev := { d with pllUp := true, fresh := d.pllUp, clkStop := false, step1 := none } }

/-- RESET_RELEASE (R411, R413): BOOT begins. TESTEN holds the reset. Without a lock (`lock` false) a PLL that the reset restarted leaves BOOT
in step 1, where no derived clock runs. (DESIGN CHOICE, log entry 12) -/
def resetRelease (y : Straps) (x : BootFinds) (lock : Bool) (s : State) : State :=
  if !s.dev.rst || s.dev.testen then s else
  let s := { s with dev := { s.dev.sampled y with rst := false, alive := .low } }
  if s.dev.pllUp || lock then bootFrom x s else { s with dev := { s.dev with clkStop := true, step1 := some x } }

/-- IDCODE (R452): version 0x1, part number 0x4816, the manufacturer's code, 1. (PRESUMED, log entry 16) -/
def idcode : Word := pack [(0x1, 28), (0x4816, 12), (Config.jepCode % 2048, 1), (1, 0)]

/-- What the data register of the loaded instruction captures, the bit nearest TDO first. (PRESUMED, log entry 16) -/
def tapCapture (s : State) : List Bool :=
  match s.dev.tap with
  | .idcode => (List.range 32).map (bit idcode)
  | .sample | .extest => (List.range Config.cellCount).map (Config.cellValue s.cyc)
  | .bypass | .clamp | .highz | .other => [false]

/-- A scan of the data register: what was captured leaves by TDO before what is shifted in; the boundary register's update latches take
what it then holds. -/
def tapScan (bits : List Bool) (s : State) : State :=
  let l := tapCapture s ++ bits
  let held := l.drop bits.length
  { s with dev := { s.dev with tdo := l.take bits.length
                               cells := match s.dev.tap with | .sample | .extest => held | _ => s.dev.cells } }

/-- BOUNDARY_SCAN (R452). (PRESUMED, log entry 16) -/
def boundaryScan (op : TapOp) (s : State) : State :=
  match op with
  | .trst => { s with dev := { s.dev with tap := .idcode } }
  | .load i => { s with dev := { s.dev with tap := tapRuns s.dev.testen i } }
  | .scan bits => tapScan bits s

/-! ### Step 6 of BOOT: the index of the record store (R334-R338, R345, R349, R350) -/

/-- Record-store sectors that hold a programmed byte. -/
def touched (s : State) : List Nat := (List.range 128).filter fun n => 32 ≤ n && s.nv.flash.any fun c => sectorOf c.1 == n

/-- The first slot of a sector holds a valid SECT record. -/
def sectValid (s : State) (n : Nat) : Bool :=
  match recAt s (n * 4096) with | some r => r.valid && r.id == 1 | none => false

/-- A sector that compaction erased: its SECT waits for SEQ, CRC, GEN and COMMIT (R341). One whose opening was cut has some of them and
is void (R345). -/
def sectWaiting (s : State) (n : Nat) : Bool :=
  !sectorUsed s n && le (nvBytes s (n * 4096) 2) == 1 && (nvBytes s (n * 4096 + 4) 10).all (· == 0xFF) && (nvBytes s (n * 4096 + 18) 13).all (· == 0)

/-- The first free address behind a record (R345, R348). -/
def behind (r : Rec) : Nat :=
  if !r.valid then alignUp (r.addr + r.size) 256
  else if r.id = 0x30 then alignUp (r.addr + 32) 256 + 256 else r.addr + r.size

/-- The newest record is settled: 0xA5 again, or 0x00 over its COMMIT (R345), by a page program (R404, R406). -/
def settle (r : Rec) (s : State) : State :=
  let s := bytes 5 256 (perf 0x54 0 1 s)
  let a := r.addr + r.size - 1
  if nvByte s a = 0xA5 then progByte a 0xA5 s else progByte a 0 s

/-- The index: valid records in ascending address; of duplicates with one SEQ the one at the higher address (R345). -/
def indexOf (l : List Rec) : List Rec :=
  let v := l.filter (·.valid)
  v.filter fun r => !v.any fun x => x.id == r.id && x.seq == r.seq && decide (r.addr < x.addr)

/-- Base, open page and value of a tally counter (R348, R349). -/
def deriveTally (n : Nat) (s : State) : State :=
  let base := match (recsOf s 0x31).find? fun r => (recBody s r).getD 8 0 == n with
    | some r => le ((recBody s r).take 4)
    | none => 0
  let page := ((recsOf s 0x30).find? fun r => (recBody s r).getD 0 0 == n && !absorbed s r.seq).map fun r =>
    (alignUp (r.addr + 32) 256, r.seq)
  let s := { s with nv := { s.nv with tbase := s.nv.tbase.set n base, tpage := s.nv.tpage.set n page } }
  { s with nv := { s.nv with tally := s.nv.tally.set n (tallyValue s n) } }

/-- Step 6 of BOOT. -/
def nvRebuild (s : State) : State :=
  let secs := touched s
  let marked := secs.filter (sectValid s)
  let bad := (((marked.flatMap (scanSector s)).filter fun r => r.valid && r.id == 4).map fun r => (recBody s r).getD 0 0)
  let good := marked.filter fun n => !bad.contains n
  let gen (n : Nat) : Nat := le (nvBytes s (n * 4096 + 10) 4)
  let top := maxN (good.map gen)
  let last := match good.find? fun n => gen n == top with
    | some n => (scanSector s n).getLast?
    | none => none
  let s := match last with | some r => settle r s | none => s
  let slots := good.flatMap (scanSector s)
  let voids := secs.filter fun n => !sectValid s n && !sectWaiting s n && !bad.contains n
  let known := (List.range 128).map fun n =>
    if marked.contains n || (secs.contains n && sectWaiting s n) then le (nvBytes s (n * 4096 + 14) 4) else 0
  let wear := (List.range 128).map fun n => if voids.contains n then maxN known else known.getD n 0
  let s := { s with nv := { s.nv with recs := indexOf slots, appAddr := (last.map behind).getD 0, gen := top, wear := wear, bad := bad
                                      reErase := voids } }
  let s := (((secs.filter fun n => !bad.contains n).flatMap (scanSector s)).filter fun r => !r.valid && nvByte s (r.addr + r.size - 1) == 0xA5).foldl
    (fun s r => event Src.NV_REC_CRC (sectorOf r.addr) s) s
  loop 8 (fun s n => deriveTally n s) s

/-! ### Meanings -/

/-- POWER_ON_RESET (R409). -/
def execPowerOnReset (vcoreLost : Bool) (s : State) : Host.Outcome State Fault Refusal := .next (powerOnReset vcoreLost s.begin)
/-- RESETN (R411). -/
def execResetn (s : State) : Host.Outcome State Fault Refusal := .next (resetnPulse s.begin)
/-- TESTEN (R452). -/
def execTesten (level : Bool) (s : State) : Host.Outcome State Fault Refusal := .next (testenLevel level s.begin)
/-- TWIN_COMMANDED_RESET (R323). -/
def execTwinCommandedReset (s : State) : Host.Outcome State Fault Refusal := .next (twinReset s.begin)
/-- RESET_RELEASE (R413). -/
def execResetRelease (straps : Straps) (trimOk collectorOk flashOk : Bool) (s : State) (lock : Bool := true) :
    Host.Outcome State Fault Refusal :=
  .next (resetRelease straps ⟨trimOk, collectorOk, flashOk⟩ lock s.begin)
/-- BOUNDARY_SCAN (R452). -/
def execBoundaryScan (op : TapOp) (s : State) : Host.Outcome State Fault Refusal := .next (boundaryScan op s.begin)

end Sys2Proof.Machine
end

