-- ==== Sys2Proof/Machine/Write.lean ====
section
/-! DEFINITION. Machine/Write.lean: an accepted host access and what it does (R373-R379, R425-R433): the stored fields, and the
effect each chapter gives a write; the record of a rejection (R377); replicated writes (R310). -/

namespace Sys2Proof.Machine

/-! ### Stored fields (R428-R430) -/

/-- The stored word after a write: RW and RWL fields take the write, a 1 clears a W1C flag, RO and WO fields store nothing. -/
def RegRow.stored (r : RegRow) (old w : Word) : Word :=
  ((old &&& ~~~ r.rwBits) ||| (w &&& r.rwBits)) &&& ~~~ (w &&& BitVec.ofNat 32 r.w1c)

/-- PG_ACL as stored: the guests' fields; the owner's field and the HOST page read fixed values (R373). -/
def aclStored (s : State) (pg : Nat) (w : Word) : Word :=
  if pg = Pg.HOST then 0 else setFld (setFld w 31 6 0) (2 * owner s + 1) (2 * owner s) 0

/-- The registers with an accepted write's fields (R424, R428, R430). -/
def store (h a : Nat) (w : Word) (s : State) : State :=
  let pg := a / 256
  match a % 256 with
  | 0x1 => s.setReg a (setFld w 30 0 0)
  | 0x3 => clrEvt pg w.toNat s
  | 0x4 => s.setReg (hostKey h a) w
  | 0x5 => s
  | 0x6 => s.setReg a (aclStored s pg w)
  | 0xFF => s.setReg (hostKey h Reg.PAGE_SEL) w
  | _ =>
    if a = Pg.FC * 256 + Reg.FC_LOGSEL then s.setReg (hostKey h a) w else
    match regRow a with
    | some r => s.setReg a (r.stored (s.reg a) w)
    | none => s

/-! ### Phases (R27, R121-R127, R209, R229) -/

/-- The reference instant of a manual-duty phase that starts at `t` (R27): that, or 2 µs after its domain's DRVEN was last driven high. -/
def startManual (t : Nat) (s : State) (p : Nat) : State :=
  s.modGen p fun g => { g with ref := some (max t ((s.dom (domOfPh s p)).drvRise + 800)) }

/-- A generator is enabled (R27, R209, R214): one in manual duty mode takes the CKB edge of the acceptance as its reference, and may drive its domain's DRVEN high; a
phase of a running rail becomes available and is held; one of a rail that is starting takes its shadow set, and leads it where no other does. (DEDUCED, log entry 36) -/
def enablePhase (p : Nat) (s : State) : State :=
  match railOf s p with
  | none =>
    let a := (0x20 + p) * 256 + Reg.PH_CTL
    startManual (edgeCnt s) (noteDrv (edgeCnt s) (s.setReg a (setFld (s.reg a) 0 0 0)) s) p
  | some r =>
    if (s.rail r).st.running then
      s.modPh p fun x =>
        let g := { x.gen with hold := true }
        if x.pst == .failed then { x with gen := g } else { x with pst := .shed, joinNext := !bit (rgOf s r 0) 31, gen := g }
    else if (s.rail r).st == .precheck || (s.rail r).st == .prebias then
      let s := loadShadow p s
      if (s.rail r).lead.isSome then s
      else (s.modRail r fun x => { x with lead := some p }).modGen p fun g => { g with ref := some (nextCnt s) }
    else s

/-- A generator is disabled (R127, R229): high impedance at once; a phase of a running rail is unavailable, which 0x3A reports. (DESIGN CHOICE, log entry 149) -/
def disablePhase (p : Nat) (s : State) : State :=
  let was := (s.ph p).pst
  let s := s.modPh p fun x => { x with gen := x.gen.restIn s, converting := false, sampled := false, joining := false
                                       joinNext := false, offAt := if was == .active then some s.clk else x.offAt
                                       pst := if x.pst == .active || x.pst == .shed then .unavail else x.pst }
  match railOf s p with
  | none => s
  | some r =>
    let next := ((phasesOf s r).filter (enOf s)).head?
    let s := s.modRail r fun x => { x with ofsLeft := x.ofsLeft.filter (· != p)
                                           lead := if x.lead == some p && !x.st.running then next else x.lead }
    if was == .active then activeChanged r (event Src.PH_UNAVAIL p s)
    else if was == .shed then
      let s := event Src.PH_UNAVAIL p s
      if (s.rail r).st.running && (availOf s r).isEmpty then event Src.RAIL_NOPH r s else s
    else s

/-- PH_PER of a phase whose rail is out of OFF (R125): the period of every assigned phase, with offsets re-spread. -/
def periodOfRail (p : Nat) (w : Word) (s : State) : State :=
  match railOf s p with
  | none => s
  | some r =>
    if !outOfOff s r then s else
    let s := (phasesOf s r).foldl (fun s q => s.setReg ((0x20 + q) * 256 + Reg.PH_PER) w) s
    if (s.rail r).st.running then respread r s else s

/-- PH_LOAD.LOAD (R122, R123): at once in STOP, else at the next boundary; with a load pending a further one changes nothing. -/
def loadPhase (p : Nat) (s : State) : State :=
  if (s.ph p).gen.ldpend then s
  else if gst s p == .stop then loadShadow p s else s.modGen p fun g => { g with ldpend := true }

/-- What a write of a phase page does beside its stored fields. -/
def effectPh (p off : Nat) (old w : Word) (s : State) : State :=
  match off with
  | 0x08 => s.modPh p fun x => { x with pst := .none }
  | 0x18 => if bit w 0 && !bit old 0 then enablePhase p s else if !bit w 0 && bit old 0 then disablePhase p s else s
  | 0x1A => periodOfRail p (BitVec.ofNat 32 (fld w 15 0)) s
  | 0x1E => if bit w 0 then loadPhase p s else s
  | _ => s

/-! ### Rails, banks, tables (R20, R159, R173-R183, R201, R244) -/

/-- A limit that a write disables ends (R244). (DEDUCED, log entry 66) -/
def limitsOff (hiLim loLim : VLim) (r : Nat) (w : Word) (s : State) : State :=
  let s := if fld w 31 16 = 0xFFFF then endLimit hiLim r s else s
  if fld w 15 0 = 0 then endLimit loLim r s else s

/-- What a write of a rail page does beside its stored fields. -/
def effectRail (r off : Nat) (w : Word) (s : State) : State :=
  match off with
  | 0x08 => s.modRail r fun x => { x with ffLost := ffFailed s r }
  | 0x10 => if (s.rail r).st.stopped then s else redecimate r s
  | 0x28 => if bit w 0 then startRail true 0 r s else if bit w 1 then stopCmd r s else if bit w 2 then clrCmd r s else s
  | 0x49 => limitsOff .ov .uv r w s
  | 0x4A => limitsOff .xov .xuv r w s
  | 0x4C => if bit w 31 then s else endThermal r s
  | _ => s

/-- An accepted commit (R159): at once for an idle rail, with the copy back; else PEND. A further commit changes nothing. -/
def commitBank (r : Nat) (s : State) : State :=
  if (s.rail r).pend then s
  else if (s.rail r).st.running then s.modRail r fun x => { x with pend := true }
  else copyBank r (switchBank r s)

/-- Every entry of a ripple table cleared, with its fraction (R201). (DEDUCED, log entry 105) -/
def zeroTable (r : Nat) (s : State) : State := loop 256 (fun s i => setEntry r i 0 s) s

/-- What a write of a ripple table page does beside its stored fields. -/
def effectRtab (r off : Nat) (w : Word) (s : State) : State :=
  if off = 0x89 then (if bit w 2 then zeroTable r s else s)
  else if off < 0x88 then
    let j := 2 * (off - 8)
    (s.setReg (fracKey r j) 0).setReg (fracKey r (j + 1)) 0
  else s

/-! ### Cupping unit and capture (R102, R262-R266) -/

/-- CUP_CMD.START (R262): a sweep takes the buffer (R264). (DESIGN CHOICE, log entry 152) -/
def startCup (s : State) : State :=
  let c := s.pg Pg.CUP Reg.CUP_CFG
  let mode := fld c 31 30
  let s := { s with cup := { s.cup with
    run := true, rail := fld c 23 20, mode := mode, aden := bit c 29, begun := false, theta := 0, half := 0, result := none, amp := fld (s.pg Pg.CUP Reg.CUP_AMP) 15 0
    f := if mode = 2 then sweepFreq s 0 else s.pg Pg.CUP Reg.CUP_FREQ, pt := 0, pts := [], ending := none, zero := false
    noxo := false, nogm := false, xo := 0, gm := 0 } }
  let s := if mode = 2 then
      { s with capt := { s.capt with owner := 2, st := 1, isSweep := true, sweep := [], chans := [], trig := none } }
    else s
  cupRestart s

/-- CUP_CMD (R262-R266). -/
def cupCmd (w : Word) (s : State) : State :=
  if bit w 0 then startCup s
  else if bit w 1 then (if s.cup.run then endAtZero false s else s)
  else if bit w 2 then { s with cup := { s.cup with alpha := s.cup.alpha.set (fld (s.pg Pg.CUP Reg.CUP_CFG) 23 20) bfOne } }
  else if bit w 3 then
    (if s.capt.owner = 2 then { s with capt := { s.capt with owner := 0, st := 0 } } else s)
  else s

/-- SAMP_CAPCTL.ARM (R102): the buffer is taken and a capture starts, or it is released. (DESIGN CHOICE, log entry 71; DESIGN CHOICE, log entry 124) -/
def armCapture (arm : Bool) (s : State) : State :=
  let sel := s.pg Pg.SAMP Reg.SAMP_CAPSEL
  if arm then
    { s with capt := { s.capt with owner := 1, st := 1, share := capShare sel, sel := capSelected sel
                                   chans := (capSelected sel).map fun _ => [], trig := none, srcSeen := false, prev0 := none
                                   isSweep := false } }
  else if s.capt.owner = 1 then { s with capt := { s.capt with owner := 0, st := 0 } } else s

/-! ### Engine (R140, R141, R145, R161, R163) -/

/-- ENG_DBG.HALT = 1 (R161): updates that a lane has taken complete, those that wait are discarded; a further halt changes nothing. -/
def haltEngine (s : State) : State :=
  if s.eng.haltReq then s else
  let q := s.eng.queue.filter s.perf.onLane
  event Src.ENG_HALT 0 (freezeAll { s with eng := { s.eng with haltReq := true, halted := true, queue := q } })

/-- ENG_DBG.HALT = 0 (R163): unless the device keeps them frozen, the generators that are not in STOP restart together from count 0, with
the next frame edge as their reference; a phase that still waits for its first set starts behind its lead phase (R128, R214). -/
def releaseEngine (s : State) : State :=
  if !s.eng.haltReq then s else
  let s := { s with eng := { s.eng with haltReq := false, halted := false } }
  if allFrozen s then s else
  let s := { s with phases := s.phases.map fun x => { x with gen := { x.gen with count := 0 } } }
  let on (p : Nat) : Bool := gst s p != .stop && !(s.ph p).joining
  let s := refAll (fun p => on p && (railOf s p).isSome) (nextCnt s) s
  ((List.range 48).filter fun p => on p && (railOf s p).isNone).foldl (startManual (nextCnt s)) s

/-- ENG_CLR (R140, R141, R145). -/
def clearEngine (w : Word) (s : State) : State :=
  let s := if bit w 0 then { s with eng := { s.eng with peak := 0, qPeak := 0 } } else s
  let s := if bit w 1 then { s with eng := { s.eng with latI := 0, latV := 0 } } else s
  if bit w 2 then { s with eng := { s.eng with ovrCnt := 0 } } else s

/-! ### Trips, domains, device, collector (R134, R184, R185, R285, R286, R294, R420) -/

/-- TRIP_CLR (R134): phases that no latch maps any more leave TRIP at their next boundary. -/
def clearTrips (w : Word) (s : State) : State :=
  let l := bitsOf 24 (s.tripLatch &&& w.toNat)
  let was := (List.range 48).filter (tripped s)
  let s := was.foldl (fun s p => s.modGen p fun g => { g with tripHold := counts s p && g.going }) s
  let s := { s with tripLatch := s.tripLatch - (s.tripLatch &&& w.toNat) }
  l.foldl (fun s n => setCond (tripSrc n).1 (tripSrc n).2 false s) s

/-- DOM_CMD (R184, R185): stops, then starts, in ascending domain. -/
def domCmd (w : Word) (s : State) : State :=
  let s := loop 4 (fun s k => if bit w (k + 4) then beginStop k s else s) s
  loop 4 (fun s k => if bit w k then beginStart k true false (takers s k) s else s) s

/-- DEV_CMD.GO (R420): the phases in manual duty mode that are enabled start at the CKB edge of the acceptance (R27). (DESIGN CHOICE, log entry 34) -/
def goActive (s : State) : State :=
  let t := noteDrv (edgeCnt s) s { s with dev := { s.dev with st := .active } }
  ((List.range 48).filter fun p => (railOf t p).isNone && enOf t p).foldl (startManual (edgeCnt s)) t

/-- DEV_CMD.IDLE (R420): manual generators stop. -/
def goIdle (s : State) : State :=
  let s := leaveActive { s with dev := { s.dev with st := .idle } }
  { s with phases := s.phases.map fun x => { x with gen := x.gen.rest } }

/-- DEV_CMD (R420). -/
def devCmd (w : Word) (s : State) : State :=
  if bit w 0 then goActive s else if bit w 1 then goIdle s else if bit w 2 then assertReset 2 false s else s

/-- FC_CMD (R286, R294). -/
def fcCmd (h : Nat) (w : Word) (s : State) : State :=
  if bit w 0 then { s with fc := { s.fc with firstHi := 0, firstLo := 0, firstTs := 0, ovf := false, ovfCnt := 0 } }
  else if bit w 1 then event Src.FC_EXIT h (leaveSafe .idle s) else s

/-- A write to PERF_OVF clears what wrapped before its cycle too where PERF_WRAP has not flagged it yet; a wrap of the write's own cycle
stays (R401). -/
def clearWraps (w : Word) (s : State) : State :=
  let gone (i : Nat) : Bool := bit w i && s.perf.wrapped.getD i false && !s.perf.now.testBit i
  if !(List.range 32).any gone then s else
  setEvt Pg.PERF 1 (s.modPerf fun x => { x with wrapped := x.wrapped.zipIdx.map fun y => y.1 && !gone y.2 })

/-- PERF_CLR (R402). -/
def clearCtrs (w : Word) (s : State) : State :=
  s.modPerf fun x => { x with ctr := x.ctr.zipIdx.map fun y => if bit w y.2 then 0 else y.1 }

/-! ### Gradebook commands (R356) -/

/-- `n` bytes of the array from an address into the front of NV_BUF. -/
def loadBuf (a n : Nat) (s : State) : State :=
  loop (n / 4) (fun s' k => s'.setReg (Pg.NV * 256 + Reg.NV_BUF + k) (BitVec.ofNat 32 (le (nvBytes s (a + 4 * k) 4)))) s

/-- The 256 bytes of NV_BUF. -/
def bufBytes (s : State) : List Nat := (List.range 64).flatMap fun k => wordBytesLE (s.pg Pg.NV (Reg.NV_BUF + k))

/-- NV_CMD (R356): READ, FIND and FINDSEQ end at once; the others are queued. (DESIGN CHOICE, log entry 82) -/
def nvCmd (w : Word) (s : State) : State :=
  let cmd := fld w 3 0
  let a := s.pg Pg.NV Reg.NV_ADDR
  let sec := fld a 10 4
  let rec_ := s.pg Pg.NV Reg.NV_REC
  let busy (s : State) : State := { s with nv := { s.nv with hbusy := true } }
  match cmd with
  | 1 => let s := bytes 5 256 (loadBuf (sec * 4096 + fld a 3 0 * 256) 256 s)
         { s with nv := { s.nv with hres := 0 } }
  | 2 => busy (nvQueue (.prog sec (fld a 3 0) (bufBytes s)) s)
  | 3 => busy (nvQueue (.erase sec) s)
  | 4 => busy (nvQueue (.append (fld rec_ 31 16) (fld rec_ 1 0) (((bufBytes s).drop 10).take (recSize (fld rec_ 1 0) - 11))) s)
  | 5 | 6 =>
    let found := nvFound s cmd
    let s := if cmd = 5 then bytes 5 (256 * Config.pagesScanned s.cyc) s else if found.isSome then bytes 5 256 s else s
    (match found with
     | none => { s with nv := { s.nv with found := false, hres := 2 } }
     | some r =>
       let s := loadBuf r.addr r.size s
       let s := s.setReg (Pg.NV * 256 + Reg.NV_RSEQ) (BitVec.ofNat 32 r.seq)
       { s with nv := { s.nv with found := true, hres := 0 } })
  | _ => s

/-! ### Stage bus, pair (R321-R323, R388-R393) -/

/-- SB_CFG (R393): enabling asks for recovery; disabling abandons a transfer in mid-byte. -/
def sbCfg (old w : Word) (s : State) : State :=
  if bit w 31 && !bit old 31 then { s with sb := { s.sb with needRecov := true } }
  else if !bit w 31 && bit old 31 then
    let s := if s.sb.cur == some .host || s.sb.again == some .host then endHost (Config.anyCode s.cyc % 256) s else s
    let s := if s.sb.cur.isSome then cutUnit 3 s else s
    { s with sb := { s.sb with cur := none, out := [], again := none, recov := false, needRecov := false } }
  else s

/-- SB_HCMD (R390, R391, R393): queued; the standby executes none, and a stuck bus ends it. -/
def sbHcmd (s : State) : State :=
  if isStandby s then endHost 4 s
  else if s.sb.stuck then endHost 3 s
  else { s with sb := { s.sb with hbusy := true, hostPend := true } }

/-- SB_POLLn (R385, R388): an entry that is enabled becomes due one period later; one that is disabled is not due. -/
def sbPoll (n : Nat) (old w : Word) (s : State) : State :=
  let ent := s.sb.ent.modify n fun e =>
    let e := { e with touched := true }
    if !bit w 31 then { e with due := false }
    else if bit old 31 then e else { e with dueAt := s.dev.frame, due := false, per := fld w 7 0 }
  { s with sb := { s.sb with ent := ent } }

/-- TWIN_CFG.EN = 0 (R301): SOLO, and what the link raised ends. -/
def unpair (s : State) : State :=
  let s := { s with twin := { s.twin with pst := .solo, loss := 0, got := false, hbPrev := none, rx := [], tx := none, hoLeft := 0
                                          prstLeft := 0, hoGot := 0, prstGot := 0, wrq := [], copied := none, copyDue := false, ppst := 7 } }
  let s := setCond Src.TWIN_LINK_LOST 0 false (setCond Src.TWIN_LINK_LOST 1 false s)
  setCond Src.TWIN_CFG_MISMATCH 0 false (setCond Src.TWIN_CFG_MISMATCH 1 false s)

/-- TWIN_CMD (R321, R323). -/
def twinCmd (w : Word) (s : State) : State :=
  if bit w 0 then { s with twin := { s.twin with hoLeft := 9 } }
  else if bit w 1 then { s with twin := { s.twin with prstLeft := 4 } }
  else if bit w 2 then leaveSafe .standby { s with twin := { s.twin with pst := .orphan } } else s

/-- GANG_CFG (R325): a change of EN or ROLE starts the gang unit afresh. -/
def gangCfg (old w : Word) (s : State) : State :=
  if fld old 31 30 = fld w 31 30 then s
  else setCond Src.TWIN_LINK_LOST 2 false { s with gang := Gang.init }

/-! ### The effect of a write -/

/-- What a write of a block page does beside its stored fields. -/
def effectBlock (h a : Nat) (t : PType) (old w : Word) (s : State) : State :=
  let off := a % 256
  match t with
  | .dev => if off = Reg.DEV_CMD then devCmd w s else s
  | .host =>
    if off = Reg.HOST_ERRCLR && bit w 0 then
      clrEvt Pg.HOST (2 ^ h) { s with ports := { s.ports with err := s.ports.err.set h ⟨0, 0, 0⟩ } }
    else if off = Reg.HOST_FRMCLR && bit w 0 then { s with ports := { s.ports with frm := [0, 0, 0] } }
    else s
  | .fc => if off = Reg.FC_CMD then fcCmd h w s else s
  | .perf => if off = Reg.PERF_CLR then clearCtrs w s else if off = Reg.PERF_OVF then clearWraps w s else s
  | .nv => if off = Reg.NV_CMD then nvCmd w s else s
  | .dom => if off = Reg.DOM_CMD then domCmd w s else s
  | .sbus =>
    if off = Reg.SB_CFG then sbCfg old w s
    else if off = Reg.SB_HCMD then sbHcmd s
    else if Reg.SB_POLL ≤ off && off < Reg.SB_POLL + 64 then sbPoll (off - Reg.SB_POLL) old w s else s
  | .twin =>
    if off = Reg.TWIN_CFG then (if bit old 31 && !bit w 31 then unpair s else s)
    else if off = Reg.TWIN_CMD then twinCmd w s else s
  | .cup =>
    if off = Reg.CUP_CMD then cupCmd w s
    else if off = Reg.CUP_ADMIN || off = Reg.CUP_ADMAX then { s with cup := { s.cup with bndNew := true } } else s
  | .grid => if off = Reg.GRID_CFG && !s.grid.valid then { s with grid := s.grid.upTo s (gridInc (fnomOf old)) } else s
  | .samp => if off = Reg.SAMP_CAPCTL then armCapture (bit w 0) s else s
  | .eng =>
    if off = Reg.ENG_CLR then clearEngine w s
    else if off = Reg.ENG_DBG then (if bit w 0 then haltEngine s else releaseEngine s) else s
  | .trip => if off = Reg.TRIP_CLR then clearTrips w s else s
  | .rail => effectRail (a / 256 - Pg.RAIL) off w s
  | .ph => effectPh (a / 256 - Pg.PH) off old w s
  | .rcomp => if off = Reg.RCOMP_CTL && bit w 0 then commitBank (a / 256 - Pg.RCOMP) s else s
  | .rtab => effectRtab (a / 256 - Pg.RTAB) off w s
  | .gang => if off = Reg.GANG_CFG then gangCfg old w s else s
  | _ => s

/-- A write carried out: its fields are stored, then it has its effect. A commit that is already pending stores nothing new. -/
def applyWrite (h a : Nat) (w : Word) (s : State) : State :=
  match pageType (a / 256) with
  | none => s
  | some (t, n) =>
    let off := a % 256
    let old := s.reg a
    let s := store h a w s
    if off = Reg.PG_FORCE then forceRaise t n w s
    else if off < 8 || off = Reg.PAGE_SEL then s
    else effectBlock h a t old w s

/-! ### Accesses of a host (R376-R379, R402) -/

/-- A rejection (R377). (DEDUCED, log entry 10) -/
def reject (h a code : Nat) (s : State) : State :=
  let e := s.ports.err.getD h ⟨0, 0, 0⟩
  let s := { s with ports := { s.ports with err := s.ports.err.set h ⟨code, satInc 0xFF e.cnt, a⟩ } }
  perf 0x31 h 1 (event Src.HOST_REJECT (1024 * h + code) (setEvt Pg.HOST (2 ^ h) s))

/-- A counter that a write starts, stops or clears adds nothing in its cycle, and takes no carry (R402). -/
def skipNamed (a : Nat) (w : Word) (s : State) : State :=
  if a = Pg.PERF * 256 + Reg.PERF_RUN then s.modPerf fun x => { x with skip := x.skip ||| (s.pg Pg.PERF Reg.PERF_RUN ^^^ w).toNat }
  else if a = Pg.PERF * 256 + Reg.PERF_CLR then s.modPerf fun x => { x with skip := x.skip ||| w.toNat } else s

/-- A write that the primary sends to its standby (R310). -/
def replicates (a : Nat) : Bool :=
  a / 256 != Pg.TWIN && a % 256 != Reg.PAGE_SEL && a != Pg.FC * 256 + Reg.FC_LOGSEL

/-- A commit that the primary accepts while its copy is under way begins the copy again (R159, R314). (DESIGN CHOICE, log entry 98) -/
def recopy (a : Nat) (w : Word) (copied : Option Nat) : Option Nat :=
  if 0x50 ≤ a / 256 && a / 256 < 0x60 && a % 256 == Reg.RCOMP_CTL && bit w 0 then copied.map fun _ => 0 else copied

/-- An accepted write (R376, R379, R310). -/
def acceptWrite (h : Fin 3) (a : Nat) (w : Word) (s : State) : State :=
  let s := perf 0x30 h 1 (skipNamed a w s)
  let s := { s with ports := { s.ports with idRead := s.ports.idRead.set h none } }
  let s := if s.twin.pst == .primary && replicates a then
      { s with twin := { s.twin with wrq := s.twin.wrq ++ [(slotAddr h a, w)], copied := recopy a w s.twin.copied } }
    else s
  applyWrite h a w s

/-- A host's write (R376): its code, and the state after. -/
def hostWrite (h : Fin 3) (a : Nat) (w : Word) (s : State) : State × Nat :=
  let c := writeCode s h a w
  if c = Err.OK then (acceptWrite h a w s, c) else (reject h a c s, c)

/-- An accepted read is counted, and a read of PG_ID is remembered (R404, R425). -/
def readNoted (h : Fin 3) (a : Nat) (s : State) : State :=
  let s := perf 0x30 h 1 s
  { s with ports := { s.ports with idRead := s.ports.idRead.set h (if a % 256 = 0 then some (a / 256) else none) } }

/-- The side effect of an accepted read (R73, R102, R403). -/
def readEffect (h : Fin 3) (a : Nat) (s : State) : State :=
  if a = Pg.CLK * 256 + Reg.CLK_FRAME_LO then
    s.setReg (hostKey h (Pg.CLK * 256 + Reg.CLK_FRAME_HI)) (BitVec.ofNat 32 (s.dev.frame / 4294967296))
  else if Pg.PERF * 256 + Reg.PERF_CTR ≤ a && a < Pg.PERF * 256 + Reg.PERF_CTR + 31 then
    s.setReg (hostKey h (Pg.PERF * 256 + Reg.PERF_SNAPHI))
      (BitVec.ofNat 32 (s.perf.ctr.getD (a - (Pg.PERF * 256 + Reg.PERF_CTR) + 1) 0))
  else if a = Pg.SAMP * 256 + Reg.SAMP_CAPDATA then
    s.setReg (Pg.SAMP * 256 + Reg.SAMP_CAPPTR)
      (BitVec.ofNat 32 ((fld (s.pg Pg.SAMP Reg.SAMP_CAPPTR) 11 0 + 2) % 4096))
  else s

/-- A host's read: the value returned, the state after, its code. A rejected read returns nothing of the register. -/
def hostRead (h : Fin 3) (a : Nat) (s : State) : State × Nat × Word :=
  let c := readCode s h a
  if c = Err.OK then (readNoted h a (readEffect h a s), c, readReg s h a) else (reject h a c s, c, 0)

/-- A host's write while its port is served (R360). -/
def writeCmd (h : Fin 3) (a : Nat) (w : Word) (s : State) : State := if served s then (hostWrite h a w s).1 else s

/-- A host's read while its port is served (R360). -/
def readCmd (h : Fin 3) (a : Nat) (s : State) : State := if served s then (hostRead h a s).1 else s

/-- A pending commit completes: what the primary sends for the page after it was accepted after its switch (R159, R314). (DEDUCED, log entry 101) -/
def finishCommit (r : Nat) (s : State) : State :=
  if !(s.rail r).pend then s else
  let s := if (s.rail r).copying then s else switchBank r s
  (copyBank r s).modRail r fun x => { x with pend := false, copying := false }

/-- A write that is the next of the copy brings its end nearer (R314). (DESIGN CHOICE, log entry 98) -/
def noteCopy (v : BitVec 16) (s : State) : State :=
  if s.twin.copyLeft = 0 || (copySlots s)[copyTotal - s.twin.copyLeft]? != some v then s
  else { s with twin := { s.twin with copyLeft := s.twin.copyLeft - 1 } }

/-- A replicated write on the standby (R310, R377, R391, R420): applied with no checks; DEV_CMD changes nothing. -/
def applyReplica (v : BitVec 16) (w : Word) (s : State) : State :=
  let a := slotReg v
  let h := slotHost s v
  let s := if 0x50 ≤ a / 256 && a / 256 < 0x60 then finishCommit (a / 256 - 0x50) s else s
  let s := noteCopy v { s with twin := { s.twin with rpl := (s.twin.rpl + 1) % 4294967296 } }
  if a = Pg.DEV * 256 + Reg.DEV_CMD then s else applyWrite h a w (skipNamed a w s)

end Sys2Proof.Machine
end

