-- ==== Sys2Proof/Machine/Access.lean ====
section
/-! DEFINITION. Machine/Access.lean: the commands that are one register access of a host: which register each writes or reads,
and with what word (the register pages of the block chapters). -/

namespace Sys2Proof.Machine

/-- Address of a base register (R41). -/
def baseAddr : BaseReg → Nat
  | .railVbaseMv r => (0x10 + r.val) * 256 + Reg.RAIL_VBASE_MV
  | .railVscale r => (0x10 + r.val) * 256 + Reg.RAIL_VSCALE
  | .railIbaseMa r => (0x10 + r.val) * 256 + Reg.RAIL_IBASE_MA
  | .phIbaseMa p => (0x20 + p.val) * 256 + Reg.PH_IBASE_MA
  | .phIscale p => (0x20 + p.val) * 256 + Reg.PH_ISCALE

/-- Bytes that the stage bus transfer in progress has completed (R406). -/
def wireBytes (sent : Nat) (s : State) : State := if s.sb.cur.isSome then progress 3 sent s else s

/-- PH_CFG_WRITE (R34). -/
def execPhCfgWrite (h : Fin 3) (p : Fin 48) (w : Word) (s : State) : Host.Outcome State Fault Refusal :=
  .next (writeCmd h ((0x20 + p.val) * 256 + Reg.PH_CFG) w (s.begin h))
/-- RAIL_CFG_WRITE (R20). -/
def execRailCfgWrite (h : Fin 3) (r : Fin 16) (w : Word) (s : State) : Host.Outcome State Fault Refusal :=
  .next (writeCmd h ((0x10 + r.val) * 256 + Reg.RAIL_CFG) w (s.begin h))
/-- BASE_REGISTER_WRITE (R41). -/
def execBaseRegisterWrite (h : Fin 3) (reg : BaseReg) (w : Word) (s : State) : Host.Outcome State Fault Refusal :=
  .next (writeCmd h (baseAddr reg) w (s.begin h))
/-- CAPTURE_ARM (R102). -/
def execCaptureArm (h : Fin 3) (s : State) : Host.Outcome State Fault Refusal :=
  .next (writeCmd h (Pg.SAMP * 256 + Reg.SAMP_CAPCTL) 1 (s.begin h))
/-- CAPTURE_RELEASE (R102). -/
def execCaptureRelease (h : Fin 3) (s : State) : Host.Outcome State Fault Refusal :=
  .next (writeCmd h (Pg.SAMP * 256 + Reg.SAMP_CAPCTL) 0 (s.begin h))
/-- PH_LOAD (R122). -/
def execPhLoad (h : Fin 3) (p : Fin 48) (s : State) : Host.Outcome State Fault Refusal :=
  .next (writeCmd h ((0x20 + p.val) * 256 + Reg.PH_LOAD) 1 (s.begin h))
/-- PH_PER_WRITE (R124). -/
def execPhPerWrite (h : Fin 3) (p : Fin 48) (w : Word) (s : State) : Host.Outcome State Fault Refusal :=
  .next (writeCmd h ((0x20 + p.val) * 256 + Reg.PH_PER) w (s.begin h))
/-- PH_CMP_WRITE (R124). -/
def execPhCmpWrite (h : Fin 3) (p : Fin 48) (w : Word) (s : State) : Host.Outcome State Fault Refusal :=
  .next (writeCmd h ((0x20 + p.val) * 256 + Reg.PH_CMP) w (s.begin h))
/-- PH_OFS_WRITE (R119). -/
def execPhOfsWrite (h : Fin 3) (p : Fin 48) (w : Word) (s : State) : Host.Outcome State Fault Refusal :=
  .next (writeCmd h ((0x20 + p.val) * 256 + Reg.PH_OFS) w (s.begin h))
/-- PH_DT_WRITE (R125). -/
def execPhDtWrite (h : Fin 3) (p : Fin 48) (w : Word) (s : State) : Host.Outcome State Fault Refusal :=
  .next (writeCmd h ((0x20 + p.val) * 256 + Reg.PH_DT) w (s.begin h))
/-- PH_ENABLE (R27). -/
def execPhEnable (h : Fin 3) (p : Fin 48) (minpw : BitVec 8) (s : State) : Host.Outcome State Fault Refusal :=
  .next (writeCmd h ((0x20 + p.val) * 256 + Reg.PH_CTL) (pack [(minpw.toNat, 24), (1, 0)]) (s.begin h))
/-- PH_DISABLE (R127). -/
def execPhDisable (h : Fin 3) (p : Fin 48) (minpw : BitVec 8) (s : State) : Host.Outcome State Fault Refusal :=
  .next (writeCmd h ((0x20 + p.val) * 256 + Reg.PH_CTL) (pack [(minpw.toNat, 24)]) (s.begin h))
/-- TRIP_CLR (R134). -/
def execTripClr (h : Fin 3) (w : Word) (s : State) : Host.Outcome State Fault Refusal :=
  .next (writeCmd h (Pg.TRIP * 256 + Reg.TRIP_CLR) w (s.begin h))
/-- RCOMP_COMMIT (R158). -/
def execRcompCommit (h : Fin 3) (r : Fin 16) (luten : Bool) (s : State) : Host.Outcome State Fault Refusal :=
  .next (writeCmd h ((0x50 + r.val) * 256 + Reg.RCOMP_CTL) (pack [(b2n luten, 1), (1, 0)]) (s.begin h))
/-- ENGINE_HALT (R161). -/
def execEngineHalt (h : Fin 3) (s : State) : Host.Outcome State Fault Refusal :=
  .next (writeCmd h (Pg.ENG * 256 + Reg.ENG_DBG) 1 (s.begin h))
/-- ENGINE_RELEASE (R163). -/
def execEngineRelease (h : Fin 3) (s : State) : Host.Outcome State Fault Refusal :=
  .next (writeCmd h (Pg.ENG * 256 + Reg.ENG_DBG) 0 (s.begin h))
/-- ENG_CLEAR_OVERRUN (R141). -/
def execEngClearOverrun (h : Fin 3) (s : State) : Host.Outcome State Fault Refusal :=
  .next (writeCmd h (Pg.ENG * 256 + Reg.ENG_CLR) 4 (s.begin h))
/-- ENG_CLEAR_LATENCY (R145). -/
def execEngClearLatency (h : Fin 3) (s : State) : Host.Outcome State Fault Refusal :=
  .next (writeCmd h (Pg.ENG * 256 + Reg.ENG_CLR) 2 (s.begin h))
/-- ENG_CLEAR_PEAK (R140). -/
def execEngClearPeak (h : Fin 3) (s : State) : Host.Outcome State Fault Refusal :=
  .next (writeCmd h (Pg.ENG * 256 + Reg.ENG_CLR) 1 (s.begin h))
/-- RAIL_SRC_WRITE (R167). -/
def execRailSrcWrite (h : Fin 3) (r : Fin 16) (w : Word) (s : State) : Host.Outcome State Fault Refusal :=
  .next (writeCmd h ((0x10 + r.val) * 256 + Reg.RAIL_SRC) w (s.begin h))
/-- RAIL_START (R173). -/
def execRailStart (h : Fin 3) (r : Fin 16) (s : State) : Host.Outcome State Fault Refusal :=
  .next (writeCmd h ((0x10 + r.val) * 256 + Reg.RAIL_CMD) 1 (s.begin h))
/-- RAIL_STOP (R180). -/
def execRailStop (h : Fin 3) (r : Fin 16) (s : State) : Host.Outcome State Fault Refusal :=
  .next (writeCmd h ((0x10 + r.val) * 256 + Reg.RAIL_CMD) 2 (s.begin h))
/-- RAIL_CLR (R183). -/
def execRailClr (h : Fin 3) (r : Fin 16) (s : State) : Host.Outcome State Fault Refusal :=
  .next (writeCmd h ((0x10 + r.val) * 256 + Reg.RAIL_CMD) 4 (s.begin h))
/-- DOMAIN_START (R184). -/
def execDomainStart (h : Fin 3) (d : Fin 4) (s : State) : Host.Outcome State Fault Refusal :=
  .next (writeCmd h (Pg.DOM * 256 + Reg.DOM_CMD) (BitVec.ofNat 32 (2 ^ d.val)) (s.begin h))
/-- DOMAIN_STOP (R185). -/
def execDomainStop (h : Fin 3) (d : Fin 4) (s : State) : Host.Outcome State Fault Refusal :=
  .next (writeCmd h (Pg.DOM * 256 + Reg.DOM_CMD) (BitVec.ofNat 32 (2 ^ (d.val + 4))) (s.begin h))
/-- RTAB_ENTRY_WRITE (R197). -/
def execRtabEntryWrite (h : Fin 3) (r : Fin 16) (j : Fin 128) (w : Word) (s : State) : Host.Outcome State Fault Refusal :=
  .next (writeCmd h ((0x60 + r.val) * 256 + 0x08 + j.val) w (s.begin h))
/-- RTAB_ZERO (R201). -/
def execRtabZero (h : Fin 3) (r : Fin 16) (freeze learn : Bool) (s : State) : Host.Outcome State Fault Refusal :=
  .next (writeCmd h ((0x60 + r.val) * 256 + 0x89) (pack [(1, 2), (b2n freeze, 1), (b2n learn, 0)]) (s.begin h))
/-- CUP_START (R262). -/
def execCupStart (h : Fin 3) (s : State) : Host.Outcome State Fault Refusal :=
  .next (writeCmd h (Pg.CUP * 256 + Reg.CUP_CMD) 1 (s.begin h))
/-- CUP_STOP (R263). -/
def execCupStop (h : Fin 3) (s : State) : Host.Outcome State Fault Refusal :=
  .next (writeCmd h (Pg.CUP * 256 + Reg.CUP_CMD) 2 (s.begin h))
/-- CUP_ARST (R266). -/
def execCupArst (h : Fin 3) (s : State) : Host.Outcome State Fault Refusal :=
  .next (writeCmd h (Pg.CUP * 256 + Reg.CUP_CMD) 4 (s.begin h))
/-- CUP_REL (R264). -/
def execCupRel (h : Fin 3) (s : State) : Host.Outcome State Fault Refusal :=
  .next (writeCmd h (Pg.CUP * 256 + Reg.CUP_CMD) 8 (s.begin h))
/-- FC_LAT_CLEAR (R285). -/
def execFcLatClear (h : Fin 3) (k : Fin 8) (w : Word) (s : State) : Host.Outcome State Fault Refusal :=
  .next (writeCmd h (Pg.FC * 256 + Reg.FC_LAT + k.val) w (s.begin h))
/-- FC_CLRFIRST (R286). -/
def execFcClrfirst (h : Fin 3) (s : State) : Host.Outcome State Fault Refusal :=
  .next (writeCmd h (Pg.FC * 256 + Reg.FC_CMD) 1 (s.begin h))
/-- FC_EXIT (R294). -/
def execFcExit (h : Fin 3) (s : State) : Host.Outcome State Fault Refusal :=
  .next (writeCmd h (Pg.FC * 256 + Reg.FC_CMD) 2 (s.begin h))
/-- FAULT_INJECT (R288). -/
def execFaultInject (h : Fin 3) (pg : BitVec 8) (w : Word) (s : State) : Host.Outcome State Fault Refusal :=
  .next (writeCmd h (pg.toNat * 256 + Reg.PG_FORCE) w (s.begin h))
/-- TWIN_HANDOVER (R321). -/
def execTwinHandover (h : Fin 3) (s : State) : Host.Outcome State Fault Refusal :=
  .next (writeCmd h (Pg.TWIN * 256 + Reg.TWIN_CMD) 1 (s.begin h))
/-- TWIN_PRST (R323). -/
def execTwinPrst (h : Fin 3) (s : State) : Host.Outcome State Fault Refusal :=
  .next (writeCmd h (Pg.TWIN * 256 + Reg.TWIN_CMD) 2 (s.begin h))
/-- TWIN_REJOIN (R323). -/
def execTwinRejoin (h : Fin 3) (s : State) : Host.Outcome State Fault Refusal :=
  .next (writeCmd h (Pg.TWIN * 256 + Reg.TWIN_CMD) 4 (s.begin h))
/-- NV_READ (R356). -/
def execNvRead (h : Fin 3) (s : State) : Host.Outcome State Fault Refusal :=
  .next (writeCmd h (Pg.NV * 256 + Reg.NV_CMD) 1 (s.begin h))
/-- NV_PROG (R356). -/
def execNvProg (h : Fin 3) (s : State) : Host.Outcome State Fault Refusal :=
  .next (writeCmd h (Pg.NV * 256 + Reg.NV_CMD) 2 (s.begin h))
/-- NV_ERASE (R356). -/
def execNvErase (h : Fin 3) (s : State) : Host.Outcome State Fault Refusal :=
  .next (writeCmd h (Pg.NV * 256 + Reg.NV_CMD) 3 (s.begin h))
/-- NV_APPEND (R356). -/
def execNvAppend (h : Fin 3) (s : State) : Host.Outcome State Fault Refusal :=
  .next (writeCmd h (Pg.NV * 256 + Reg.NV_CMD) 4 (s.begin h))
/-- NV_FIND (R356). -/
def execNvFind (h : Fin 3) (s : State) : Host.Outcome State Fault Refusal :=
  .next (writeCmd h (Pg.NV * 256 + Reg.NV_CMD) 5 (s.begin h))
/-- NV_FINDSEQ (R356). -/
def execNvFindseq (h : Fin 3) (s : State) : Host.Outcome State Fault Refusal :=
  .next (writeCmd h (Pg.NV * 256 + Reg.NV_CMD) 6 (s.begin h))
/-- HOST_ERRCLR (R377). -/
def execHostErrclr (h : Fin 3) (s : State) : Host.Outcome State Fault Refusal :=
  .next (writeCmd h (Pg.HOST * 256 + Reg.HOST_ERRCLR) 1 (s.begin h))
/-- HOST_FRMCLR (R378). -/
def execHostFrmclr (h : Fin 3) (s : State) : Host.Outcome State Fault Refusal :=
  .next (writeCmd h (Pg.HOST * 256 + Reg.HOST_FRMCLR) 1 (s.begin h))
/-- PG_ACL_WRITE (R373). -/
def execPgAclWrite (h : Fin 3) (pg : BitVec 8) (w : Word) (s : State) : Host.Outcome State Fault Refusal :=
  .next (writeCmd h (pg.toNat * 256 + Reg.PG_ACL) w (s.begin h))
/-- PAGE_SEL_WRITE (R375). -/
def execPageSelWrite (h : Fin 3) (pg : BitVec 8) (w : Word) (s : State) : Host.Outcome State Fault Refusal :=
  .next (writeCmd h (pg.toNat * 256 + Reg.PAGE_SEL) w (s.begin h))
/-- PAGE_LOCK (R425). -/
def execPageLock (h : Fin 3) (pg : BitVec 8) (s : State) : Host.Outcome State Fault Refusal :=
  .next (writeCmd h (pg.toNat * 256 + Reg.PG_CTL) (BitVec.ofNat 32 (2 ^ 31)) (s.begin h))
/-- PAGE_UNLOCK (R425). -/
def execPageUnlock (h : Fin 3) (pg : BitVec 8) (s : State) : Host.Outcome State Fault Refusal :=
  .next (writeCmd h (pg.toNat * 256 + Reg.PG_CTL) 0 (s.begin h))
/-- PG_EVT_CLEAR (R427). -/
def execPgEvtClear (h : Fin 3) (pg : BitVec 8) (w : Word) (s : State) : Host.Outcome State Fault Refusal :=
  .next (writeCmd h (pg.toNat * 256 + Reg.PG_EVT) w (s.begin h))
/-- SB_HOST_TRANSACTION (R390). -/
def execSbHostTransaction (h : Fin 3) (w : Word) (s : State) : Host.Outcome State Fault Refusal :=
  .next (writeCmd h (Pg.SBUS * 256 + Reg.SB_HCMD) w (s.begin h))
/-- SB_POLL_WRITE (R388). -/
def execSbPollWrite (h : Fin 3) (n : Fin 64) (w : Word) (s : State) : Host.Outcome State Fault Refusal :=
  .next (writeCmd h (Pg.SBUS * 256 + Reg.SB_POLL + n.val) w (s.begin h))
/-- SB_ENABLE (R393). -/
def execSbEnable (h : Fin 3) (w : Word) (s : State) : Host.Outcome State Fault Refusal :=
  .next (writeCmd h (Pg.SBUS * 256 + Reg.SB_CFG) (setFld w 31 31 1) (s.begin h))
/-- SB_DISABLE (R393). -/
def execSbDisable (h : Fin 3) (w : Word) (s : State) (sent : Nat := 0) : Host.Outcome State Fault Refusal :=
  .next (writeCmd h (Pg.SBUS * 256 + Reg.SB_CFG) (setFld w 31 31 0) (clocked (wireBytes sent) (s.begin h)))
/-- PERF_RUN (R402). -/
def execPerfRun (h : Fin 3) (w : Word) (s : State) : Host.Outcome State Fault Refusal :=
  .next (writeCmd h (Pg.PERF * 256 + Reg.PERF_RUN) w (s.begin h))
/-- PERF_CLR (R402). -/
def execPerfClr (h : Fin 3) (w : Word) (s : State) : Host.Outcome State Fault Refusal :=
  .next (writeCmd h (Pg.PERF * 256 + Reg.PERF_CLR) w (s.begin h))
/-- PERF_OVF_CLEAR (R401). -/
def execPerfOvfClear (h : Fin 3) (w : Word) (s : State) : Host.Outcome State Fault Refusal :=
  .next (writeCmd h (Pg.PERF * 256 + Reg.PERF_OVF) w (s.begin h))
/-- DEV_GO (R420). -/
def execDevGo (h : Fin 3) (s : State) : Host.Outcome State Fault Refusal :=
  .next (writeCmd h (Pg.DEV * 256 + Reg.DEV_CMD) 1 (s.begin h))
/-- DEV_IDLE (R420). -/
def execDevIdle (h : Fin 3) (s : State) : Host.Outcome State Fault Refusal :=
  .next (writeCmd h (Pg.DEV * 256 + Reg.DEV_CMD) 2 (s.begin h))
/-- DEV_SOFT_RESET (R420). -/
def execDevSoftReset (h : Fin 3) (key : BitVec 8) (s : State) : Host.Outcome State Fault Refusal :=
  .next (writeCmd h (Pg.DEV * 256 + Reg.DEV_CMD) (pack [(key.toNat, 24), (1, 2)]) (s.begin h))
/-- REGISTER_WRITE (R430). -/
def execRegisterWrite (h : Fin 3) (addr : BitVec 16) (w : Word) (s : State) : Host.Outcome State Fault Refusal :=
  .next (writeCmd h (addr.toNat) w (s.begin h))
/-- CLK_FRAME_LO_READ (R73). -/
def execClkFrameLoRead (h : Fin 3) (s : State) : Host.Outcome State Fault Refusal :=
  .next (readCmd h (Pg.CLK * 256 + Reg.CLK_FRAME_LO) (s.begin h))
/-- CAPDATA_READ (R102). -/
def execCapdataRead (h : Fin 3) (s : State) : Host.Outcome State Fault Refusal :=
  .next (readCmd h (Pg.SAMP * 256 + Reg.SAMP_CAPDATA) (s.begin h))
/-- ENG_STDAT_READ (R162). -/
def execEngStdatRead (h : Fin 3) (s : State) : Host.Outcome State Fault Refusal :=
  .next (readCmd h (Pg.ENG * 256 + Reg.ENG_STDAT) (s.begin h))
/-- PERF_CTR_READ (R403). -/
def execPerfCtrRead (h : Fin 3) (n : Fin 32) (s : State) : Host.Outcome State Fault Refusal :=
  .next (readCmd h (Pg.PERF * 256 + Reg.PERF_CTR + n.val) (s.begin h))

end Sys2Proof.Machine
end

