-- ==== Sys2Proof/Machine/Port.lean ====
section
/-! DEFINITION. Machine/Port.lean: the SPI ports HPA and HPB (R361-R365) and the two-wire port HPC (R366-R372): how their traffic
becomes register accesses. -/

namespace Sys2Proof.Machine

/-- HOST_FRAME of a host (R378). -/
def hostFrame (h : Nat) (s : State) : State :=
  event Src.HOST_FRAME (1024 * h)
    { s with ports := { s.ports with frm := s.ports.frm.set h (satInc 0xFF (s.ports.frm.getD h 0)) } }

/-! ### SPI (R361-R365) -/

/-- SPI_FRAME_BEGIN (R360-R362): with the bytes of the header that the frame carries. (DESIGN CHOICE, log entry 91) -/
def spiFrameBegin (k : Nat) (mode3 : Bool) (hdr : List Byte) (s : State) : State :=
  let p := spiOf s k
  if s.dev.rst || p.sel then s else
  let on := served s
  let s := setSpi k { p with sel := true, serve := on, mode3 := mode3, hdr := hdr, done := 0, code := 0 } s
  if on then bytes k hdr.length s else s

/-- SPI_WORD (R364): one access; after a rejected word the later ones are discarded. The bytes behind the declared words count too (R406). -/
def spiWord (k : Fin 2) (w : Word) (s : State) : State :=
  let p := spiOf s k
  if !p.sel || !p.serve || !served s then s else
  let s := bytes k 4 s
  let h := spiHost k
  if !p.inData then s
  else if p.code ≠ 0 then setSpi k { p with done := p.done + 1 } s else
  if p.rd then
    let x := hostRead h p.addr s
    setSpi k { p with done := p.done + 1, code := x.2.1 } x.1
  else
    let x := hostWrite h p.addr w s
    -- a soft reset accepted with this word has ended the frame
    if x.1.dev.rst then x.1 else setSpi k { p with done := p.done + 1, code := x.2 } x.1

/-- SPI_FRAME_END (R362, R364, R365): `bits` clocked since the last whole word, or in an unfinished header byte. A read word that the frame
leaves unfinished had been presented: it has its side effect, its record and its status. (DEDUCED, log entry 88) -/
def spiFrameEnd (k : Fin 2) (bits : Nat) (s : State) : State :=
  let p := spiOf s k
  if !p.sel then s else
  if !p.serve || !served s then setSpi k { p with sel := false, serve := false } s else
  let h := spiHost k
  let s := bytes k (bits / 8) s
  let cut := !p.rd && p.inData && decide (0 < bits) && p.code == 0
  let read := p.rd && p.inData && decide (0 < bits) && p.code == 0
  let x := if read then hostRead h p.addr s else (s, p.code, 0)
  let s := if cut then reject h p.addr Err.PARTIAL s else x.1
  let s := if bits % 8 ≠ 0 then hostFrame h s else s
  setSpi k { p with sel := false, serve := false, prev := if cut then Err.PARTIAL else x.2.1 } s

/-! ### Two-wire port (R366-R372) -/

/-- CRC-8, polynomial 0x07, initial value 0x00 (R369). -/
def crc8 (l : List Byte) : Byte :=
  l.foldl (fun c b => (List.range 8).foldl (fun c _ =>
    if c.toNat.testBit 7 then (c <<< 1) ^^^ 0x07#8 else c <<< 1) (c ^^^ b)) 0

/-- The port replaced. -/
def setHpc (p : Hpc) (s : State) : State := { s with ports := { s.ports with hpc := p } }

/-- Address of the register the pointer names: the current page of HOSTC (R367, R375). -/
def hpcReg (s : State) : Nat := fld (s.reg (hostKey 2 Reg.PAGE_SEL)) 7 0 * 256 + s.ports.hpc.ptr

/-- The pointer advances past a complete register (R367). -/
def hpcAdvance (s : State) : State := setHpc { s.ports.hpc with ptr := nextOff s.ports.hpc.ptr } s

/-- `n` bytes that the device NACKs and discards: any byte after the PEC byte raises HOST_FRAME (R369), of the bytes after
another NACK the first (R368). (DEDUCED, log entry 89) -/
def hpcExtra (n : Nat) (s : State) : State :=
  if n = 0 then s
  else if s.ports.hpc.pecDone then
    (List.range n).foldl (fun s _ => hostFrame 2 s) (setHpc { s.ports.hpc with nacked := true, extra := true } s)
  else if s.ports.hpc.extra then s
  else hostFrame 2 (setHpc { s.ports.hpc with nacked := true, extra := true } s)

/-- The transfer ends (R368, R369, R372): a partial or unconfirmed register is discarded with PARTIAL; the pointer stays. -/
def hpcEnd (n : Nat) (inByte : Bool) (s : State) : State :=
  let p := s.ports.hpc
  if !p.busy then s else
  if !p.serve || !served s then setHpc { Hpc.init with ptr := p.ptr } s else
  let s := if n = 0 then s else bytes 2 n s
  let part := !p.rd && !p.nacked && !p.pecDone && (decide (0 < n) || p.held.isSome)
  let s := if part then reject 2 (hpcReg s) Err.PARTIAL s else s
  let s := if !p.rd && (p.nacked || p.pecDone) then hpcExtra n s else s
  let s := if inByte then hostFrame 2 s else s
  setHpc { Hpc.init with ptr := p.ptr } s

/-- The pointer byte of a new write transfer is cut short, after the address byte (R372). (DEDUCED, log entry 89) -/
def hpcCut (s : State) : State := if served s then hostFrame 2 (bytes 2 1 s) else s

/-- A START with the device's address: a transfer begins (R360, R366); one in progress ends in its acknowledge slot (R372). -/
def hpcStart (rd : Bool) (s : State) : State :=
  let p := s.ports.hpc
  let old := if p.busy && p.serve then p.before ++ p.bytes else []
  let s := hpcEnd 0 false s
  let on := served s
  let s := setHpc { Hpc.init with ptr := s.ports.hpc.ptr, busy := true, serve := on, before := if on then old else []
                                  bytes := [BitVec.ofNat 8 (2 * hpcAddr s + b2n rd)]
                                  cfg := s.pg Pg.HOST Reg.HOST_HPCCFG } s
  if on then bytesHead 2 1 s else s

/-- HPC_POINTER_SET (R367). -/
def hpcPointerSet (ptr : Byte) (s : State) : State :=
  if s.dev.rst then s else
  let s := hpcStart false s
  let p := s.ports.hpc
  if !p.serve then s else bytes 2 1 (setHpc { p with ptr := ptr.toNat, bytes := p.bytes ++ [ptr] } s)

/-- The PEC byte behind a held register (R369). Of one that matches, a device that has become LOCKED since the fourth byte rejects the held
write (R282). (DEDUCED, log entry 90) -/
def pecByte (b : Byte) (s : State) : State :=
  let p := s.ports.hpc
  match p.held with
  | none => s
  | some w =>
    let a := hpcReg s
    let c := if s.dev.st == .locked then writeCode s 2 a w else Err.OK
    if crc8 p.bytes ≠ b then
      event Src.HOST_PEC 2048 (reject 2 a Err.PEC (setHpc { p with held := none, pecDone := true, nacked := true } s))
    else if c ≠ Err.OK then reject 2 a c (setHpc { p with held := none, pecDone := true, nacked := true } s)
    else
      let s := acceptWrite 2 a w (setHpc { p with held := none, pecDone := true } s)
      if s.dev.rst then s else hpcAdvance s

/-- HPC_PEC_BYTE (R369). -/
def hpcPecByte (b : Byte) (s : State) : State :=
  let p := s.ports.hpc
  if !p.busy || !p.serve || !served s || p.rd || !p.pec then s else
  let s := bytes 2 1 s
  if p.nacked || p.pecDone then hpcExtra 1 s else pecByte b s

/-- HPC_REGISTER_WRITE (R368, R369): the four bytes of a register, least significant first. -/
def hpcRegisterWrite (w : Word) (s : State) : State :=
  let p := s.ports.hpc
  if !p.busy || !p.serve || !served s || p.rd then s else
  let data := (wordBytesLE w).map (BitVec.ofNat 8)
  let s := bytes 2 4 s
  if p.nacked || p.pecDone then hpcExtra 4 s
  else if p.held.isSome then
    let s := pecByte (data.headD 0) s
    -- a soft reset applied with the PEC byte has ended the transfer
    if s.dev.rst then s else hpcExtra 3 s
  else
    let a := hpcReg s
    if p.pec then
      let c := writeCode s 2 a w
      if c = Err.OK then setHpc { p with held := some w, bytes := p.bytes ++ data } s
      else reject 2 a c (setHpc { p with nacked := true } s)
    else
      let x := hostWrite 2 a w s
      if x.1.dev.rst then x.1
      else if x.2 = Err.OK then hpcAdvance x.1 else setHpc { x.1.ports.hpc with nacked := true } x.1

/-- HPC_REGISTER_READ (R370): the value is taken at the first byte, the side effect and the pointer's advance come when the
register has been transmitted whole. A transfer with PEC carries one register, and the PEC byte follows where the controller
ACKs the fourth byte (R369). (DEDUCED, log entry 89) -/
def hpcRegisterRead (complete pecRead : Bool) (s : State) : State :=
  if s.dev.rst then s else
  let s := if s.ports.hpc.busy && s.ports.hpc.rd then s else hpcStart true s
  let p := s.ports.hpc
  if !p.serve || !served s || p.pecDone then s else
  let a := hpcReg s
  let c := readCode s 2 a
  let v := readReg s 2 a
  let s := if c = Err.OK then readNoted 2 a (if complete then readEffect 2 a s else s) else reject 2 a c s
  if !complete then s else
  let data := (wordBytesLE (if c = Err.OK then v else 0)).map (BitVec.ofNat 8)
  let s := hpcAdvance (bytes 2 (4 + b2n (p.pec && pecRead)) s)
  setHpc { s.ports.hpc with pecDone := p.pec, bytes := p.bytes ++ data, pecOut := crc8 (p.before ++ p.bytes ++ data) } s

/-- HPC_TRANSFER_END (R368, R372): `n` bytes of a register were received since the last whole one. A transfer that has shown no
whole pointer byte ends inside it. -/
def hpcTransferEnd (n : Nat) (inByte : Bool) (s : State) : State :=
  if s.ports.hpc.busy then hpcEnd n inByte s else if inByte then hpcCut s else s

/-- HPC_SCL_TIMEOUT (R372). -/
def hpcSclTimeout (n : Nat) (s : State) : State :=
  if s.ports.hpc.busy then (if bit s.ports.hpc.cfg 30 then hpcEnd n true s else s)
  else if bit (s.pg Pg.HOST Reg.HOST_HPCCFG) 30 then hpcCut s else s

/-! ### Meanings -/

/-- SPI_FRAME_BEGIN (R361). -/
def execSpiFrameBegin (port : Fin 2) (mode3 : Bool) (hdr : List Byte) (s : State) : Host.Outcome State Fault Refusal :=
  .next (spiFrameBegin port mode3 hdr s.begin)
/-- SPI_WORD (R364). -/
def execSpiWord (port : Fin 2) (w : Word) (s : State) : Host.Outcome State Fault Refusal := .next (spiWord port w (s.begin (presents s (.spiWord port w))))
/-- SPI_FRAME_END (R365). -/
def execSpiFrameEnd (port : Fin 2) (bits : Nat) (s : State) : Host.Outcome State Fault Refusal :=
  .next (spiFrameEnd port bits (s.begin (presents s (.spiFrameEnd port bits))))
/-- HPC_POINTER_SET (R367). -/
def execHpcPointerSet (ptr : Byte) (s : State) : Host.Outcome State Fault Refusal := .next (hpcPointerSet ptr s.begin)
/-- HPC_REGISTER_WRITE (R368). -/
def execHpcRegisterWrite (w : Word) (s : State) : Host.Outcome State Fault Refusal := .next (hpcRegisterWrite w (s.begin (presents s (.hpcRegisterWrite w))))
/-- HPC_REGISTER_READ (R370). -/
def execHpcRegisterRead (complete : Bool) (s : State) (pecRead : Bool := false) : Host.Outcome State Fault Refusal :=
  .next (hpcRegisterRead complete pecRead (s.begin (presents s (.hpcRegisterRead complete pecRead))))
/-- HPC_PEC_BYTE (R369). -/
def execHpcPecByte (b : Byte) (s : State) : Host.Outcome State Fault Refusal := .next (hpcPecByte b (s.begin (presents s (.hpcPecByte b))))
/-- HPC_TRANSFER_END (R372). -/
def execHpcTransferEnd (bytes : Nat) (inByte : Bool) (s : State) : Host.Outcome State Fault Refusal :=
  .next (hpcTransferEnd bytes inByte s.begin)
/-- HPC_SCL_TIMEOUT (R372). -/
def execHpcSclTimeout (bytes : Nat) (s : State) : Host.Outcome State Fault Refusal := .next (hpcSclTimeout bytes s.begin)

end Sys2Proof.Machine
end

