-- ==== Sys2Proof/Machine/Sbus.lean ====
section
/-! DEFINITION. Machine/Sbus.lean: the stage bus controller (R383-R393): polls and mailboxes, host transactions, arbitration,
recovery. -/

namespace Sys2Proof.Machine

/-- The controller works (R384): enabled, clocks running, BOOT over. -/
def sbWorks (s : State) : Bool := served s && bit (s.pg Pg.SBUS Reg.SB_CFG) 31

/-- The drivers of SBSCL and SBSDA are released (R384): in reset, in BOOT, while CKS stands, and while the controller is off. -/
def sbReleased (s : State) : Bool := !sbWorks s

/-- The level of a line behind its digital filter (R383): the level it has had, and what it shows at the CKS edges that follow; a new level
is taken when FILT of them in a row show it, with FILT 0 at once. -/
def lineLevel (s : State) (old : Bool) (l : List Bool) : Bool :=
  let n := max 1 (fld (s.pg Pg.SBUS Reg.SB_CFG) 27 24)
  (l.foldl (fun a x => if x == a.1 then (x, 0) else if n ≤ a.2 + 1 then (x, 0) else (a.1, a.2 + 1)) (old, 0)).1

/-- Poll entry `n`, and the state with it replaced. -/
def sbEnt (s : State) (n : Nat) : SbEntry := s.sb.ent.getD n SbEntry.init
def modEnt (n : Nat) (f : SbEntry → SbEntry) (s : State) : State := { s with sb := { s.sb with ent := s.sb.ent.modify n f } }

/-- The word of a poll entry. -/
def pollCfg (s : State) (n : Nat) : Word := s.pg Pg.SBUS (Reg.SB_POLL + n)

/-- A poll fails or is skipped (R387). -/
def pollFail (n : Nat) (s : State) : State :=
  let e := sbEnt s n
  let k := e.fails + 1
  let hit := e.nackArmed && decide (fld (s.pg Pg.SBUS Reg.SB_CFG) 23 16 ≤ k)
  let s := { s with sb := { s.sb with fail := satInc 0xFFFF s.sb.fail } }
  let s := modEnt n (fun e => { e with fails := k, stale := e.stale || hit, nackArmed := e.nackArmed && !hit }) s
  if hit then event Src.SB_NACK n s else s

/-- SB_STS.LATE counts (R389). -/
def countLate (s : State) : State := { s with sb := { s.sb with late := satInc 0xFFFF s.sb.late } }

/-- The poll of entry `n` in its transfer has not been served; where the entry has become due meanwhile the two are one poll, late
(R389, R392). -/
def pollBack (n : Nat) (s : State) : State :=
  let e := sbEnt s n
  let seen := e.curLate || e.lateSeen
  let s := modEnt n (fun e => { e with due := false, lateSeen := seen || e.due }) s
  if e.due && !seen then countLate s else s

/-- A poll of the entry waits to be served: due, or to be started again after a lost arbitration (R389, R392). -/
def pollWaits (s : State) (n : Nat) : Bool :=
  (sbEnt s n).due || (match s.sb.again with | some (.poll m _) => m == n | _ => false)

/-- POLL_DUE (R385, R388, R389): the period in force has expired, and the entry's own is in force from here. A poll that still
waits counts as late, once; on a stuck bus it is skipped. (DEDUCED, log entry 92) -/
def pollDue (n : Nat) (s : State) : State :=
  let c := pollCfg s n
  let e := sbEnt s n
  if !sbWorks s || !bit c 31 || decide (s.dev.frame < e.dueAt + 100 * e.per) then s else
  let s := modEnt n (fun e => { e with dueAt := s.dev.frame, per := fld c 7 0 }) s
  if s.sb.stuck then pollFail n s
  else if !pollWaits s n then modEnt n (fun e => { e with due := true, since := s.dev.frame, lateSeen := false }) s
  else if e.lateSeen then s
  else modEnt n (fun e => { e with lateSeen := true }) (countLate s)

/-- The due entry served next, of the enabled ones: the oldest due time, then the lowest index (R385, R389). -/
def nextPoll (s : State) : Option Nat :=
  (List.range 64).foldl (fun b n =>
    if !(sbEnt s n).due || !bit (pollCfg s n) 31 then b else
    match b with
    | none => some n
    | some m => if (sbEnt s n).since < (sbEnt s m).since then some n else b) none

/-- The item the controller starts when the bus is free (R389, R392); a standby starts no host transaction (R391). -/
def nextItem (s : State) : Option SbItem :=
  match s.sb.again with
  | some i => some i
  | none => if s.sb.hostPend && !isStandby s then some .host else (nextPoll s).map fun n => .poll n (pollCfg s n)

/-- The bytes of a reading transfer that the controller sends: address, command, address (R385). -/
def readHead (cfg : Word) : List Byte :=
  let a := 2 * fld cfg 30 24
  [BitVec.ofNat 8 a, BitVec.ofNat 8 (fld cfg 23 16), BitVec.ofNat 8 (a + 1)]

/-- The bytes of a host transaction that the controller sends (R390): with RD = 0 address, command, LEN bytes of SB_HDATA from
bits [7:0] on, and the PEC over them where it is asked for. -/
def hostSends (s : State) : List Byte :=
  let c := s.pg Pg.SBUS Reg.SB_HCMD
  if bit c 31 then readHead c else
  let b := (readHead c).take 2 ++
    ((wordBytesLE (s.pg Pg.SBUS Reg.SB_HDATA)).take (fld c 15 13)).map (BitVec.ofNat 8)
  if bit c 12 then b ++ [crc8 b] else b

/-- STAGE_BUS_TRANSFER_START (R389, R393): recovery first; SDA found low asks for one. `sda` gives SDA at the CKS edges after the level it has
had (R383). -/
def transferStart (sdaLow : Bool) (sda : List Bool) (s : State) : State :=
  if !sbWorks s || s.sb.cur.isSome || s.sb.recov || s.sb.stuck then s else
  if s.sb.needRecov then { s with sb := { s.sb with needRecov := false, recov := true } } else
  match nextItem s with
  | none => s
  | some i =>
    if !lineLevel s (!sdaLow) sda then { s with sb := { s.sb with recov := true } } else
    let new := s.sb.again.isNone
    let s := { s with sb := { s.sb with cur := some i, again := none } }
    match i with
    | .host => { s with sb := { s.sb with hostPend := false, out := hostSends s } }
    | .poll n c =>
      let s := { s with sb := { s.sb with out := readHead c } }
      modEnt n (fun e => { e with due := if new then false else e.due, touched := if new then false else e.touched
                                  curLate := e.lateSeen, lateSeen := false }) s

/-- The bytes of a reading transfer before its PEC: address, command, address, data (R385). -/
def readBytes (cfg : Word) (data : List Byte) : List Byte := readHead cfg ++ data

/-- The bytes that complete on the bus are counted, and the transfer is over (R406). -/
def busEnd (n : Nat) (s : State) : State := bytes 3 n { s with sb := { s.sb with cur := none, out := [] } }

/-- VAL of a poll (R386). -/
def pollValue (cfg : Word) (data : List Byte) : Int :=
  let l := data.map (·.toNat)
  let w := le (if bit cfg 13 then l.reverse else l)
  clampI (-32768) 32767 (shrAway (sN (8 * l.length) w) (fld cfg 11 8))

/-- POLL_COMPLETE (R386-R388): the result of a transfer whose entry was written meanwhile is discarded. `sent` gives the bytes
completed where the target did not acknowledge. -/
def pollComplete (acked : Bool) (data : List Byte) (pec : Byte) (sent : Nat) (s : State) : State :=
  match s.sb.cur with
  | some (.poll n cfg) =>
    if !sbWorks s then s else
    let s := busEnd (if acked then 3 + data.length + b2n (bit cfg 12) else min sent 3) s
    let good := acked && data.length == fld cfg 15 14 + 1 && (!bit cfg 12 || crc8 (readBytes cfg data) == pec)
    if (sbEnt s n).touched || pollCfg s n != cfg then s
    else if good then
      perf 0x52 n 1 (modEnt n (fun e => { e with val := pollValue cfg data, valid := true, stale := false, lastOk := s.dev.frame
                                                 fails := 0, nackArmed := true }) s)
    else pollFail n s
  | _ => s

/-- SB_ARBLOST (R383, R392): SDA, at the CKS edges since the controller released it, reads low behind the filter; the item is started again
before all others, but for a host transaction of a standby (R391). -/
def arbLost (sent : Nat) (sda : List Bool) (s : State) : State :=
  match s.sb.cur with
  | none => s
  | some i =>
    if !sbWorks s || lineLevel s true sda then s else
    let s := busEnd sent (perf 0x53 0 1 s)
    let s := match i with | .poll n _ => pollBack n s | .host => s
    let s := { s with sb := { s.sb with again := some i, arbLost := satInc 0xFFFF s.sb.arbLost } }
    let s := if isStandby s then dropWaitingHost s else s
    event Src.SB_ARBLOST (match i with | .poll n _ => n | .host => 0x40) s

/-- What waits on a bus found stuck (R387, R393): host transactions end, due polls are skipped. -/
def skipAll (s : State) : State :=
  let s := match s.sb.again with
    | some (.poll n _) => pollFail n { s with sb := { s.sb with again := none } }
    | _ => s
  let s := if s.sb.hbusy then endHost 3 s else s
  loop 64 (fun s n => if (sbEnt s n).due then pollFail n (modEnt n (fun e => { e with due := false }) s) else s) s

/-- A recovery ends with the lines as found (R393). -/
def recovered (sdaHigh sclHigh : Bool) (s : State) : State :=
  let s := { s with sb := { s.sb with recov := false, needRecov := false, lastTry := s.dev.frame, stuck := !(sdaHigh && sclHigh) } }
  if sdaHigh && sclHigh then setCond Src.SB_STUCK 1 false (setCond Src.SB_STUCK 0 false s)
  else
    let s := if sdaHigh then s else setCond Src.SB_STUCK 0 true s
    skipAll (if sclHigh then s else setCond Src.SB_STUCK 1 true s)

/-- BUS_RECOVERY (R393), with what the lines show at the CKS edges after the levels they have had (R383). -/
def busRecovery (sdaHigh sclHigh : Bool) (sda scl : List Bool) (s : State) : State :=
  if !sbWorks s || !(s.sb.recov || s.sb.needRecov) then s else recovered (lineLevel s sdaHigh sda) (lineLevel s sclHigh scl) s

/-- STUCK_RECOVERY_RETRY (R393): every 10 ms while SB_STUCK stands. -/
def stuckRetry (sdaHigh sclHigh : Bool) (sda scl : List Bool) (s : State) : State :=
  if !sbWorks s || !s.sb.stuck || decide (s.dev.frame < s.sb.lastTry + 10000) then s
  else recovered (lineLevel s sdaHigh sda) (lineLevel s sclHigh scl) s

/-- SB_HOST_TRANSACTION_DONE (R390). -/
def hostTransactionDone (acked : Bool) (data : List Byte) (pec : Byte) (sent : Nat) (s : State) : State :=
  if !sbWorks s || s.sb.cur != some .host then s else
  let c := s.pg Pg.SBUS Reg.SB_HCMD
  let rd := bit c 31
  let got := data.take (fld c 15 13)
  let s := busEnd (if !acked then min sent s.sb.out.length
    else if rd then 3 + got.length + b2n (bit c 12) else s.sb.out.length) s
  let s := if rd then s.setReg (Pg.SBUS * 256 + Reg.SB_HDATA) (BitVec.ofNat 32 (le (got.map (·.toNat)))) else s
  let bad := rd && bit c 12 && crc8 (readBytes c got) != pec
  endHost (if !acked then 1 else if bad then 2 else 0) s

/-- After a clock loss (R393): the transfer in progress is lost, recovery is due. (DESIGN CHOICE, log entry 93) -/
def sbAfterLoss (s : State) : State :=
  let s := if s.sb.cur.isSome then cutUnit 3 s else s
  let s := match s.sb.cur with
    | some .host => endHost (Config.anyCode s.cyc % 256) s
    | some (.poll n _) => modEnt n (fun e => { e with due := bit (pollCfg s n) 31, since := s.dev.frame }) (pollBack n s)
    | none => s
  { s with sb := { s.sb with cur := none, out := [], recov := false, needRecov := bit (s.pg Pg.SBUS Reg.SB_CFG) 31 } }

/-! ### Meanings -/

/-- POLL_DUE (R385). -/
def execPollDue (n : Fin 64) (s : State) : Host.Outcome State Fault Refusal := .next (clocked (pollDue n) s.begin)
/-- STAGE_BUS_TRANSFER_START (R389). -/
def execStageBusTransferStart (sdaLow : Bool) (s : State) (sda : List Bool := []) : Host.Outcome State Fault Refusal :=
  .next (clocked (transferStart sdaLow sda) s.begin)
/-- POLL_COMPLETE (R387). -/
def execPollComplete (acked : Bool) (data : List Byte) (pec : Byte) (s : State) (sent : Nat := 0) : Host.Outcome State Fault Refusal :=
  .next (clocked (pollComplete acked data pec sent) s.begin)
/-- SB_ARBLOST (R392). -/
def execSbArblost (s : State) (sent : Nat := 0) (sda : List Bool := List.replicate 15 false) : Host.Outcome State Fault Refusal :=
  .next (clocked (arbLost sent sda) s.begin)
/-- BUS_RECOVERY (R393). -/
def execBusRecovery (sdaHigh sclHigh : Bool) (s : State) (sda scl : List Bool := []) : Host.Outcome State Fault Refusal :=
  .next (clocked (busRecovery sdaHigh sclHigh sda scl) s.begin)
/-- STUCK_RECOVERY_RETRY (R393). -/
def execStuckRecoveryRetry (sdaHigh sclHigh : Bool) (s : State) (sda scl : List Bool := []) : Host.Outcome State Fault Refusal :=
  .next (clocked (stuckRetry sdaHigh sclHigh sda scl) s.begin)
/-- SB_HOST_TRANSACTION_DONE (R390). -/
def execSbHostTransactionDone (acked : Bool) (data : List Byte) (pec : Byte) (s : State) (sent : Nat := 0) : Host.Outcome State Fault Refusal :=
  .next (clocked (hostTransactionDone acked data pec sent) s.begin)

end Sys2Proof.Machine
end

