-- ==== Sys2Proof/Machine/Twin.lean ====
section
/-! DEFINITION. Machine/Twin.lean: the deskmate link and the pair (R299-R324), the gang bus (R325-R328): what a frame edge does to
them, frames received and processed, corrections, loss of the link, takeover, handover. -/

namespace Sys2Proof.Machine

/-- The device pairs (R301): enabled, BOOT over, clocks running. -/
def twinOn (s : State) : Bool := served s && bit (s.pg Pg.TWIN Reg.TWIN_CFG) 31

/-- The link is up: a valid frame has come and LOSSCNT is below 4 (R307). -/
def linkUp (s : State) : Bool := s.twin.hbPrev.isSome && decide (s.twin.loss < 4)

/-! ### Correction slices (R311) -/

/-- Words of a stage's block that a correction carries (R148, R311): I; I, D, x1; x1, x2, y1, y2. -/
def usedWords (ty : Nat) : Nat := if ty = 1 then 1 else if ty = 2 then 3 else if ty = 3 then 4 else 0

/-- Type of stage `i` of a context. -/
def stageType (s : State) (c i : Nat) : Nat := ((setOf s c)[i]?).elim 0 (·.ty)

/-- The condition of a PST code (R208, R311). -/
def Pst.ofCode : Nat → Pst
  | 1 => .active | 2 => .shed | 3 => .unavail | 4 => .failed | _ => .none

/-- The item of a correction slice as it stands (R311). -/
def corrItem (s : State) (k : Nat) : Corr :=
  if k < 768 then
    let b := ((blocksOf s (k / 6))[k % 6]?).getD Block.init
    let n := usedWords (stageType s (k / 6) (k % 6))
    if n = 0 then .nothing else .stage b.e ((List.range 8).map fun i => if i < n then b.m.getD i 0 else 0)
  else if k < 1792 then
    let r := (k - 768) / 64
    let m := (k - 768) % 64
    .rtab ((List.range 4).map fun i => tabEntry s r (4 * m + i))
  else if k < 1808 then
    let r := k - 1792
    .rail (s.rail r).ref (s.rail r).ifilt (s.cup.alpha.getD r bfOne) (s.rail r).w
  else if k < 1856 then
    let x := s.ph (k - 1808)
    .phase x.pst.code x.est x.oest x.gen.dth x.gen.dtl
  else if k = 1856 then .cup s.cup.theta (s.cup.settle + s.cup.integ)
  else .nothing

/-- Word `i` of a block corrected exactly: present + primary - own, as a mantissa at the smallest of the exponents. -/
def corrWord (b : Block) (pe : Int) (pm : List Int) (oe : Int) (om : List Int) (i : Nat) : Sig :=
  let e := min b.e (min pe oe)
  let at_ (m x : Int) : Int := m * 2 ^ (x - e).toNat
  ⟨at_ (b.m.getD i 0) b.e + at_ (pm.getD i 0) pe - at_ (om.getD i 0) oe, e⟩

/-- A number corrected, kept at or above zero. -/
def corrNat (x prim own : Nat) : Nat := ((x : Int) + prim - own).toNat

/-- A correction item applied with the standby's own copy (R311): numbers take primary - own; PST, EST and w are replaced, with or
without an own copy. -/
def applyCorr (k : Nat) (prim own : Corr) (s : State) : State :=
  match prim, own with
  | .stage pe pm, .stage oe om =>
    let c := k / 6
    let i := k % 6
    let n := usedWords (stageType s c i)
    if n = 0 then s else
    let b := ((blocksOf s c)[i]?).getD Block.init
    s.setCtx c ((blocksOf s c).set i (renorm ((List.range n).map (corrWord b pe pm oe om))))
  | .rtab p, .rtab o =>
    let r := (k - 768) / 64
    let m := (k - 768) % 64
    loop 4 (fun s i => setEntry r (4 * m + i) (tabEntry s r (4 * m + i) + p.getD i 0 - o.getD i 0) s) s
  | .rail pr pif pa pw, .rail or_ oif oa _ =>
    let r := k - 1792
    let s := s.modRail r fun x => { x with ref := corrNat x.ref pr or_, ifilt := corrNat x.ifilt pif oif, w := pw }
    { s with cup := { s.cup with alpha := s.cup.alpha.set r (toBF (bf (s.cup.alpha.getD r bfOne) + bf pa - bf oa)) } }
  | .rail _ _ _ pw, _ => s.modRail (k - 1792) fun x => { x with w := pw }
  | .phase pst est ob dth dtl, .phase _ _ oo odth odtl =>
    s.modPh (k - 1808) fun x =>
      { x with pst := Pst.ofCode pst, est := est, oest := clampI (-8388608) 8388607 (x.oest + ob - oo)
               gen := { x.gen with dth := corrNat x.gen.dth dth odth, dtl := corrNat x.gen.dtl dtl odtl } }
  | .phase pst est _ _ _, _ => s.modPh (k - 1808) fun x => { x with pst := Pst.ofCode pst, est := est }
  | .cup pt pp, .cup ot op =>
    if !s.cup.run then s else
    let whole := cupUpdates s (fld (s.pg Pg.CUP Reg.CUP_CFG) 15 8)
    let left := corrNat (s.cup.settle + s.cup.integ) pp op
    { s with cup := { s.cup with theta := (((s.cup.theta : Int) + pt - ot) % 4294967296).toNat
                                 settle := left - whole, integ := min left whole } }
  | _, _ => s

/-- The key of an own copy: the HB of the frame and the own frame edge (R311). -/
def snapKey (hb frame : Nat) : Nat := 65536 * frame + hb % 65536

/-- A standby keeps, at each own frame edge, its own copy of the items whose frames may begin nearest to it (R311): of the frame now
on its way and of the next. (DEDUCED, log entry 100) -/
def takeSnaps (s : State) : State :=
  match s.twin.hbPrev with
  | none => s
  | some h =>
    if !(s.twin.pst == .syncing || s.twin.pst == .ready) then s else
    let own (hb : Nat) : Nat × Corr := (snapKey hb s.dev.frame, corrItem s (hb % 2048))
    { s with twin := { s.twin with snaps := (own (h + 1) :: own (h + 2) :: s.twin.snaps).take 12 } }

/-! ### A frame sent (R305, R306, R310) -/

/-- The frame a device sends at its edge (R306), with the flags and the writes it carries. -/
def linkFrame (handover prst : Bool) (wr : List (BitVec 16 × Word)) (s : State) : LinkFrame :=
  let hb := s.dev.frame % 65536
  let quiet := isStandby s
  { role := s.dev.role, pst := s.twin.pst.code, hb := BitVec.ofNat 16 hb, alvLevel := s.dev.alive == .high
    alvLeft := s.dev.aliveLeft, stamp := s.twin.stamp, cfgd := s.twin.digest
    dutyd := (List.range 4).map fun i => if quiet then 0 else dutyVal s (4 * (hb % 4) + i)
    cls4 := s.fc.safe, locked := s.fc.locked, devState := s.dev.st.code, handover := handover, prst := prst
    lastSrc := s.twin.src3, cnt3 := s.twin.cnt3
    rstate := (List.range 16).map fun r => if quiet then 0 else (s.rail r).st.code
    pcnt := if quiet then 0 else (s.ph (hb % 48)).gen.count
    wr := if quiet then [] else wr, corr := if quiet then .nothing else corrItem s (hb % 2048) }

/-- A frame begins at the device's edge (R305): a primary sends up to four writes, host writes before the copy (R310, R314); the
announcements of a handover and of a partner reset run down (R321, R323). -/
def sendLink (s : State) : State :=
  let t := s.twin
  let prim := t.pst == .primary
  let a := if prim then t.wrq.take 4 else []
  let b := if prim then (copyRest s).take (4 - a.length) else []
  let f := linkFrame (decide (1 < t.hoLeft)) (decide (0 < t.prstLeft)) (a ++ b) s
  { s with twin := { t with tx := some f, wrq := t.wrq.drop a.length
                            copied := t.copied.bind fun n => if copyTotal ≤ n + b.length then none else some (n + b.length)
                            rpl := (t.rpl + a.length + b.length) % 4294967296
                            hoLeft := t.hoLeft - 1, prstLeft := t.prstLeft - 1, swapDue := t.swapDue || t.hoLeft == 1 } }

/-! ### A frame edge (R307, R314, R315, R317) -/

/-- The partner's ALIVE (R315): undriven on 2 consecutive frames; stopped when no edge has come in time. (DEDUCED, log entry 97) -/
def judgeAlive (p : Pal) (s : State) : State :=
  let t := s.twin
  let lvl := match p with | .undriven => none | .low => some false | .high => some true
  let edge := match t.palLvl, lvl with | some a, some b => a != b | _, _ => false
  let run := if p = .undriven then satInc 2 t.palRun else 0
  let due := if edge then none else t.palDue.map (· - 1)
  let pal := if run = 2 then 2 else if run = 1 then t.pal else if due = some 0 then 1 else 0
  { s with twin := { t with pal := pal, palRun := run, palLvl := if lvl.isSome then lvl else t.palLvl, palDue := due
                            palEdge := if edge then 0 else satInc 255 t.palEdge } }

/-- LOSSCNT (R307), and the conditions of the link (R317, R324). -/
def judgeLoss (s : State) : State :=
  let t := s.twin
  let loss := if t.got then 0 else satInc 15 t.loss
  let s := { s with twin := { t with loss := loss, got := false, lost := if t.got then t.lost else satInc 0xFFFF t.lost
                                     hbPrev := if loss < 4 then t.hbPrev else none } }
  let s := if loss < 4 && t.got then setCond Src.TWIN_LINK_LOST 0 false s else s
  setCond Src.TWIN_LINK_LOST 1 (s.twin.pal == 2 && linkUp s) s

/-- The partner's safe pattern (R316, R324); a takeover cause holds for the edge at which it is found. -/
def judgePattern (pattern : Bool) (s : State) : State :=
  let s := if pattern && !s.twin.psafe then event Src.TWIN_PARTNER_SAFE 0 s else s
  { s with twin := { s.twin with psafe := s.twin.psafe || pattern, cause := if pattern then some 2 else none } }

/-- The generators that count in STBY stand within 8 CNT of the primary's (R314). -/
def alignedOk (s : State) : Bool :=
  (List.range 48).all fun p => gst s p != .stby || decide ((s.twin.phErr.getD p 0).natAbs ≤ 8)

/-- The conditions of R314 that may fail again. -/
def readyHolds (s : State) : Bool :=
  decide (2 ≤ s.twin.eqAfter) && decide (2048 ≤ s.twin.corrAfter) && alignedOk s && !s.fc.safe

/-- A takeover cause found at this edge, but for a handover (R316). (DESIGN CHOICE, log entry 138) -/
def takeoverCause (s : State) : Option Nat :=
  if 4 ≤ s.twin.loss ∧ (s.twin.pal = 1 ∨ s.twin.pal = 2) then some 0 else s.twin.cause

/-- SYNCING to READY and back (R314). A takeover found at this edge is that of a READY standby (R316). -/
def judgeReady (s : State) : State :=
  let t := s.twin
  if t.pst == .syncing && s.dev.st == .standby && t.copyLeft == 0 && decide (t.loss < 4) && readyHolds s then
    { s with twin := { t with pst := .ready } }
  else if t.pst == .ready && (!readyHolds s || decide (4 ≤ t.loss)) && (takeoverCause s).isNone then
    { s with twin := { t with pst := .syncing, copyLeft := copyTotal, eqAfter := 0, corrAfter := 0 } }
  else s

/-- A standby takes rail states from the driving device (R309). -/
def follows (s : State) : Bool := (s.twin.pst == .syncing || s.twin.pst == .ready) && s.dev.st == .standby

/-- At each frame edge a standby sets each rail's state to the value in the latest RSTATE (R309). -/
def railStates (s : State) : State :=
  if !follows s || s.twin.rstate.isEmpty then s
  else loop 16 (fun s r => enterRail (RailState.ofCode (s.twin.rstate.getD r 0)) r s) s

/-- A frame begins at an own edge once the link is judged: the standby's conditions and rail states, the frame sent, the own copies. -/
def beginLink (s : State) : State := takeSnaps (sendLink (railStates (judgeReady s)))

/-- What a frame edge does to the pair, with what PALIVE and the DMRX lanes show. -/
def twinFrame (p : Pal) (pattern : Bool) (s : State) : State :=
  let s := { s with twin := { s.twin with digAge := satInc 1000 s.twin.digAge } }
  if !twinOn s then s else
  let s := judgePattern pattern (judgeLoss (judgeAlive p s))
  beginLink { s with twin := { s.twin with formAge := if s.twin.pst == .forming then satInc 1000000 s.twin.formAge else 0 } }

/-- What the own edge at a relock does to the link (R305, R307): it is no end of a frame, so no count of frames moves on with it. (DESIGN CHOICE, log entry 12) -/
def linkEdge (s : State) : State := if twinOn s then beginLink (judgeLoss s) else s

/-! ### A frame received (R307, R308, R323) -/

/-- DESKMATE_FRAME_RECEIVE (R307): the frame's end; `arrival` is the place of its SYNC, in FINE, after the own edge before it, and `edges` own
edges lie between the SYNC and the frame's end: one, but at a slip none or two (R308). (DESIGN CHOICE, log entry 87; DEDUCED, log entry 96) -/
def frameReceive (f : LinkFrame) (sync crc : Bool) (arrival edges : Nat) (s : State) : State :=
  if !twinOn s then s else
  let t := s.twin
  let ok := sync && crc && (match t.hbPrev with | some h => f.hb.toNat == (h + 1) % 65536 | none => true)
  let s := if sync then { s with twin := { t with stamp := arrival % 25600 } } else s
  if !ok then perf 0x51 0 1 { s with twin := { s.twin with crcErr := satInc 0xFFFF t.crcErr } } else
  let at_ := (s.dev.frame - min edges 2) * 25600 + arrival % 25600
  perf 0x50 0 1 (bytes 4 80
    { s with twin := { s.twin with hbPrev := some f.hb.toNat, got := true, rx := if t.rx.length < 4 then t.rx ++ [(f, at_)] else t.rx
                                   prstGot := if f.prst then satInc 4 t.prstGot else 0 } })

/-! ### Alignment (R312) -/

/-- One-way delay, rounded as R51 says, and the distance of the primary's edge from the own edge before the arrival, in FINE (R312). -/
def linkDelay (as ap : Nat) : Nat := (as + ap + 1) / 2 % 12800
def edgeDist (as ap : Nat) : Int := (as : Int) - linkDelay as ap

/-- The primary's edge lies nearer to the own edge after the arrival. -/
def laterEdge (as ap : Nat) : Bool := decide (12799 < edgeDist as ap)

/-- θ (R312). -/
def thetaOf (as ap : Nat) : Int := if laterEdge as ap then edgeDist as ap - 25600 else edgeDist as ap

/-- The frame of the own edge nearest to the primary's edge. -/
def nearEdge (at_ ap : Nat) : Nat := at_ / 25600 + b2n (laterEdge (at_ % 25600) ap)

/-- The count the primary's phase has at the present own edge (R312). -/
def expected (s : State) (f : LinkFrame) (at_ : Nat) (per : Nat) : Nat :=
  let th := thetaOf (at_ % 25600) f.stamp
  let k := s.dev.frame - nearEdge at_ f.stamp
  (((f.pcnt : Int) - roundAway ((th : Rat) / 64) + 400 * k) % (per : Int)).toNat

/-- The largest |err| is that of the last 48 frames (R312): a frame whose phase is not in STBY measures none. -/
def noteErr (e : Nat) (s : State) : State := { s with twin := { s.twin with errs := (e :: s.twin.errs).take 48 } }

/-- The alignment of the phase whose count a frame carries (R312). -/
def alignPhase (f : LinkFrame) (at_ : Nat) (s : State) : State :=
  let p := f.hb.toNat % 48
  let s := { s with twin := { s.twin with theta := thetaOf (at_ % 25600) f.stamp } }
  let waits := gst s p == .stop && s.dev.st == .standby && enOf s p && !(s.ph p).gen.going
    && (match railOf s p with | some r => !(s.rail r).st.stopped | none => true)
  if waits then startPeriod true (nowCnt s - expected s f at_ (s.ph p).gen.act.per) p (noteErr 0 s)
  else if gst s p != .stby then noteErr 0 s else
  let per := (s.ph p).gen.act.per
  let c := expected s f at_ per
  let setCount (s : State) : State := s.modGen p fun g => { g with count := c, org := nowCnt s - c }
  let err := wrapHalf per (((s.ph p).gen.count : Int) - c)
  let far := decide (64 < err.natAbs)
  let s := noteErr err.natAbs
    { s with twin := { s.twin with phErr := s.twin.phErr.set p err, phAdj := s.twin.phAdj.set p (if far then 0 else err) } }
  if far then setCount s else s

/-! ### A frame processed (R303, R304, R308-R316, R321-R323) -/

/-- The pair is formed with this device as primary (R303, R304): counts restart, the partner's copy is due. -/
def enterPrimary (s : State) : State :=
  { s with twin := { s.twin with pst := .primary, crcErr := 0, lost := 0, rpl := 0, copyDue := true, wrq := [], copied := none } }

/-- ORPHAN (R303, R317, R323); from IDLE the device enters STANDBY. -/
def enterOrphan (s : State) : State :=
  { s with dev := { s.dev with st := if s.dev.st == .idle then .standby else s.dev.st }, twin := { s.twin with pst := .orphan } }

/-- FORMING, with a valid frame (R303). A device that has entered SAFE or LOCKED meanwhile never becomes SYNCING. (DEDUCED, log entry 94) -/
def formWith (f : LinkFrame) (s : State) : State :=
  let same := f.role == s.dev.role
  let s := setCond Src.TWIN_CFG_MISMATCH 1 (same && f.pst != 0 && f.pst != 2 && f.pst != 5) s
  let sync (s : State) : State :=
    if s.dev.st == .idle then enterSyncing true s else { s with twin := { s.twin with pst := .orphan } }
  if f.pst = 0 ∨ f.pst = 2 then sync s
  else if f.pst = 5 then { s with twin := { s.twin with pst := .solo } }
  else if f.pst = 1 && !same then (if s.dev.role then enterPrimary s else sync s)
  else s

/-- The place in the pair after a valid frame (R303, R304, R321, R323). -/
def pairState (f : LinkFrame) (s : State) : State :=
  match s.twin.pst with
  | .forming => formWith f s
  | .solo => if f.pst = 3 then enterPrimary s else s
  | .orphan => if s.dev.st == .standby && (f.pst == 0 || f.pst == 2) then enterSyncing true s else s
  | .primary => if s.fc.safe && (f.pst == 0 || (f.pst == 2 && !s.twin.copyDue)) then enterOrphan s else s
  | _ => s

/-- The primary's copy begins at the partner's entry to SYNCING (R314). A partner that was out of the pair forms it anew, and its counts
restart on this side too (R310). (DESIGN CHOICE, log entry 98) -/
def beginCopy (f : LinkFrame) (s : State) : State :=
  if s.twin.pst == .primary && f.pst == 3 && (s.twin.copyDue || s.twin.ppst != 3) then
    let anew := s.twin.ppst == 0 || s.twin.ppst == 1 || s.twin.ppst == 5
    { s with twin := { s.twin with copyDue := false, copied := some 0
                                   crcErr := if anew then 0 else s.twin.crcErr, lost := if anew then 0 else s.twin.lost
                                   rpl := if anew then 0 else s.twin.rpl } }
  else s

/-- Announcements of a handover received (R321): the eighth makes this edge the swap edge. -/
def noteHandover (f : LinkFrame) (s : State) : State :=
  let n := if f.handover then satInc 8 s.twin.hoGot else 0
  { s with twin := { s.twin with hoGot := n, swapDue := s.twin.swapDue || (n == 8 && s.twin.hoGot != 8 && s.twin.pst == .ready) } }

/-- The duty comparison of one rail (R313). -/
def dutyCompare (r prim : Nat) (s : State) : State :=
  let t := s.twin
  let n := fld (s.pg Pg.TWIN Reg.TWIN_CFG) 15 8
  let far := decide (fld (s.pg Pg.TWIN Reg.TWIN_DTOL) 15 0 < ((dutyVal s r : Int) - prim).natAbs)
  let bad := if far then satInc 255 (t.dutyBad.getD r 0) else 0
  let ok := if far then 0 else satInc 255 (t.dutyOk.getD r 0)
  let armed := t.dutyArmed.getD r true
  { s with twin := { t with dutyBad := t.dutyBad.set r bad, dutyOk := t.dutyOk.set r ok
                            dutyHit := t.dutyHit.set r ((t.dutyHit.getD r false) || (armed && decide (n ≤ bad)))
                            dutyArmed := t.dutyArmed.set r (armed || decide (n ≤ ok)) } }

/-- The standby's own copy of a frame's correction item, at the edge nearest to the primary's (R311). -/
def ownCopy (s : State) (f : LinkFrame) (at_ : Nat) : Corr :=
  ((s.twin.snaps.find? fun x => x.1 == snapKey f.hb.toNat (nearEdge at_ f.stamp)).map (·.2)).getD .nothing

/-- The writes a frame carries are applied (R310). -/
def applyWrites (f : LinkFrame) (s : State) : State := f.wr.foldl (fun s x => applyReplica x.1 x.2 s) s

/-- What a frame of the driving device does to its standby (R309-R313). A frame that reports a class 4 action is a takeover cause: its
writes are applied, and nothing else of it is followed (R316, R320); in SAFE and LOCKED the writes are applied (R302, R310), and the
rails and contexts stand. (DESIGN CHOICE, log entry 102) -/
def follow (f : LinkFrame) (at_ : Nat) (s : State) : State :=
  if !(s.twin.pst == .syncing || s.twin.pst == .ready) || 2 < f.pst then s
  else if f.cls4 || s.dev.st != .standby then applyWrites f s else
  let s := railStates { s with twin := { s.twin with rstate := f.rstate } }
  let s := applyWrites f s
  let s := applyCorr (f.hb.toNat % 2048) f.corr (ownCopy s f at_) s
  let s := { s with twin := { s.twin with corrAfter := if s.twin.copyLeft = 0 then satInc 4096 s.twin.corrAfter else 0 } }
  let s := alignPhase f at_ s
  loop 4 (fun s i => dutyCompare (4 * (f.hb.toNat % 4) + i) (f.dutyd.getD i 0) s) s

/-- One valid frame processed. -/
def processFrame (f : LinkFrame) (at_ : Nat) (s : State) : State :=
  let s := if f.cls4 && !s.twin.psafe then event Src.TWIN_PARTNER_SAFE 0 s else s
  let seen := decide (f.alvLeft ≤ 2) && decide (s.twin.palEdge ≤ 2)
  let s := { s with twin := { s.twin with
    psafe := f.cls4, pdigest := f.cfgd, cause := if f.cls4 then some 1 else s.twin.cause
    palDue := if seen then none else some (f.alvLeft + 1) } }
  let s := follow f at_ (beginCopy f (pairState f (noteHandover f s)))
  { s with twin := { s.twin with ppst := f.pst } }

/-- DESKMATE_FRAME_PROCESS (R308): one frame of the elastic buffer, at an own edge after its end. -/
def frameProcess (s : State) : State :=
  match s.twin.rx with
  | [] => s
  | (f, at_) :: rest =>
    if !twinOn s || decide (s.dev.frame ≤ at_ / 25600 + 1) then s else
    processFrame f at_ { s with twin := { s.twin with rx := rest } }

/-! ### Loss of the link, formation, digest (R303, R313, R317, R323) -/

/-- LINK_LOST (R317, R322, R323): 0xA0 while the partner's ALIVE toggles; a primary goes on alone whatever its ALIVE does. (DEDUCED, log entry 99) -/
def linkLost (s : State) : State :=
  if !twinOn s || decide (s.twin.loss < 4) || s.twin.pst == .forming then s else
  let s := if s.twin.pal = 0 then setCond Src.TWIN_LINK_LOST 0 true s else s
  match s.twin.pst with
  | .primary =>
    let s := { s with twin := { s.twin with wrq := [], copied := none, hoLeft := 0 } }
    if s.fc.safe then enterOrphan s else { s with twin := { s.twin with pst := .solo } }
  | .syncing | .ready => if s.twin.pal = 0 then enterOrphan s else s
  | _ => s

/-- FORMATION_TIMEOUT (R303). -/
def formationTimeout (s : State) : State :=
  let t := s.twin
  if !twinOn s || t.pst != .forming || t.hbPrev.isSome
      || decide (t.formAge < fld (s.pg Pg.TWIN Reg.TWIN_CFG) 23 16 * 1000) then s else
  let s := setCond Src.TWIN_CFG_MISMATCH 1 false s
  if t.pal = 2 then { s with twin := { s.twin with pst := .solo } } else
  let s := setCond Src.TWIN_LINK_LOST 0 true s
  if s.dev.role then { s with twin := { s.twin with pst := .solo } } else enterOrphan s

/-- DIGEST_COMPUTE (R313): once every 1000 frames. (DEDUCED, log entry 77) -/
def digestCompute (s : State) : State :=
  if !served s || s.twin.digAge < 1000 then s else
  let s := { s with twin := { s.twin with digAge := 0, digest := Config.digestOf (covered.map (coveredWord s)) } }
  if !(paired s && linkUp s) then s else
  let same := s.twin.digest == s.twin.pdigest
  let t := s.twin
  let s := { s with twin := { t with diffRun := if same then 0 else satInc 2 t.diffRun, sameRun := if same then satInc 2 t.sameRun else 0
                                     eqAfter := if same && t.copyLeft == 0 then satInc 2 t.eqAfter else 0 } }
  if s.twin.diffRun = 2 then setCond Src.TWIN_CFG_MISMATCH 0 true s
  else if s.twin.sameRun = 2 then setCond Src.TWIN_CFG_MISMATCH 0 false s else s

/-- TWIN_DUTY_MISMATCH (R313): once, until armed again. -/
def dutyMismatch (r : Nat) (s : State) : State :=
  if !twinOn s || !s.twin.dutyHit.getD r false then s else
  event Src.TWIN_DUTY_MISMATCH r
    { s with twin := { s.twin with dutyHit := s.twin.dutyHit.set r false, dutyArmed := s.twin.dutyArmed.set r false } }

/-! ### Takeover and handover (R316, R318, R321, R322) -/

/-- Generators that still wait in STOP at a takeover (R312) start as those of a device alone (R27, R119): of a rail none of whose
phases goes, and in manual duty mode, with a reference of their own. -/
def startWaiting (s : State) : State :=
  let alone (p : Nat) : Bool := match railOf s p with
    | some r => !(phasesOf s r).any fun q => (s.ph q).gen.going
    | none => false
  let on (p : Nat) : Bool := counts s p && !(s.ph p).gen.going && !(s.ph p).joining
  let t := refAll (fun p => on p && alone p) (nextCnt s + 400) s
  ((List.range 48).filter fun p => on p && (railOf s p).isNone).foldl (startManual (nextCnt s)) t

/-- The standby becomes the driving device (R318): each generator drives from its first boundary after DRVENk, which is driven high by
the instant `t`. -/
def takeOver (cause t : Nat) (pst : TwinPst) (s : State) : State :=
  let before := s
  let s := if s.cup.run then endNow s else s
  let s := { s with dev := { s.dev with st := .active }
                    twin := { s.twin with pst := pst, last := s.dev.frame % 4294967296, hoGot := 0, swapDue := false }
                    phases := s.phases.map fun x => { x with gen := { x.gen with driving := x.gen.driving && !x.gen.going } } }
  event Src.TWIN_TAKEOVER cause (startWaiting (noteDrv t before s))

/-- A standby that was not redundant (R322): SOLO in IDLE, every rail in OFF. -/
def fallIdle (s : State) : State :=
  let s := loop 16 (fun s r => toOff r s) s
  goIdle { s with twin := { s.twin with pst := .solo } }

/-- TAKEOVER (R316, R318, R322). -/
def takeover (s : State) : State :=
  if !twinOn s || s.dev.st != .standby then s else
  match takeoverCause s with
  | none => s
  | some c => if s.twin.pst == .ready then takeOver c (nowCnt s + 80) .solo s else fallIdle s

/-- SWAP_EDGE (R321): the incoming device takes over as PRIMARY with DRVENk already high; the outgoing one hands its phases over
boundary by boundary. -/
def swapEdge (s : State) : State :=
  if !twinOn s || !s.twin.swapDue then s else
  let s := { s with twin := { s.twin with swapDue := false } }
  if s.twin.pst == .ready && s.dev.st == .standby then
    let s := takeOver 3 (nowCnt s - 400) .primary s
    { s with twin := { s.twin with copyDue := true, wrq := [], copied := none, ppst := 7 } }
  else if s.twin.pst == .primary && (s.dev.st == .active || s.dev.st == .idle) then
    handoverDone { s with twin := { s.twin with leaving := true, wrq := [], copied := none } }
  else s

/-! ### Gang bus (R325-R328) -/

/-- The gang unit works as a leader, as a follower. -/
def gangLeads (s : State) : Bool := served s && bit (s.pg Pg.GANG Reg.GANG_CFG) 31 && !bit (s.pg Pg.GANG Reg.GANG_CFG) 30
def gangFollows (s : State) : Bool := served s && bit (s.pg Pg.GANG Reg.GANG_CFG) 31 && bit (s.pg Pg.GANG Reg.GANG_CFG) 30

/-- Slot `k` is in use, and its rail. -/
def slotOn (s : State) (k : Nat) : Bool := bit (s.pg Pg.GANG (Reg.GANG_SLOT + k)) 31
def slotRail (s : State) (k : Nat) : Nat := fld (s.pg Pg.GANG (Reg.GANG_SLOT + k)) 27 24

/-- What a leader sends in a slot (R327). -/
def slotOf (s : State) (k : Nat) : Nat × Int :=
  if !slotOn s k then (0, 0) else
  let x := s.rail (slotRail s k)
  if x.st.running then (1, toSPU16 x.out)
  else if x.st == .faulted || x.st == .locked then (3, 0) else (0, 0)

/-- GANG_FRAME_SEND (R326): at each frame whose number is a multiple of 4. (DEDUCED, log entry 104) -/
def gangSend (s : State) : State :=
  if !gangLeads s || s.dev.frame % 4 ≠ 0 then s else
  { s with gang := { s.gang with tx := some ⟨false, s.dev.frame / 4 % 4, (List.range 4).map (slotOf s)⟩ } }

/-- A slot rail stops as under a mode of RAIL_STOPCFG (R327); a debug halt holds the stop until its release (R161). (DESIGN CHOICE, log entry 140) -/
def gangStop (mode r : Nat) (s : State) : State :=
  if s.eng.haltReq then s.modRail r fun x => { x with gangPend := some mode } else stopUnder mode r s

/-- The states of the slots act on the follower's rails (R327). -/
def gangSlots (f : GangFrame) (s : State) : State :=
  loop 4 (fun s k =>
    if !slotOn s k then s
    else if f.stopAll || (f.slots.getD k (0, 0)).1 = 2 then gangStop 2 (slotRail s k) s
    else if (f.slots.getD k (0, 0)).1 = 3 then gangStop 0 (slotRail s k) s else s) s

/-- The lead phases of the slot rails are held at their counts (R327): the count that a generator had, or by the boundary at which its
present period ends will have had, where the frame just received began. (DEDUCED, log entry 104) -/
def gangAlign (s : State) : State :=
  loop 4 (fun s k =>
    match (if slotOn s k then leadOf s (slotRail s k) else none) with
    | none => s
    | some p =>
      let g := (s.ph p).gen
      if !g.going || !counts s p then s else
      let c := (fld (s.pg Pg.GANG Reg.GANG_OFS) 15 0 + 1600 * s.gang.n) % g.act.per
      let err := wrapHalf g.act.per ((s.gang.start : Int) - (g.org + g.curPer : Nat) - c)
      { s with twin := { s.twin with phAdj := s.twin.phAdj.set p err } }) s

/-- Gang frames that a follower has missed since its latest valid one (R328): each lasts 4 own frames, and is missed once it can no
longer come in. (DEDUCED, log entry 104) -/
def gangMissed (g : Gang) : Nat := (g.age - 2) / 4

/-- GANG_FRAME_RECEIVE (R326-R328). -/
def gangReceive (f : GangFrame) (crc : Bool) (start : Nat) (s : State) : State :=
  if !gangFollows s then s else
  if !crc then { s with gang := { s.gang with crcErr := satInc 0xFF s.gang.crcErr, ok := 0 } } else
  let g := s.gang
  let ok := satInc 255 g.ok
  let heal := g.lost && decide (fld (s.pg Pg.GANG Reg.GANG_CFG) 7 0 ≤ ok)
  let s := { s with gang := { g with link := true, slotSt := f.slots.map (·.1), slotRef := f.slots.map (·.2), age := 0, ok := ok, start := start
                                     n := if g.link then g.n + (start - g.start + 800) / 1600 else 0, lost := g.lost && !heal } }
  let s := if heal then setCond Src.TWIN_LINK_LOST 2 false s else s
  gangAlign (gangSlots f s)

/-- A follower's frame edge (R328): a gang frame missed ends the run of valid ones. -/
def gangFrame (s : State) : State :=
  if !gangFollows s then s else
  let g := { s.gang with age := satInc 1023 s.gang.age }
  { s with gang := { g with ok := if gangMissed g = 0 then g.ok else 0 } }

/-- GANG_TIMEOUT (R328): every slot rail stops as on STOP, at each run of TMO frames missed. -/
def gangTimeout (s : State) : State :=
  if !gangFollows s || (s.gang.lost && !s.gang.link) || decide (gangMissed s.gang < fld (s.pg Pg.GANG Reg.GANG_CFG) 7 0) then s else
  let s := setCond Src.TWIN_LINK_LOST 2 true { s with gang := { s.gang with link := false, lost := true, ok := 0 } }
  loop 4 (fun s k => if slotOn s k then gangStop 2 (slotRail s k) s else s) s

/-! ### Meanings -/

/-- DESKMATE_FRAME_RECEIVE (R307). -/
def execDeskmateFrameReceive (f : LinkFrame) (sync crc : Bool) (arrival : Nat) (s : State) (edges : Nat := 1) :
    Host.Outcome State Fault Refusal :=
  .next (clocked (frameReceive f sync crc arrival edges) s.begin)
/-- DESKMATE_FRAME_PROCESS (R309). -/
def execDeskmateFrameProcess (s : State) : Host.Outcome State Fault Refusal := .next (clocked frameProcess s.begin)
/-- LINK_LOST (R317). -/
def execLinkLost (s : State) : Host.Outcome State Fault Refusal := .next (clocked linkLost s.begin)
/-- FORMATION_TIMEOUT (R303). -/
def execFormationTimeout (s : State) : Host.Outcome State Fault Refusal := .next (clocked formationTimeout s.begin)
/-- DIGEST_COMPUTE (R313). -/
def execDigestCompute (s : State) : Host.Outcome State Fault Refusal := .next (clocked digestCompute s.begin)
/-- TWIN_DUTY_MISMATCH (R313). -/
def execTwinDutyMismatch (r : Fin 16) (s : State) : Host.Outcome State Fault Refusal := .next (clocked (dutyMismatch r) s.begin)
/-- TAKEOVER (R318). -/
def execTakeover (s : State) : Host.Outcome State Fault Refusal := .next (clocked takeover s.begin)
/-- SWAP_EDGE (R321). -/
def execSwapEdge (s : State) : Host.Outcome State Fault Refusal := .next (clocked swapEdge s.begin)
/-- GANG_FRAME_SEND (R326). -/
def execGangFrameSend (s : State) : Host.Outcome State Fault Refusal := .next (clocked gangSend s.begin)
/-- GANG_FRAME_RECEIVE (R327). -/
def execGangFrameReceive (f : GangFrame) (crc : Bool) (s : State) (start : Nat := 0) : Host.Outcome State Fault Refusal :=
  .next (clocked (gangReceive f crc start) s.begin)
/-- GANG_TIMEOUT (R328). -/
def execGangTimeout (s : State) : Host.Outcome State Fault Refusal := .next (clocked gangTimeout s.begin)

end Sys2Proof.Machine
end

