-- ==== Sys2Proof/Machine/Boot.lean ====
section
/-! DEFINITION. Machine/Boot.lean: the boot image (R414-R417), the end of BOOT (R413, R419), the return of the clocks (R62, R66,
R413). -/

namespace Sys2Proof.Machine

/-! ### Boot image (R414-R416) -/

/-- CRC-32, polynomial 0x04C11DB7, reflected, initial value and final XOR 0xFFFFFFFF (R414). -/
def crc32 (l : List Nat) : Nat :=
  let step (c : BitVec 32) (b : Nat) : BitVec 32 :=
    (List.range 8).foldl (fun c _ => if c.toNat % 2 = 1 then (c >>> 1) ^^^ 0xEDB88320#32 else c >>> 1) (c ^^^ BitVec.ofNat 32 b)
  (~~~ l.foldl step 0xFFFFFFFF#32).toNat

/-- Number of entries of the copy at a byte address. -/
def imageN (s : State) (base : Nat) : Nat := le (nvBytes s (base + 6) 2)

/-- A copy is intact (R414). -/
def imageIntact (s : State) (base : Nat) : Bool :=
  let n := imageN s base
  nvBytes s base 4 == [0x56, 0x58, 0x41, 0x31] && le (nvBytes s (base + 4) 2) == 1 && decide (1 ≤ n) && decide (n ≤ 10919)
    && crc32 (nvBytes s base (16 + 6 * n)) == le (nvBytes s (base + 16 + 6 * n) 4)

/-- Registers that no image entry may write (R415). -/
def imageForbids (a : Nat) : Bool :=
  a == Pg.DEV * 256 + Reg.DEV_CMD || a == Pg.NV * 256 + Reg.NV_CMD || a == Pg.TWIN * 256 + Reg.TWIN_CMD
    || a == Pg.ENG * 256 + Reg.ENG_DBG
    || ((pageType (a / 256)).isSome && (a % 256 == Reg.PG_FORCE || a % 256 == Reg.PAGE_SEL))

/-- One entry as a write of the owner host (R415), and its error code: a domain start fails, since the device is not ACTIVE. -/
def imageEntry (a : Nat) (w : Word) (s : State) : State × Nat :=
  let h : Fin 3 := if s.dev.ownsel then 1 else 0
  if imageForbids a then (reject h a Err.RANGE s, Err.RANGE)
  else if a = Pg.DOM * 256 + Reg.DOM_CMD && fld w 3 0 != 0 && writeCode s h a w == Err.OK then (reject h a Err.STATE s, Err.STATE)
  else hostWrite h a w s

/-- The entries from index `i` on, `k` of them, each in a cycle of its own; at the first rejected entry its index and code. -/
def imageEntries (base : Nat) : Nat → Nat → State → State × Option (Nat × Nat)
  | 0, _, s => (s, none)
  | k + 1, i, s =>
    let x := imageEntry (le (nvBytes s (base + 16 + 6 * i) 2)) (BitVec.ofNat 32 (le (nvBytes s (base + 18 + 6 * i) 4))) s.later
    if x.2 = Err.OK then imageEntries base k (i + 1) x.1 else (x.1, some (i, x.2))

/-- A copy is tried (R415, R416): applied, or the registers stand as before it and its error word says why; what it raised stays
held. (DEDUCED, log entry 13) -/
def tryCopy (base : Nat) (s : State) : State × Option Word :=
  if !imageIntact s base then (s, some (pack [(1, 30)])) else
  let x := imageEntries base (imageN s base) 0 { s with dev := { s.dev with st := .idle } }
  match x.2 with
  | none => ({ x.1 with dev := { x.1.dev with st := .boot, imgSer := BitVec.ofNat 32 (le (nvBytes s (base + 8) 4)) } }, none)
  | some (i, c) => ({ s with clk := x.1.clk, perf := { s.perf with at_ := x.1.perf.at_ }, fc := { s.fc with pend := x.1.fc.pend } }, some (pack [(2, 30), (c, 24), (i, 0)]))

/-- Step 5 of BOOT (R413, R416): skipped after a failed flash self-test. -/
def bootImage (s : State) : State :=
  if fld s.dev.bootErrA 31 30 = 3 then s else
  match tryCopy 0 s with
  | (t, none) => { t with dev := { t.dev with img := 1 } }
  | (t, some a) =>
    let t := { t with dev := { t.dev with bootErrA := a } }
    match tryCopy 65536 t with
    | (u, none) => event Src.NV_BOOT_B (fld a 31 30) { u.later with dev := { u.dev with img := 2 } }
    | (u, some b) => setCond Src.NV_BOOT_FAIL (fld b 31 30) true { u.later with dev := { u.dev with bootErrB := b } }

/-! ### End of BOOT (R276, R301, R303, R413, R419) -/

/-- The state BOOT ends in (R419). -/
def bootState (s : State) : State :=
  if s.fc.locked || s.dev.lockAtEnd then enterLocked s
  else { s with dev := { s.dev with st := if s.fc.safe then .safe else .idle } }

/-- What starts with the end of BOOT: the auxiliary rounds (R94), pairing (R303), the stage bus (R393), ALIVE (R293). -/
def bootStarts (ticks : Nat) (s : State) : State :=
  let s := nextRound s
  let s := { s with dev := { s.dev with bootTime := ticks % 4294967296, lockAtEnd := false
                                        aliveLeft := fld (s.pg Pg.FC Reg.FC_ALIVE) 12 0 } }
  let s := if bit (s.pg Pg.SBUS Reg.SB_CFG) 31 then { s with sb := { s.sb with needRecov := true } } else s
  if !bit (s.pg Pg.TWIN Reg.TWIN_CFG) 31 then s
  else { s with twin := { s.twin with pst := if s.dev.st == .idle then .forming else .orphan, formAge := 0 } }

/-- BOOT_END (R413, R419): steps 5 to 7, in order. PWRFAILn low at that instant counts as a fall (R355). (DEDUCED, log entry 17) -/
def bootEnd (ticks : Nat) (powerLow : Bool) (s : State) : State :=
  if s.dev.rst || s.dev.st != .boot || s.dev.clkStop || !s.dev.pllUp then s else
  let s := nvRebuild (bootImage s).later
  let s := acceptAll (s.fc.pend.length + 8) s
  let s := acceptAll 8 (event Src.DEV_RESET s.dev.cause s.later)
  let s := bootStarts ticks (bootState s)
  if powerLow then powerFail s else s

/-! ### The clocks return (R66, R67, R413) -/

/-- BOOT restarts at step 2 (R413): registers at their reset values; the frame counter and what the self-tests found stand. (DESIGN CHOICE, log entry 14) -/
def bootAgain (s : State) : State :=
  let t := { State.reset with
    pending := s.pending, cyc := s.cyc, clk := s.clk, dev := s.dev, nv := Nv.init s.nv.flash
    fc := { Fc.init with pend := s.fc.pend, stand := s.fc.stand }
    grid := { State.reset.grid with accAt := 50 * s.dev.frame } }
  let t := { t with dev := { t.dev with rcOk := true, rcRun := 0, rcMeas := 32000, rcAge := 0 } }
  if s.fc.self then selfFault t else t

/-- A message of a clock loss carries the frozen frame count, whenever it is accepted (R71); one into which a later loss merges keeps that
of the first. (DESIGN CHOICE, log entry 69) -/
def Msg.frozen (frame : Nat) (m : Msg) : Msg :=
  if (m.src == Src.CLK_REF_LOSS || m.src == Src.CLK_PLL_UNLOCK) && m.real && m.stamp.isNone then { m with stamp := some frame } else m

/-- The messages of a clock loss (R66). -/
def lossMessages (s : State) : State :=
  let s := if s.dev.lossRef then event Src.CLK_REF_LOSS 0 s else s
  let s := if s.dev.lossPll then event Src.CLK_PLL_UNLOCK 0 s else s
  { s with fc := { s.fc with pend := s.fc.pend.map (Msg.frozen s.dev.frame) } }

/-- What the class 4 action of a clock loss does to rails, sequences and injection (R67, R281). -/
def lossRails (s : State) : State :=
  let src := if s.dev.lossRef then Src.CLK_REF_LOSS else Src.CLK_PLL_UNLOCK
  let l := (List.range 16).filter fun r => !(s.rail r).st.stopped
  l.foldl (fun s r => toFaulted src 0 r s) (leaveActive s)

/-- PLL_RELOCK (R66): the clocks restart with a frame that carries the held count (R70), the messages of the loss come first. Of a BOOT that
waits in step 1 it is the lock (R413). The relock is a CKF edge of this device: it begins a deskmate frame there and judges its link (R305, R307). (DESIGN CHOICE, log entry 12) -/
def pllRelock (s : State) : State :=
  if !s.dev.clkStop || s.dev.rst then s else
  if let some x := (if s.dev.st = .boot then s.dev.step1 else none) then bootFrom x s else
  let s := sbAfterLoss (firstEdge { s with dev := { s.dev with clkStop := false }, twin := { s.twin with pattern := false } })
  let s := if s.dev.st == .boot then lossMessages (bootAgain s) else linkEdge (lossRails (lossMessages s))
  { s with dev := { s.dev with lossRef := false, lossPll := false, fresh := false } }

/-! ### Meanings -/

/-- BOOT_END (R419). -/
def execBootEnd (ticks : Nat) (s : State) (powerLow : Bool := false) : Host.Outcome State Fault Refusal :=
  .next (clocked (bootEnd ticks powerLow) s.begin)
/-- PLL_RELOCK (R66). -/
def execPllRelock (s : State) : Host.Outcome State Fault Refusal := .next (pllRelock s.begin)

end Sys2Proof.Machine
end

