-- ==== Sys2Proof/Machine/Tick.lean ====
section
/-! DEFINITION. Machine/Tick.lean: the frame tick (R70) with every per-frame evaluation of the device. -/

namespace Sys2Proof.Machine

/-- The published counts at a frame edge (R107): the CNT since the period began; a boundary that has not been reported holds the count at its end. (DESIGN CHOICE, log entry 35) -/
def countFrame (s : State) : State :=
  loop 48 (fun s p => if counts s p && (s.ph p).gen.going then
    s.modGen p fun g => { g with count := min (nowCnt s - g.org) (g.curPer - 1) } else s) s

/-- Trip input `n` as it stands at the frame edge (R131): a ball's level, or the comparator's output at the rail's latest absolute
conversion. (DEDUCED, log entry 39; DESIGN CHOICE, log entry 130) -/
def tripInput (trips : List Pal) (s : State) (n : Nat) : Bool :=
  if n < 8 then pinActive s n 0 (trips.getD n .undriven)
  else ovOut (s.rail (n - 8)).ovDac (s.tripCnt.getD n 0 != 0) (s.rail (n - 8)).vabsV

/-- The enabled inputs as they stand after their filters (R131): a frame is 50 CKS edges. (DESIGN CHOICE, log entry 4) -/
def tripFrame (trips : List Pal) (s : State) : State :=
  let cfg (n : Nat) : Word := s.pg Pg.TRIP (Reg.TRIP_CFG + n)
  let cnt := (List.range 24).map fun n => if bit (cfg n) 31 && tripInput trips s n then satAdd 255 (s.tripCnt.getD n 0) 50 else 0
  { s with tripCnt := cnt, tripRaw := maskOf 24 fun n => cnt.getD n 0 != 0 && decide (fld (cfg n) 7 0 ≤ cnt.getD n 0) }

/-- Frames or units toward a tally count (R347): when `lim` is reached a count is due and the rest is kept. -/
def tallyFrame (n add lim : Nat) (s : State) : State :=
  let a := s.nv.tacc.getD n 0 + add
  if lim = 0 then s
  else if lim ≤ a then tallyAdd n 1 { s with nv := { s.nv with tacc := s.nv.tacc.set n (a - lim) } }
  else { s with nv := { s.nv with tacc := s.nv.tacc.set n a } }

/-- One frame of energy counter `k + 2` (R347): VLOOP × IRAIL while it has the sign that DIR selects. (DESIGN CHOICE, log entry 73) -/
def energyFrame (k : Nat) (s : State) : State :=
  let c := s.pg Pg.NV (Reg.NV_TCFG + k)
  let x := s.rail (fld c 27 24)
  let p : Int := (x.vloop : Int) * (if bit c 30 then -x.irail else x.irail)
  if !bit c 31 || p ≤ 0 then s
  else tallyFrame (k + 2) p.toNat (roundAway (bf (setFld c 31 24 0) * 268435456000000)).toNat s

/-- The Gradebook's frame: counters (R347), the hold after a power failure (R355), room for an append again (R342). (DEDUCED, log entry 84) -/
def nvFrame (s : State) : State :=
  let s := tallyFrame 0 1 360000000 s
  let s := if s.dev.st == .active then tallyFrame 1 1 360000000 s else s
  let s := loop 4 (fun s k => energyFrame k s) s
  let s := if s.nv.saved then { s with nv := { s.nv with pwrHigh := satInc 1000 s.nv.pwrHigh } } else s
  if s.nv.full && (place s 32 0 false).isSome && !nvStuck s then setCond Src.NV_FULL 0 false { s with nv := { s.nv with full := false } } else s

/-- The windows and timers that count frames (R68, R138, R293, R405). -/
def timerFrame (s : State) : State :=
  { s with dev := { s.dev with aliveLeft := if s.fc.safe then s.dev.aliveLeft else s.dev.aliveLeft - 1
                               rcAge := satInc 1000 s.dev.rcAge }
           eng := { s.eng with winLeft := s.eng.winLeft - 1 }, perf := { s.perf with bwLeft := s.perf.bwLeft - 1 } }

/-- FRAME_TICK (R70): the frame counter advances first; the first edge after a soft or twin-commanded reset begins frame 0. In BOOT only
what runs with the clocks alone goes on: the phase accumulator (R192) and the windows (R405). (DESIGN CHOICE, log entry 4; DESIGN CHOICE, log entry 109; DESIGN CHOICE, log entry 135; DESIGN CHOICE, log entry 147) -/
def frameTick (abs : List (BitVec 14)) (cm : List Bool) (palive : Pal) (trips : List Pal) (pattern : Bool) (wires : List Nat) (s : State) : State :=
  if s.dev.rst || s.dev.clkStop || !s.dev.pllUp then s else
  let s := perfEdge wires s
  if s.dev.fresh then gridFrame { s with dev := { s.dev with fresh := false } } else
  let s := { s with dev := { s.dev with frame := (s.dev.frame + 1) % 18446744073709551616 } }
  if s.dev.st == .boot then timerFrame (gridFrame s) else
  let s := countFrame (tripFrame trips (tickSense abs cm s))
  let s := loop 16 (fun s r => blendFrame r (latchRail r s)) s
  let s := if machinesRun s then loop 16 (fun s r => railFrame r s) s else s
  let s := loop 16 (fun s r => limitFrame r s) s
  let s := loop 4 (fun s k => domFrame k s) s
  let s := nvFrame (timerFrame (gridFrame s))
  gangFrame (twinFrame palive pattern s)

/-- FRAME_TICK (R70). -/
def execFrameTick (abs : List (BitVec 14)) (cm : List Bool) (palive : Pal) (trips : List Pal) (pattern : Bool) (s : State)
    (wires : List Nat := []) : Host.Outcome State Fault Refusal :=
  .next (clocked (frameTick abs cm palive trips pattern wires) s.begin)

end Sys2Proof.Machine
end

