-- ==== Sys2Proof/Machine/Dispatch.lean ====
section
/-! DEFINITION. Machine/Dispatch.lean: which meaning each command has. -/

namespace Sys2Proof.Machine

def exec (i : Instr) (s : State) : Host.Outcome State Fault Refusal :=
  match i with
  | .frameTick abs cm palive trips pattern wires => Sys2Proof.Machine.execFrameTick abs cm palive trips pattern s wires
  | .clkFrameLoRead h => Sys2Proof.Machine.execClkFrameLoRead h s
  | .referenceLoss => Sys2Proof.Machine.execReferenceLoss s
  | .pllUnlock => Sys2Proof.Machine.execPllUnlock s
  | .pllRelock => Sys2Proof.Machine.execPllRelock s
  | .rcMeasurement count => Sys2Proof.Machine.execRcMeasurement count s
  | .phCfgWrite h p w => Sys2Proof.Machine.execPhCfgWrite h p w s
  | .railCfgWrite h r w => Sys2Proof.Machine.execRailCfgWrite h r w s
  | .baseRegisterWrite h reg w => Sys2Proof.Machine.execBaseRegisterWrite h reg w s
  | .windowConversion r w => Sys2Proof.Machine.execWindowConversion r w s
  | .vsWindow r => Sys2Proof.Machine.execVsWindow r s
  | .vsRange r => Sys2Proof.Machine.execVsRange r s
  | .vsFail r => Sys2Proof.Machine.execVsFail r s
  | .voltageMeasurementEnd r => Sys2Proof.Machine.execVoltageMeasurementEnd r s
  | .controlConversionStart p count => Sys2Proof.Machine.execControlConversionStart p count s
  | .controlConversionEnd p code => Sys2Proof.Machine.execControlConversionEnd p code s
  | .offsetMeasurement p codes => Sys2Proof.Machine.execOffsetMeasurement p codes s
  | .auxConversion v => Sys2Proof.Machine.execAuxConversion v s
  | .auxRange n => Sys2Proof.Machine.execAuxRange n s
  | .sarSelfCheck code => Sys2Proof.Machine.execSarSelfCheck code s
  | .spaConversion n raw => Sys2Proof.Machine.execSpaConversion n raw s
  | .sppPeriodMeasured n high rest => Sys2Proof.Machine.execSppPeriodMeasured n high rest s
  | .sppLoss n levels => Sys2Proof.Machine.execSppLoss n s levels
  | .gridzcEdge frame cnt high => Sys2Proof.Machine.execGridzcEdge frame cnt s high
  | .gridLock => Sys2Proof.Machine.execGridLock s
  | .missedPeriod => Sys2Proof.Machine.execMissedPeriod s
  | .gridUnlock => Sys2Proof.Machine.execGridUnlock s
  | .captureArm h => Sys2Proof.Machine.execCaptureArm h s
  | .captureRelease h => Sys2Proof.Machine.execCaptureRelease h s
  | .captureTick => Sys2Proof.Machine.execCaptureTick s
  | .captureDone => Sys2Proof.Machine.execCaptureDone s
  | .capdataRead h => Sys2Proof.Machine.execCapdataRead h s
  | .periodBoundary p nodeH nodeL => Sys2Proof.Machine.execPeriodBoundary p nodeH nodeL s
  | .delayLineCalibration p ok => Sys2Proof.Machine.execDelayLineCalibration p ok s
  | .phLoad h p => Sys2Proof.Machine.execPhLoad h p s
  | .phPerWrite h p w => Sys2Proof.Machine.execPhPerWrite h p w s
  | .phCmpWrite h p w => Sys2Proof.Machine.execPhCmpWrite h p w s
  | .phOfsWrite h p w => Sys2Proof.Machine.execPhOfsWrite h p w s
  | .phDtWrite h p w => Sys2Proof.Machine.execPhDtWrite h p w s
  | .phEnable h p minpw => Sys2Proof.Machine.execPhEnable h p minpw s
  | .phDisable h p minpw => Sys2Proof.Machine.execPhDisable h p minpw s
  | .generatorStart p => Sys2Proof.Machine.execGeneratorStart p s
  | .tripAccept n wave => Sys2Proof.Machine.execTripAccept n s wave
  | .tripClr h w => Sys2Proof.Machine.execTripClr h w s
  | .engineUpdate latency displaced lane => Sys2Proof.Machine.execEngineUpdate latency displaced s lane
  | .engineParityError addr => Sys2Proof.Machine.execEngineParityError addr s
  | .rcompCommit h r luten => Sys2Proof.Machine.execRcompCommit h r luten s
  | .bankSwitch r => Sys2Proof.Machine.execBankSwitch r s
  | .bankCopyBack r => Sys2Proof.Machine.execBankCopyBack r s
  | .engineHalt h => Sys2Proof.Machine.execEngineHalt h s
  | .engineRelease h => Sys2Proof.Machine.execEngineRelease h s
  | .engStdatRead h => Sys2Proof.Machine.execEngStdatRead h s
  | .engClearOverrun h => Sys2Proof.Machine.execEngClearOverrun h s
  | .engClearLatency h => Sys2Proof.Machine.execEngClearLatency h s
  | .engClearPeak h => Sys2Proof.Machine.execEngClearPeak h s
  | .engUtilWindow => Sys2Proof.Machine.execEngUtilWindow s
  | .railSrcWrite h r w => Sys2Proof.Machine.execRailSrcWrite h r w s
  | .railStart h r => Sys2Proof.Machine.execRailStart h r s
  | .railStop h r => Sys2Proof.Machine.execRailStop h r s
  | .railClr h r => Sys2Proof.Machine.execRailClr h r s
  | .precheckEntry r => Sys2Proof.Machine.execPrecheckEntry r s
  | .shortCheckResult r nodes => Sys2Proof.Machine.execShortCheckResult r nodes s
  | .prebiasEntry r => Sys2Proof.Machine.execPrebiasEntry r s
  | .rampEntry r => Sys2Proof.Machine.execRampEntry r s
  | .limitEntry r => Sys2Proof.Machine.execLimitEntry r s
  | .railStopto r => Sys2Proof.Machine.execRailStopto r s
  | .restartDelayExpiry r => Sys2Proof.Machine.execRestartDelayExpiry r s
  | .automaticRestart r => Sys2Proof.Machine.execAutomaticRestart r s
  | .domainStart h d => Sys2Proof.Machine.execDomainStart h d s
  | .domainStop h d => Sys2Proof.Machine.execDomainStop h d s
  | .sequenceRankStart r => Sys2Proof.Machine.execSequenceRankStart r s
  | .sequenceRankStop r => Sys2Proof.Machine.execSequenceRankStop r s
  | .railSeqto d => Sys2Proof.Machine.execRailSeqto d s
  | .railFollow r => Sys2Proof.Machine.execRailFollow r s
  | .followingErrorRearm r => Sys2Proof.Machine.execFollowingErrorRearm r s
  | .rtabEntryWrite h r j w => Sys2Proof.Machine.execRtabEntryWrite h r j w s
  | .rtabZero h r freeze learn => Sys2Proof.Machine.execRtabZero h r freeze learn s
  | .phaseShed r => Sys2Proof.Machine.execPhaseShed r s
  | .phaseAdd r => Sys2Proof.Machine.execPhaseAdd r s
  | .phTrimsat p => Sys2Proof.Machine.execPhTrimsat p s
  | .dripEntry r => Sys2Proof.Machine.execDripEntry r s
  | .railBraketo r => Sys2Proof.Machine.execRailBraketo r s
  | .phSenseImpl p => Sys2Proof.Machine.execPhSenseImpl p s
  | .phOpen p => Sys2Proof.Machine.execPhOpen p s
  | .cbcPulseEnd p rev t v => Sys2Proof.Machine.execCbcPulseEnd p rev t s v
  | .voltageLimitStands r lim => Sys2Proof.Machine.execVoltageLimitStands r lim s
  | .voltageLimitClears r lim => Sys2Proof.Machine.execVoltageLimitClears r lim s
  | .thermalLimitStands r trip => Sys2Proof.Machine.execThermalLimitStands r trip s
  | .thermalLimitClears r trip => Sys2Proof.Machine.execThermalLimitClears r trip s
  | .dieTemperatureGuard => Sys2Proof.Machine.execDieTemperatureGuard s
  | .devSupply n => Sys2Proof.Machine.execDevSupply n s
  | .cupStart h => Sys2Proof.Machine.execCupStart h s
  | .cupStop h => Sys2Proof.Machine.execCupStop h s
  | .cupArst h => Sys2Proof.Machine.execCupArst h s
  | .cupRel h => Sys2Proof.Machine.execCupRel h s
  | .cupMeasurementDone => Sys2Proof.Machine.execCupMeasurementDone s
  | .injectionEnd => Sys2Proof.Machine.execInjectionEnd s
  | .faultAccept => Sys2Proof.Machine.execFaultAccept s
  | .fcLatClear h k w => Sys2Proof.Machine.execFcLatClear h k w s
  | .fcClrfirst h => Sys2Proof.Machine.execFcClrfirst h s
  | .fcExit h => Sys2Proof.Machine.execFcExit h s
  | .faultInject h pg w => Sys2Proof.Machine.execFaultInject h pg w s
  | .collectorSelfFault => Sys2Proof.Machine.execCollectorSelfFault s
  | .aliveToggle => Sys2Proof.Machine.execAliveToggle s
  | .deskmateFrameReceive f sync crc arrival edges => Sys2Proof.Machine.execDeskmateFrameReceive f sync crc arrival s edges
  | .deskmateFrameProcess => Sys2Proof.Machine.execDeskmateFrameProcess s
  | .linkLost => Sys2Proof.Machine.execLinkLost s
  | .formationTimeout => Sys2Proof.Machine.execFormationTimeout s
  | .digestCompute => Sys2Proof.Machine.execDigestCompute s
  | .twinDutyMismatch r => Sys2Proof.Machine.execTwinDutyMismatch r s
  | .takeover => Sys2Proof.Machine.execTakeover s
  | .twinHandover h => Sys2Proof.Machine.execTwinHandover h s
  | .swapEdge => Sys2Proof.Machine.execSwapEdge s
  | .twinPrst h => Sys2Proof.Machine.execTwinPrst h s
  | .twinRejoin h => Sys2Proof.Machine.execTwinRejoin h s
  | .twinCommandedReset => Sys2Proof.Machine.execTwinCommandedReset s
  | .gangFrameSend => Sys2Proof.Machine.execGangFrameSend s
  | .gangFrameReceive f crc start => Sys2Proof.Machine.execGangFrameReceive f crc s start
  | .gangTimeout => Sys2Proof.Machine.execGangTimeout s
  | .nvRead h => Sys2Proof.Machine.execNvRead h s
  | .nvProg h => Sys2Proof.Machine.execNvProg h s
  | .nvErase h => Sys2Proof.Machine.execNvErase h s
  | .nvAppend h => Sys2Proof.Machine.execNvAppend h s
  | .nvFind h => Sys2Proof.Machine.execNvFind h s
  | .nvFindseq h => Sys2Proof.Machine.execNvFindseq h s
  | .nvOperationStart => Sys2Proof.Machine.execNvOperationStart s
  | .pageProgramDone ok => Sys2Proof.Machine.execPageProgramDone ok s
  | .sectorEraseDone ok => Sys2Proof.Machine.execSectorEraseDone ok s
  | .tallyBitDone ok => Sys2Proof.Machine.execTallyBitDone ok s
  | .tallyIncrement n => Sys2Proof.Machine.execTallyIncrement n s
  | .powerFail => Sys2Proof.Machine.execPowerFail s
  | .powerFailRecover => Sys2Proof.Machine.execPowerFailRecover s
  | .spiFrameBegin port mode3 hdr => Sys2Proof.Machine.execSpiFrameBegin port mode3 hdr s
  | .spiWord port w => Sys2Proof.Machine.execSpiWord port w s
  | .spiFrameEnd port bits => Sys2Proof.Machine.execSpiFrameEnd port bits s
  | .hpcPointerSet ptr => Sys2Proof.Machine.execHpcPointerSet ptr s
  | .hpcRegisterWrite w => Sys2Proof.Machine.execHpcRegisterWrite w s
  | .hpcRegisterRead complete pecRead => Sys2Proof.Machine.execHpcRegisterRead complete s pecRead
  | .hpcPecByte b => Sys2Proof.Machine.execHpcPecByte b s
  | .hpcTransferEnd bytes inByte => Sys2Proof.Machine.execHpcTransferEnd bytes inByte s
  | .hpcSclTimeout bytes => Sys2Proof.Machine.execHpcSclTimeout bytes s
  | .hostErrclr h => Sys2Proof.Machine.execHostErrclr h s
  | .hostFrmclr h => Sys2Proof.Machine.execHostFrmclr h s
  | .pgAclWrite h pg w => Sys2Proof.Machine.execPgAclWrite h pg w s
  | .pageSelWrite h pg w => Sys2Proof.Machine.execPageSelWrite h pg w s
  | .pageLock h pg => Sys2Proof.Machine.execPageLock h pg s
  | .pageUnlock h pg => Sys2Proof.Machine.execPageUnlock h pg s
  | .pgEvtClear h pg w => Sys2Proof.Machine.execPgEvtClear h pg w s
  | .pollDue n => Sys2Proof.Machine.execPollDue n s
  | .stageBusTransferStart sdaLow sda => Sys2Proof.Machine.execStageBusTransferStart sdaLow s sda
  | .pollComplete acked data pec sent => Sys2Proof.Machine.execPollComplete acked data pec s sent
  | .sbArblost sent sda => Sys2Proof.Machine.execSbArblost s sent sda
  | .busRecovery sdaHigh sclHigh sda scl => Sys2Proof.Machine.execBusRecovery sdaHigh sclHigh s sda scl
  | .stuckRecoveryRetry sdaHigh sclHigh sda scl => Sys2Proof.Machine.execStuckRecoveryRetry sdaHigh sclHigh s sda scl
  | .sbHostTransaction h w => Sys2Proof.Machine.execSbHostTransaction h w s
  | .sbHostTransactionDone acked data pec sent => Sys2Proof.Machine.execSbHostTransactionDone acked data pec s sent
  | .sbPollWrite h n w => Sys2Proof.Machine.execSbPollWrite h n w s
  | .sbEnable h w => Sys2Proof.Machine.execSbEnable h w s
  | .sbDisable h w sent => Sys2Proof.Machine.execSbDisable h w s sent
  | .perfRun h w => Sys2Proof.Machine.execPerfRun h w s
  | .perfClr h w => Sys2Proof.Machine.execPerfClr h w s
  | .perfOvfClear h w => Sys2Proof.Machine.execPerfOvfClear h w s
  | .perfCtrRead h n => Sys2Proof.Machine.execPerfCtrRead h n s
  | .perfWrap n => Sys2Proof.Machine.execPerfWrap n s
  | .bandwidthWindowEnd => Sys2Proof.Machine.execBandwidthWindowEnd s
  | .powerOnReset vcoreLost => Sys2Proof.Machine.execPowerOnReset vcoreLost s
  | .resetn => Sys2Proof.Machine.execResetn s
  | .testen level => Sys2Proof.Machine.execTesten level s
  | .resetRelease straps trimOk collectorOk flashOk lock => Sys2Proof.Machine.execResetRelease straps trimOk collectorOk flashOk s lock
  | .bootEnd ticks powerLow => Sys2Proof.Machine.execBootEnd ticks s powerLow
  | .devGo h => Sys2Proof.Machine.execDevGo h s
  | .devIdle h => Sys2Proof.Machine.execDevIdle h s
  | .devSoftReset h key => Sys2Proof.Machine.execDevSoftReset h key s
  | .registerWrite h addr w => Sys2Proof.Machine.execRegisterWrite h addr w s
  | .freeRunningConversion p code => Sys2Proof.Machine.execFreeRunningConversion p code s
  | .boundaryScan op => Sys2Proof.Machine.execBoundaryScan op s

end Sys2Proof.Machine
end

