-- ==== Sys2Proof/Safety.lean ====
section
/-! DEFINITION. Safety.lean: what the statements call a good state and a frame, in terms a reader of the spec knows. -/

namespace Sys2Proof

/-- The commands that are one write of a host: the host, the register's address (page × 256 + offset, R436) and the word. -/
def Instr.asWrite : Instr → Option (Fin 3 × Nat × Word)
  | .phCfgWrite h p w => some (h, (0x20 + p.val) * 256 + 0x08, w)
  | .railCfgWrite h r w => some (h, (0x10 + r.val) * 256 + 0x08, w)
  | .baseRegisterWrite h (.railVbaseMv r) w => some (h, (0x10 + r.val) * 256 + 0x0B, w)
  | .baseRegisterWrite h (.railVscale r) w => some (h, (0x10 + r.val) * 256 + 0x0C, w)
  | .baseRegisterWrite h (.railIbaseMa r) w => some (h, (0x10 + r.val) * 256 + 0x0D, w)
  | .baseRegisterWrite h (.phIbaseMa p) w => some (h, (0x20 + p.val) * 256 + 0x09, w)
  | .baseRegisterWrite h (.phIscale p) w => some (h, (0x20 + p.val) * 256 + 0x0A, w)
  | .captureArm h => some (h, 0x0D43, 1)
  | .captureRelease h => some (h, 0x0D43, 0)
  | .phLoad h p => some (h, (0x20 + p.val) * 256 + 0x1E, 1)
  | .phPerWrite h p w => some (h, (0x20 + p.val) * 256 + 0x1A, w)
  | .phCmpWrite h p w => some (h, (0x20 + p.val) * 256 + 0x1B, w)
  | .phDtWrite h p w => some (h, (0x20 + p.val) * 256 + 0x1C, w)
  | .phOfsWrite h p w => some (h, (0x20 + p.val) * 256 + 0x1D, w)
  | .phEnable h p m => some (h, (0x20 + p.val) * 256 + 0x18, BitVec.ofNat 32 (m.toNat * 16777216 + 1))
  | .phDisable h p m => some (h, (0x20 + p.val) * 256 + 0x18, BitVec.ofNat 32 (m.toNat * 16777216))
  | .tripClr h w => some (h, 0x0F3A, w)
  | .rcompCommit h r luten => some (h, (0x50 + r.val) * 256 + 0x08, if luten then 3 else 1)
  | .engineHalt h => some (h, 0x0E10, 1)
  | .engineRelease h => some (h, 0x0E10, 0)
  | .engClearOverrun h => some (h, 0x0E0F, 4)
  | .engClearLatency h => some (h, 0x0E0F, 2)
  | .engClearPeak h => some (h, 0x0E0F, 1)
  | .railSrcWrite h r w => some (h, (0x10 + r.val) * 256 + 0x21, w)
  | .railStart h r => some (h, (0x10 + r.val) * 256 + 0x28, 1)
  | .railStop h r => some (h, (0x10 + r.val) * 256 + 0x28, 2)
  | .railClr h r => some (h, (0x10 + r.val) * 256 + 0x28, 4)
  | .domainStart h d => some (h, 0x0710, BitVec.ofNat 32 (2 ^ d.val))
  | .domainStop h d => some (h, 0x0710, BitVec.ofNat 32 (2 ^ (d.val + 4)))
  | .rtabEntryWrite h r j w => some (h, (0x60 + r.val) * 256 + 0x08 + j.val, w)
  | .rtabZero h r freeze learn => some (h, (0x60 + r.val) * 256 + 0x89, BitVec.ofNat 32 (4 + 2 * freeze.toNat + learn.toNat))
  | .cupStart h => some (h, 0x0C11, 1)
  | .cupStop h => some (h, 0x0C11, 2)
  | .cupArst h => some (h, 0x0C11, 4)
  | .cupRel h => some (h, 0x0C11, 8)
  | .fcLatClear h k w => some (h, 0x0320 + k.val, w)
  | .fcClrfirst h => some (h, 0x030E, 1)
  | .fcExit h => some (h, 0x030E, 2)
  | .faultInject h pg w => some (h, pg.toNat * 256 + 0x05, w)
  | .twinHandover h => some (h, 0x090B, 1)
  | .twinPrst h => some (h, 0x090B, 2)
  | .twinRejoin h => some (h, 0x090B, 4)
  | .nvRead h => some (h, 0x060A, 1)
  | .nvProg h => some (h, 0x060A, 2)
  | .nvErase h => some (h, 0x060A, 3)
  | .nvAppend h => some (h, 0x060A, 4)
  | .nvFind h => some (h, 0x060A, 5)
  | .nvFindseq h => some (h, 0x060A, 6)
  | .hostErrclr h => some (h, 0x020D, 1)
  | .hostFrmclr h => some (h, 0x0215, 1)
  | .pgAclWrite h pg w => some (h, pg.toNat * 256 + 0x06, w)
  | .pageSelWrite h pg w => some (h, pg.toNat * 256 + 0xFF, w)
  | .pageLock h pg => some (h, pg.toNat * 256 + 0x01, 0x80000000)
  | .pageUnlock h pg => some (h, pg.toNat * 256 + 0x01, 0)
  | .pgEvtClear h pg w => some (h, pg.toNat * 256 + 0x03, w)
  | .sbHostTransaction h w => some (h, 0x080B, w)
  | .sbPollWrite h n w => some (h, 0x0840 + n.val, w)
  | .sbEnable h w => some (h, 0x0808, Machine.setFld w 31 31 1)
  | .sbDisable h w _ => some (h, 0x0808, Machine.setFld w 31 31 0)
  | .perfRun h w => some (h, 0x0508, w)
  | .perfClr h w => some (h, 0x0509, w)
  | .perfOvfClear h w => some (h, 0x050A, w)
  | .devGo h => some (h, 0x0009, 1)
  | .devIdle h => some (h, 0x0009, 2)
  | .devSoftReset h key => some (h, 0x0009, BitVec.ofNat 32 (key.toNat * 16777216 + 4))
  | .registerWrite h a w => some (h, a.toNat, w)
  | _ => none

/-- The state in which the access of a write row is carried out: it has begun, and SB_DISABLE has counted what its bus transfer sent. -/
def Instr.before (c : Instr) (h : Fin 3) (s : Machine.State) : Machine.State :=
  match c with
  | .sbDisable _ _ sent => Machine.clocked (Machine.wireBytes sent) (s.begin h)
  | _ => s.begin h

/-- The offsets of a page at which a write does more than set fields (R436): a command, a clearing write, a register of every host's own,
or one that configures a unit that runs. -/
def actingOffs (pg : Nat) : List Nat :=
  if pg = 0x02 then [0x0D, 0x15] else if pg = 0x03 then [0x0E, 0x13] else if pg = 0x05 then [0x08, 0x09, 0x0A] else if pg = 0x06 then [0x0A]
  else if pg = 0x07 then [0x10] else if pg = 0x08 then 0x08 :: 0x0B :: (List.range 64).map (0x40 + ·) else if pg = 0x09 then [0x08, 0x0B]
  else if pg = 0x0C then [0x0E, 0x0F, 0x11] else if pg = 0x0D then [0x43] else if pg = 0x0E then [0x0F, 0x10] else if pg = 0x0F then [0x3A]
  else if 0x10 ≤ pg ∧ pg < 0x20 then [0x08, 0x10, 0x28, 0x49, 0x4A, 0x4C] else if 0x20 ≤ pg ∧ pg < 0x50 then [0x08, 0x18, 0x1A, 0x1E]
  else if 0x50 ≤ pg ∧ pg < 0x60 then [0x08] else if 0x60 ≤ pg ∧ pg < 0x70 then (List.range 0x80).map (0x08 + ·) ++ [0x89]
  else if pg = 0x71 then [0x08] else []

/-- A register whose write only sets its fields. -/
def plainReg (a : Nat) : Bool :=
  decide (1 ≤ a / 256) && decide (a / 256 < 0x72) && decide (8 ≤ a % 256) && a % 256 != 0xFF && !(actingOffs (a / 256)).contains (a % 256)

/-- The write rows whose whole effect is the fields of their register. -/
def Instr.FieldsOnly (s : Machine.State) : Instr → Prop
  | .baseRegisterWrite _ _ _ | .phCmpWrite _ _ _ | .phOfsWrite _ _ _ | .phDtWrite _ _ _ | .railSrcWrite _ _ _ | .perfRun _ _ => True
  | .phPerWrite _ p _ => Machine.railBusy s p = false
  | .registerWrite _ a _ => plainReg a.toNat = true
  | _ => False

/-- The commands that act though a reset is asserted or the derived clocks stand: the losses and the return of the clocks, the
resets and their release, the test port, and the ends of frames and transfers on the host ports' pins. -/
def Instr.Unclocked : Instr → Bool
  | .referenceLoss | .pllUnlock | .pllRelock | .powerOnReset _ | .resetn | .testen _ | .twinCommandedReset
  | .resetRelease _ _ _ _ _ | .boundaryScan _ | .spiFrameBegin _ _ _ | .spiFrameEnd _ _ | .hpcPointerSet _ | .hpcRegisterRead _ _
  | .hpcTransferEnd _ _ | .hpcSclTimeout _ => true
  | _ => false

end Sys2Proof

namespace Sys2Proof.Machine

/-! ### Good states -/

/-- The stores keep their canonical form: registers (R422) and flash (R329). -/
abbrev State.StoresWf (s : State) : Prop := swf defaultWord s.bank ∧ swf erasedByte s.nv.flash

/-- Both outputs of every phase are in high impedance (R412), and no DRVEN is driven high (R25); unless the test port has taken the output
balls (R452). -/
abbrev State.Quiet (s : State) : Prop := scanned s = false → ∀ p < 48, pins s p = (.hiZ, .hiZ)
abbrev State.NoDrive (s : State) : Prop := ∀ k < 4, drvHigh s k = false

/-- LOCKED, or a BOOT that must end in LOCKED (R295, R411, R419). -/
abbrev State.Locking (s : State) : Prop := s.dev.st = .locked ∨ (s.dev.st = .boot ∧ s.dev.lockAtEnd = true)

/-- No reset is asserted and the derived clocks run. -/
abbrev State.Runs (s : State) : Prop := s.dev.rst = false ∧ s.dev.clkStop = false

/-- `Runs`, and BOOT is over: converters, ports, link and stage bus work (R74, R360). -/
abbrev State.Works (s : State) : Prop := s.Runs ∧ s.dev.st ≠ .boot

/-- The port of host `h` is served (R360), and the checks of R376 accept a write of `w` to register `a`. -/
abbrev State.Takes (s : State) (h : Fin 3) (a : Nat) (w : Word) : Prop := s.Works ∧ writeCode s h a w = Err.OK

/-- The port of host `h` is served, and a write of `w` to register `a` meets the checks 1 to 6 of R376, finds the page unlocked and
names no reserved bit: only the register's own checks are left (R376, R430, R431). -/
abbrev State.Asks (s : State) (h : Fin 3) (a : Nat) (w : Word) : Prop :=
  s.Works ∧ mayWrite s h (a / 256) (a % 256) w = true ∧ isStandby s = false ∧ s.dev.st ≠ .locked ∧
  bit (s.pg (a / 256) Reg.PG_CTL) 31 = false ∧ w &&& BitVec.ofNat 32 (((regRow a).map (·.resv)).getD 0) = 0

/-- The engine serves update `q`, of a context of rail `r` that is active, reads no word that fails parity, and meets no pending
commit (R140, R159, R165). -/
abbrev State.Serves (s : State) (q : QItem) (r : Nat) : Prop :=
  s.Runs ∧ s.eng.haltReq = false ∧ pickUpdate s.eng.queue = some q ∧ ctxRail s q.ctx = some r ∧ ctxActive s q.ctx = true ∧
  s.eng.parity.contains q.ctx = false ∧ (s.rail r).bankErr = false ∧ (s.rail r).pend = false

/-- Phase `p` may be assigned to rail `n` (none from 16 on): its present rail and the rail named are in OFF, and its generator is
disabled (R34). -/
abbrev State.MayAssign (s : State) (p n : Nat) : Prop :=
  (∀ r < 16, railOf s p = some r → inOff s r = true) ∧ (n < 16 → inOff s n = true) ∧ enOf s p = false

/-- Rail `n` has 24 phases beside `p` (R34). -/
abbrev State.FullFor (s : State) (p n : Nat) : Prop := n < 16 ∧ 24 ≤ ((phasesOf s n).filter (· != p)).length

/-- The rails go by their own machines: no partner's states are followed (R309). -/
abbrev State.OwnRails (s : State) : Prop := twinOn s = false ∨ follows s = false ∨ s.twin.rstate = []

/-- The same of a read. -/
abbrev State.Reads (s : State) (h : Fin 3) (a : Nat) : Prop := s.Works ∧ readCode s h a = Err.OK

/-! ### What a state shows -/

/-- A real message of a source waits for the arbiter (R271): kind 0 EVENT, 1 SET, 2 CLEAR. -/
abbrev State.Waits (t : State) (src kind addr : Nat) : Prop :=
  ∃ m ∈ t.fc.pend, m.src = src ∧ m.kind = kind ∧ m.addr = addr ∧ m.real = true

/-- An output is high `n` FINE after its period began; one in high impedance at the head counts as high. -/
def Pin.HighAt (x : Pin) (n : Nat) : Prop := ∃ y ∈ x.pulses, y.1.getD 0 ≤ n ∧ ∀ f, y.2 = some f → n < f

/-- Phase `p` holds the complete set for an energy duty `d`, with its load, and its compare register the compare (R125, R153). -/
def State.Emits (t s : State) (p : Nat) (boost : Bool) (d : Rat) : Prop :=
  (t.ph p).duty = d ∧ fld (t.pr p 0x1B) 21 0 = cmpOf boost d (shadowSet s p).per ∧ (t.ph p).newOfs = none ∧
  (t.ph p).gen = { (s.ph p).gen with
    hold := (t.ph p).gen.hold, cut := (t.ph p).gen.cut
    eset := some { shadowSet s p with cmp := cmpOf boost d (shadowSet s p).per, ofs := (s.ph p).newOfs.getD (shadowSet s p).ofs } }

/-- A source stands at an address (R272). -/
abbrev State.Stands (t : State) (src addr : Nat) : Prop := (src, addr) ∈ t.fc.stand

/-- `t` stands right after a reset from a cause was asserted in `s` (R411, R412, R421). -/
abbrev State.AfterReset (t s : State) (cause : Nat) : Prop :=
  t.dev.st = .boot ∧ t.dev.rst = true ∧ t.dev.cause = cause ∧ t.Quiet ∧ (∀ k, t.reg k = defaultWord k) ∧
  t.fc = Fc.init ∧ t.rails = State.reset.rails ∧ t.phases = State.reset.phases ∧ t.eng = Eng.init ∧ t.twin = Twin.init ∧
  t.dev.frame = 0 ∧ t.pending = s.pending ∧ (s.nv.cur = none → t.nv.flash = s.nv.flash)

/-! ### Frames: `s` with the parts a command may move taken from `t` -/

/-- What beginning a command moves (the counts of commands and cycles, and what the performance unit has seen), and messages that wait. A
command that acts at an instant of its own, given in CNT since reset, begins at it (`due`). -/
def State.msgs (s t : State) (due : Option Nat := none) : State := { s.begin none due with fc := { s.fc with pend := t.fc.pend } }

/-- What beginning a command moves, messages that wait, and what stands. -/
def State.conds (s t : State) (due : Option Nat := none) : State :=
  { s.begin none due with fc := { s.fc with pend := t.fc.pend, stand := t.fc.stand } }

/-- What every accepted access of a host may move: the counts of commands and cycles, registers, performance counters (R404), the
remembered read of PG_ID (R425), writes queued for a standby (R310) and the place of the copy to it (R314). -/
def State.wrote (s t : State) : State :=
  { s.begin with bank := t.bank, clk := t.clk, perf := t.perf, ports := { s.ports with idRead := t.ports.idRead }
                 twin := { s.twin with wrq := t.twin.wrq, copied := t.twin.copied } }

/-- The performance counters after an accepted write of host `h`: the cycles since the command before it have passed, and the port's access
is counted; a counter that the write starts, stops or clears takes no part in its cycle (R398, R402, R404). -/
def State.counted (s : State) (h : Fin 3) (a : Nat) (w : Word) : Perf := (Machine.perf 0x30 h 1 (skipNamed a w (s.begin h))).perf

/-- Counters that do not run hold their values. -/
abbrev IdleCountersHold (s t : State) : Prop := ∀ n < 32, bit (s.reg 0x0508) n = false → t.perf.ctr.getD n 0 = s.perf.ctr.getD n 0

/-- What taking a rail to OFF may move beside that, and what every accepted access may move: rails and their phases at rest,
queued updates, an injection and its buffer, messages and what stands. -/
def State.rested (s t : State) : State :=
  { s.wrote t with rails := t.rails, phases := t.phases, eng := { s.eng with queue := t.eng.queue }, cup := t.cup, capt := t.capt
                   fc := { s.fc with pend := t.fc.pend, stand := t.fc.stand } }

/-- Registers other than those listed hold the same words. -/
abbrev SameRegs (ks : List Nat) (s t : State) : Prop := ∀ k, k ∉ ks → t.reg k = s.reg k

/-- Rails, phases, domains other than the one named are the same. -/
abbrev OtherRails (r : Nat) (s t : State) : Prop := ∀ q, q ≠ r → t.rail q = s.rail q
abbrev OtherPhases (p : Nat) (s t : State) : Prop := ∀ q, q ≠ p → t.ph q = s.ph q

end Sys2Proof.Machine
end

