-- ==== Sys2Proof/Certificates/Slice0/Obligations.lean ====
section
/-! DEFINITION. Certificates/Slice0/Obligations.lean: the statements for the provers. Each is about every state unless it says
otherwise; addresses are page * 256 + offset (R436). -/

open Sys2Proof Sys2Proof.Machine

/-- For every command c and state s, a step of s with c at the front of its queue is exec of c on s with the rest of the queue.
With no command waiting a step answers the same state: that nothing happens without a command is the model's choice (log entry
1), time passes in FRAME_TICK and in the event rows. (95_what_each_step_holds.md) -/
def Obligations.StepTakesTheFront : Prop :=
  (∀ (c : Instr) (q : List Instr) (s : State), step { s with pending := c :: q } = exec c { s with pending := q }) ∧
  (∀ s : State, s.pending = [] → step s = .next s)

/-- From every state every command answers a next state (no command faults and none is refused); the commands that wait behind it
stay as they are, resets included, and the model's own command counter has advanced by one. (95_what_each_step_holds.md,
18_startup_reset_states.md) -/
def Obligations.EveryCommandAnswersAndKeepsTheQueue : Prop :=
  ∀ (c : Instr) (s : State), ∃ t, exec c s = .next t ∧ t.pending = s.pending ∧ t.cyc = s.cyc + 1

/-- In every state whose register store and flash array list strictly rising keys and no value that an unlisted key reads as, a
step leads to a state of the same kind. (R422, R329, 19_register_pages.md) -/
def Obligations.StoresStayCanonical : Prop :=
  ∀ s t : State, s.StoresWf → step s = .next t → t.StoresWf

/-- At State.reset both stores are in canonical form, no command waits, the test port has not taken the output balls, both outputs
of all 48 phases are in high impedance (R412) and no DRVEN is driven. (R421) -/
def Obligations.StoresCanonicalAtReset : Prop :=
  State.reset.StoresWf ∧ State.reset.pending = [] ∧ scanned State.reset = false ∧ State.reset.Quiet ∧ State.reset.NoDrive

/-- From a state that is LOCKED, or in a BOOT that must end in LOCKED, every command but a power-on reset with loss of VCORE leads
to a state of the same kind: RESETn, a soft reset and a twin-commanded reset leave the device in LOCKED, and after a power-on
reset in which VCORE stayed up BOOT ends in LOCKED. (R295) -/
def Obligations.OnlyAPowerCycleLeavesLocked : Prop :=
  (∀ (c : Instr) (s t : State), s.Locking → c ≠ .powerOnReset true → exec c s = .next t → t.Locking) ∧
  (∀ s t : State, s.dev.st = .locked → exec .resetn s = .next t → t.dev.st = .locked) ∧
  (∀ s t : State, s.dev.st = .locked → exec .twinCommandedReset s = .next t → t.dev.st = .locked) ∧
  (∀ (h : Fin 3) (k : BitVec 8) (s t : State), s.dev.st = .locked → exec (.devSoftReset h k) s = .next t →
    t.dev.st = .locked)

/-- In every state in which a reset is asserted, the clocks stand or the device is in BOOT, IDLE, STANDBY, SAFE or LOCKED, both
outputs of every phase are in high impedance and every DRVENk is, unless the test port has taken the output balls; the device
itself then drives no DRVEN (DOM_DRVSTS). Where EXTEST or CLAMP runs with TESTEN high, outputs, DRVEN, ALIVE and the interrupt
pins show what the boundary register holds them at, in every state, and under HIGHZ they are in high impedance: which cell
drives which ball is the model's choice (log entry 16), and that the scan wins over the generators too (log entry 107). (R26,
R412, R418, R126, R452) -/
def Obligations.NothingDrivesOutsideActive : Prop :=
  (∀ s : State, s.dev.rst = true ∨ s.dev.clkStop = true ∨ s.dev.st ≠ .active →
    s.Quiet ∧ s.NoDrive ∧ (scanned s = false → ∀ k < 4, drvPin s k = .hiZ)) ∧
  (∀ s : State, s.dev.testen = true → s.dev.tap = .extest ∨ s.dev.tap = .clamp →
    (∀ p < 48, pins s p = (scanPin (testBall s p), scanPin (testBall s (48 + p)))) ∧
    (∀ k < 4, drvPin s k = testBall s (96 + k)) ∧ alivePin s = testBall s 100 ∧ ∀ h < 3, irqBall s h = testBall s (101 + h)) ∧
  (∀ s : State, s.dev.testen = true → s.dev.tap = .highz →
    (∀ p < 48, pins s p = (.hiZ, .hiZ)) ∧ (∀ k < 4, drvPin s k = .hiZ) ∧ alivePin s = .hiZ ∧ ∀ h < 3, irqBall s h = .hiZ)

/-- Each of the write rows writes the register R436 gives it with the word the row stands for: while the host's port is served (no
reset, clocks running, BOOT over) the write is applied when its check code is OK and else rejected with that code; while it is
not served, nothing happens. SB_DISABLE first counts the bytes that the transfer it cuts has completed. (R376, R360, R436) -/
def Obligations.HostRowsAreAccesses : Prop :=
  ∀ (c : Instr) (h : Fin 3) (a : Nat) (w : Word) (s : State), c.asWrite = some (h, a, w) →
    exec c s = .next
      (if s.Works then
        (if writeCode s h a w = Err.OK then acceptWrite h a w (c.before h s) else reject h a (writeCode s h a w) (c.before h s))
       else c.before h s)

/-- Each write row that the checks reject with a code leaves every register but PG_EVT of the HOST page, and every other part of
the state, as it was, but that beginning a command counts it and the cycles before it (log entry 72) and that the performance
counters count the rejection; the host's HOST_ERR register takes the code, the address and a count that saturates at 255; the
host's bit of that PG_EVT is set, and HOST_REJECT with ADDR = host × 0x400 + code waits beside, or merged into, the messages
that waited before. (R377, R376, R432) -/
def Obligations.RejectedWriteIsOnlyRecorded : Prop :=
  ∀ (c : Instr) (h : Fin 3) (a : Nat) (w : Word) (e : Nat) (s : State), c.asWrite = some (h, a, w) → s.StoresWf → s.Works →
    writeCode s h a w = e → e ≠ Err.OK →
    ∃ t, exec c s = .next t ∧
      t.perf = (perf 0x31 h 1 (c.before h s)).perf ∧ t.fc.pend = (event 0x80 (1024 * h + e) (s.begin h)).fc.pend ∧
      t = { s.begin h with bank := t.bank, perf := t.perf, fc := { s.fc with pend := t.fc.pend }
                           ports := { s.ports with err := s.ports.err.set h ⟨e, satInc 255 (s.ports.err.getD h ⟨0, 0, 0⟩).cnt, a⟩ } } ∧
      SameRegs [0x0203] s t ∧ t.reg 0x0203 = (s.reg 0x0203 ||| BitVec.ofNat 32 (2 ^ h.val)) ∧ t.Waits 0x80 0 (1024 * h + e)

/-- For BASE_REGISTER_WRITE, PH_CMP_WRITE, PH_OFS_WRITE, PH_DT_WRITE, RAIL_SRC_WRITE, PERF_RUN, PH_PER_WRITE of a phase whose rail
is not out of OFF, and REGISTER_WRITE to every register of the map from offset 8 on that is no command, no clearing write, no
host's own and does not act on a running unit (the offsets that act are listed with `actingOffs`): an accepted write leaves
the register's RW and RWL bits as written, every other register as it was, and nothing else moves but what every accepted
access may move. The performance counters are those of the cycles that have passed with the access counted, where a counter
that the write starts or stops takes no part in its cycle (R402; how many cycles pass between two commands is the model's free
number, log entry 72); a counter whose RUN bit is 0 holds its value. (R430, R124, R119, R125, R41, R167, R402, R436, R398,
R404) -/
def Obligations.AcceptedFieldsReadAsWritten : Prop :=
  ∀ (c : Instr) (h : Fin 3) (a : Nat) (w : Word) (row : RegRow) (s : State), c.asWrite = some (h, a, w) → c.FieldsOnly s →
    regRow a = some row → s.StoresWf → s.Takes h a w →
    ∃ t, exec c s = .next t ∧ t = s.wrote t ∧ SameRegs [a] s t ∧ t.reg a &&& row.rwBits = w &&& row.rwBits ∧
      t.perf = s.counted h a w ∧ IdleCountersHold s t

/-- A PH_CFG_WRITE is accepted only when the phase's present rail, if any, and the rail named, if any, are in OFF (no start
pending) and PH_CTL.EN = 0, and the rail named has fewer than 24 other phases. A write that meets the checks before the
register's own is rejected with STATE where one of the first conditions fails and the rail named has room, with RANGE where
only that rail has no room for a 25th phase, and is accepted otherwise (a write that fails both is rejected too; with which
code R34 does not say, log entry 19): then the phase has the rail named. On rejection the assignment of every phase is
unchanged. (R34) -/
def Obligations.AssignmentIsGuarded : Prop :=
  (∀ (h : Fin 3) (p : Fin 48) (w : Word) (s : State), s.Takes h ((0x20 + p.val) * 256 + 0x08) w →
    s.MayAssign p (fld w 4 0) ∧ ¬ s.FullFor p (fld w 4 0)) ∧
  (∀ (h : Fin 3) (p : Fin 48) (w : Word) (s : State), s.StoresWf → s.Asks h ((0x20 + p.val) * 256 + 0x08) w →
    fld w 4 0 < 16 ∨ fld w 4 0 = 31 → ¬ s.MayAssign p (fld w 4 0) → ¬ s.FullFor p (fld w 4 0) →
    ∃ t, exec (.phCfgWrite h p w) s = .next t ∧ t.ports.err = s.ports.err.set h ⟨Err.STATE, satInc 255 (s.ports.err.getD h ⟨0, 0, 0⟩).cnt,
      (0x20 + p.val) * 256 + 0x08⟩ ∧ ∀ q < 48, railOf t q = railOf s q) ∧
  (∀ (h : Fin 3) (p : Fin 48) (w : Word) (s : State), s.StoresWf → s.Asks h ((0x20 + p.val) * 256 + 0x08) w →
    s.MayAssign p (fld w 4 0) → s.FullFor p (fld w 4 0) →
    ∃ t, exec (.phCfgWrite h p w) s = .next t ∧ t.ports.err = s.ports.err.set h ⟨Err.RANGE, satInc 255 (s.ports.err.getD h ⟨0, 0, 0⟩).cnt,
      (0x20 + p.val) * 256 + 0x08⟩ ∧ ∀ q < 48, railOf t q = railOf s q) ∧
  (∀ (h : Fin 3) (p : Fin 48) (w : Word) (s : State), s.StoresWf → s.Asks h ((0x20 + p.val) * 256 + 0x08) w →
    fld w 4 0 < 16 ∨ fld w 4 0 = 31 → s.MayAssign p (fld w 4 0) → ¬ s.FullFor p (fld w 4 0) →
    ∃ t, exec (.phCfgWrite h p w) s = .next t ∧ railOf t p = (if fld w 4 0 < 16 then some (fld w 4 0) else none) ∧
      ∀ q < 48, q ≠ p.val → railOf t q = railOf s q) ∧
  (∀ (h : Fin 3) (p : Fin 48) (w : Word) (s : State), s.StoresWf → s.Works →
    writeCode s h ((0x20 + p.val) * 256 + 0x08) w ≠ Err.OK →
    ∃ t, exec (.phCfgWrite h p w) s = .next t ∧ ∀ q < 48, railOf t q = railOf s q)

/-- An accepted PH_CFG_WRITE gives the phase the rail of bits 4 to 0 (none at 0x1F) and the domain of bits 9 to 8, and the
condition NONE; RAIL_CFG_WRITE gives the rail the topology, structure, quantity, domain, fault scope and feed-forward source
of the word, and whether its feed-forward is lost follows. PH_PER_WRITE of a phase of a rail out of OFF gives every assigned
phase that period, and each ACTIVE phase of a running rail an offset of the re-spread for its next set (log entry 38).
REGISTER_WRITE: RAIL_VSAMP of a rail out of OFF, FAULTED and LOCKED sets each N to the smallest for which the trigger rate
divided by it does not exceed the maximum, where its running phases switch at one period; RAIL_VLIM and RAIL_XLIM end a limit
that they disable, with its count; RAIL_THCFG.EN = 0 ends the thermal sources (the model's choice, log entry 66); TWIN_CFG.EN
= 0 makes a paired device SOLO and ends what the link raised (R301 gives SOLO only; that the link's conditions end is the
model's reading, log entry 94); CUP_ADMIN and CUP_ADMAX take effect at the next CUP_START or update (they are marked new); a
change of GANG_CFG.EN or ROLE starts the gang unit afresh (R325 is silent; the model's choice, log entry 104); FC_LOGSEL and
PG_EVTEN set the writing host's own copy; a RCOMP_CTL without COMMIT and a RTAB_CTL without ZERO only set their fields. Every
other register, phase, rail and part of the state is unchanged, but what every accepted access may move. (R34, R20, R11, R23,
R125, R139, R244, R246, R301, R325, R284, R428) -/
def Obligations.ActingRegisterWrites : Prop :=
  (∀ (h : Fin 3) (p : Fin 48) (w : Word) (s : State), s.StoresWf → s.Takes h ((0x20 + p.val) * 256 + 0x08) w →
    ∃ t, exec (.phCfgWrite h p w) s = .next t ∧ t = { s.wrote t with phases := t.phases } ∧
      SameRegs [(0x20 + p.val) * 256 + 0x08] s t ∧
      railOf t p = (if fld w 4 0 < 16 then some (fld w 4 0) else none) ∧ fld (t.pr p 0x08) 9 8 = fld w 9 8 ∧
      (∀ q, q ≠ p.val → railOf t q = railOf s q) ∧ t.ph p = { s.ph p with pst := .none } ∧ OtherPhases p s t) ∧
  (∀ (h : Fin 3) (r : Fin 16) (w : Word) (s : State), s.StoresWf → s.Takes h ((0x10 + r.val) * 256 + 0x08) w →
    ∃ t, exec (.railCfgWrite h r w) s = .next t ∧ t = { s.wrote t with rails := t.rails } ∧
      SameRegs [(0x10 + r.val) * 256 + 0x08] s t ∧
      topo t r = fld w 1 0 ∧ cascade t r = bit w 2 ∧ qtyInv t r = bit w 3 ∧ domOf t r = fld w 5 4 ∧ fscope t r = bit w 6 ∧
      ffsrc t r = fld w 13 8 ∧ t.rail r = { s.rail r with ffLost := ffFailed t r } ∧ OtherRails r s t) ∧
  (∀ (h : Fin 3) (p : Fin 48) (r : Nat) (w : Word) (s : State), s.StoresWf → s.Takes h ((0x20 + p.val) * 256 + 0x1A) w →
    railOf s p = some r → outOfOff s r = true →
    ∃ t, exec (.phPerWrite h p w) s = .next t ∧ t = { s.wrote t with phases := t.phases } ∧
      SameRegs ((phasesOf s r).map fun q => (0x20 + q) * 256 + 0x1A) s t ∧
      (∀ q ∈ phasesOf s r, fld (t.pr q 0x1A) 15 0 = fld w 15 0) ∧
      (∀ q < 48, t.ph q = { s.ph q with newOfs := (t.ph q).newOfs }) ∧
      ((s.rail r).st.running = false → t.phases = s.phases) ∧
      ((s.rail r).st.running = true → ∀ (k q : Nat), (activeOf s r)[k]? = some q →
        (t.ph q).newOfs = some (rankOfs t r k (activeOf s r).length))) ∧
  (∀ (h : Fin 3) (r : Fin 16) (w : Word) (s : State), s.StoresWf → s.Takes h ((0x10 + r.val) * 256 + 0x10) w →
    ∃ t, exec (.registerWrite h (BitVec.ofNat 16 ((0x10 + r.val) * 256 + 0x10)) w) s = .next t ∧ t = { s.wrote t with rails := t.rails } ∧
      SameRegs [(0x10 + r.val) * 256 + 0x10] s t ∧ vrate t r = 2 ^ fld w 25 24 ∧ OtherRails r s t ∧
      ((s.rail r).st.stopped = true → t.rails = s.rails) ∧
      t.rail r = { s.rail r with nOut := (t.rail r).nOut, nCur := (t.rail r).nCur, nBal := (t.rail r).nBal } ∧
      ∀ per, 0 < per → (s.rail r).st.stopped = false → (∃ p ∈ activeOf s r, (s.ph p).gen.going = true) →
        (∀ p ∈ activeOf s r, (s.ph p).gen.going = true → (s.ph p).gen.act.per = per) →
        ∀ (mult max n : Nat), (mult, max, n) ∈ [(2 ^ fld w 25 24, 200000, (t.rail r).nOut), (1, 1000000, (t.rail r).nCur),
            (1, 200000, (t.rail r).nBal)] →
          1 ≤ n ∧ mult * 400000000 ≤ per * max * n ∧ ∀ m, 1 ≤ m → mult * 400000000 ≤ per * max * m → n ≤ m) ∧
  (∀ (h : Fin 3) (r : Fin 16) (x : Bool) (w : Word) (s : State), s.StoresWf →
    s.Takes h ((0x10 + r.val) * 256 + if x then 0x4A else 0x49) w →
    ∃ t, exec (.registerWrite h (BitVec.ofNat 16 ((0x10 + r.val) * 256 + if x then 0x4A else 0x49)) w) s = .next t ∧
      t = { s.wrote t with rails := t.rails, fc := { s.fc with pend := t.fc.pend, stand := t.fc.stand } } ∧
      SameRegs [(0x10 + r.val) * 256 + if x then 0x4A else 0x49] s t ∧ OtherRails r s t ∧
      (fld w 31 16 = 0xFFFF → ¬ t.Stands (if x then 0x10 else 0x13) r ∧ (if x then (t.rail r).xov else (t.rail r).ov) = Cond.init) ∧
      (fld w 15 0 = 0 → ¬ t.Stands (if x then 0x11 else 0x14) r ∧ (if x then (t.rail r).xuv else (t.rail r).uv) = Cond.init) ∧
      (fld w 31 16 ≠ 0xFFFF → fld w 15 0 ≠ 0 → t.rails = s.rails ∧ t.fc = s.fc)) ∧
  (∀ (h : Fin 3) (r : Fin 16) (w : Word) (s : State), s.StoresWf → s.Takes h ((0x10 + r.val) * 256 + 0x4C) w →
    ∃ t, exec (.registerWrite h (BitVec.ofNat 16 ((0x10 + r.val) * 256 + 0x4C)) w) s = .next t ∧
      t = { s.wrote t with rails := t.rails, fc := { s.fc with pend := t.fc.pend, stand := t.fc.stand } } ∧
      SameRegs [(0x10 + r.val) * 256 + 0x4C] s t ∧ OtherRails r s t ∧
      (bit w 31 = true → t.rails = s.rails ∧ t.fc = s.fc) ∧
      (bit w 31 = false → ¬ t.Stands 0x1E r ∧ ¬ t.Stands 0x1F r ∧
        t.rail r = { s.rail r with tw := Cond.init, ot := Cond.init, derate := false })) ∧
  (∀ (h : Fin 3) (w : Word) (s : State), s.StoresWf → s.Takes h 0x0908 w →
    ∃ t, exec (.registerWrite h 0x0908 w) s = .next t ∧ SameRegs [0x0908] s t ∧
      (bit (s.reg 0x0908) 31 = false ∨ bit w 31 = true → t = s.wrote t) ∧
      (bit (s.reg 0x0908) 31 = true → bit w 31 = false →
        t = { s.wrote t with twin := t.twin, fc := { s.fc with pend := t.fc.pend, stand := t.fc.stand } } ∧
        t.twin.pst = .solo ∧ t.twin.wrq = [] ∧ t.twin.tx = none ∧ t.twin.loss = 0 ∧ t.twin.rstate = s.twin.rstate ∧
        ∀ k < 2, ¬ t.Stands 0xA0 k ∧ ¬ t.Stands 0xA3 k)) ∧
  (∀ (h : Fin 3) (a : BitVec 16) (w : Word) (s : State), s.StoresWf → a = 0x0C0E ∨ a = 0x0C0F → s.Takes h a.toNat w →
    ∃ t, exec (.registerWrite h a w) s = .next t ∧ SameRegs [a.toNat] s t ∧
      t = { s.wrote t with cup := { s.cup with bndNew := true } }) ∧
  (∀ (h : Fin 3) (w : Word) (s : State), s.StoresWf → s.Takes h 0x7108 w →
    ∃ t, exec (.registerWrite h 0x7108 w) s = .next t ∧ SameRegs [0x7108] s t ∧
      (fld (s.reg 0x7108) 31 30 = fld w 31 30 → t = s.wrote t) ∧
      (fld (s.reg 0x7108) 31 30 ≠ fld w 31 30 → ¬ t.Stands 0xA0 2 ∧
        t = { s.wrote t with gang := Gang.init, fc := { s.fc with pend := t.fc.pend, stand := t.fc.stand } })) ∧
  (∀ (h : Fin 3) (a : BitVec 16) (w : Word) (s : State), s.StoresWf → a = 0x0313 ∨ a.toNat % 256 = 4 → s.Takes h a.toNat w →
    ∃ t, exec (.registerWrite h a w) s = .next t ∧ t = s.wrote t ∧ SameRegs [hostKey h a.toNat] s t ∧ readReg t h a.toNat = w ∧
      ∀ g < 3, g ≠ h.val → readReg t g a.toNat = readReg s g a.toNat) ∧
  (∀ (h : Fin 3) (r : Fin 16) (a : BitVec 16) (w : Word) (row : RegRow) (s : State), s.StoresWf →
    (a.toNat = (0x50 + r.val) * 256 + 0x08 ∧ bit w 0 = false) ∨ (a.toNat = (0x60 + r.val) * 256 + 0x89 ∧ bit w 2 = false) →
    regRow a.toNat = some row → s.Takes h a.toNat w →
    ∃ t, exec (.registerWrite h a w) s = .next t ∧ t = s.wrote t ∧ SameRegs [a.toNat] s t ∧
      t.reg a.toNat &&& row.rwBits = w &&& row.rwBits)

/-- An accepted PG_ACL_WRITE gives every guest host the access of its field (the HOST page keeps 0b01) and the owner keeps full
access; PAGE_SEL_WRITE sets the writing host's own current page; PAGE_LOCK sets LOCK of the page and PAGE_UNLOCK clears it;
PG_EVT_CLEAR clears exactly the flags written 1. No other register and nothing else moves. (R373, R375, R425, R427) -/
def Obligations.PageRegisterWrites : Prop :=
  (∀ (h : Fin 3) (pg : BitVec 8) (w : Word) (s : State), s.StoresWf → s.Takes h (pg.toNat * 256 + 0x06) w →
    ∃ t, exec (.pgAclWrite h pg w) s = .next t ∧ t = s.wrote t ∧ SameRegs [pg.toNat * 256 + 0x06] s t ∧
      ∀ k < 3, accessOf t k pg.toNat =
        if k = owner s then 3 else if pg.toNat = 2 then 1 else fld w (2 * k + 1) (2 * k)) ∧
  (∀ (h : Fin 3) (pg : BitVec 8) (w : Word) (s : State), s.StoresWf → s.Takes h (pg.toNat * 256 + 0xFF) w →
    ∃ t, exec (.pageSelWrite h pg w) s = .next t ∧ t = s.wrote t ∧ SameRegs [hostKey h 0xFF] s t ∧
      t.reg (hostKey h 0xFF) = w) ∧
  (∀ (h : Fin 3) (pg : BitVec 8) (s : State), s.StoresWf → s.Takes h (pg.toNat * 256 + 0x01) 0x80000000 →
    ∃ t, exec (.pageLock h pg) s = .next t ∧ t = s.wrote t ∧ SameRegs [pg.toNat * 256 + 0x01] s t ∧
      bit (t.pg pg.toNat 0x01) 31 = true) ∧
  (∀ (h : Fin 3) (pg : BitVec 8) (s : State), s.StoresWf → s.Takes h (pg.toNat * 256 + 0x01) 0 →
    ∃ t, exec (.pageUnlock h pg) s = .next t ∧ t = s.wrote t ∧ SameRegs [pg.toNat * 256 + 0x01] s t ∧
      bit (t.pg pg.toNat 0x01) 31 = false) ∧
  (∀ (h : Fin 3) (pg : BitVec 8) (w : Word) (s : State), s.StoresWf → s.Takes h (pg.toNat * 256 + 0x03) w →
    ∃ t, exec (.pgEvtClear h pg w) s = .next t ∧ t = s.wrote t ∧ SameRegs [pg.toNat * 256 + 0x03] s t ∧
      t.pg pg.toNat 0x03 = (s.pg pg.toNat 0x03 &&& ~~~ w))

/-- An accepted FC_LAT_CLEAR and PERF_OVF_CLEAR clear exactly the bits written 1; PERF_OVF_CLEAR also takes back a wrap of an
earlier cycle that PERF_WRAP has not flagged yet (OVF of PG_EVT is set for it), and leaves one of its own cycle; FC_CLRFIRST
clears the first-source latch and its overflow count; HOST_ERRCLR clears the writing host's error register and event bit;
HOST_FRMCLR clears the three frame counts; PERF_CLR makes every named counter 0 and leaves every other as the cycles that have
passed and the access itself leave it (R404; the number of cycles is free, log entry 72). The counters are so left by the
other clears too, and one whose RUN bit is 0 holds its value. Nothing else moves. (R285, R286, R377, R378, R401, R402, R404) -/
def Obligations.RecordClears : Prop :=
  (∀ (h : Fin 3) (k : Fin 8) (w : Word) (s : State), s.StoresWf → s.Takes h (0x0320 + k.val) w →
    ∃ t, exec (.fcLatClear h k w) s = .next t ∧ t = s.wrote t ∧ SameRegs [0x0320 + k.val] s t ∧
      t.reg (0x0320 + k.val) = (s.reg (0x0320 + k.val) &&& ~~~ w) ∧ t.perf = s.counted h (0x0320 + k.val) w ∧ IdleCountersHold s t) ∧
  (∀ (h : Fin 3) (w : Word) (s : State), s.StoresWf → s.Takes h 0x050A w →
    ∃ t c, exec (.perfOvfClear h w) s = .next t ∧ c = s.counted h 0x050A w ∧ t = s.wrote t ∧ SameRegs [0x050A, 0x0503] s t ∧
      t.reg 0x050A = (s.reg 0x050A &&& ~~~ w) ∧ t.perf = { c with wrapped := t.perf.wrapped } ∧ IdleCountersHold s t ∧
      (∀ n < 32, t.perf.wrapped.getD n false = (c.wrapped.getD n false && !(bit w n && !c.now.testBit n))) ∧
      t.reg 0x0503 = if ∃ n < 32, bit w n = true ∧ c.wrapped.getD n false = true ∧ c.now.testBit n = false then s.reg 0x0503 ||| 1
        else s.reg 0x0503) ∧
  (∀ (h : Fin 3) (s : State), s.StoresWf → s.Takes h 0x030E 1 →
    ∃ t, exec (.fcClrfirst h) s = .next t ∧ SameRegs [] s t ∧ t.perf = s.counted h 0x030E 1 ∧ IdleCountersHold s t ∧
      t = { s.wrote t with fc := { s.fc with firstHi := 0, firstLo := 0, firstTs := 0, ovf := false, ovfCnt := 0 } }) ∧
  (∀ (h : Fin 3) (s : State), s.StoresWf → s.Takes h 0x020D 1 →
    ∃ t, exec (.hostErrclr h) s = .next t ∧ SameRegs [0x0203] s t ∧ t.perf = s.counted h 0x020D 1 ∧ IdleCountersHold s t ∧
      t.reg 0x0203 = (s.reg 0x0203 &&& ~~~ BitVec.ofNat 32 (2 ^ h.val)) ∧
      t = { s.wrote t with ports := { (s.wrote t).ports with err := s.ports.err.set h ⟨0, 0, 0⟩ } }) ∧
  (∀ (h : Fin 3) (s : State), s.StoresWf → s.Takes h 0x0215 1 →
    ∃ t, exec (.hostFrmclr h) s = .next t ∧ SameRegs [] s t ∧ t.perf = s.counted h 0x0215 1 ∧ IdleCountersHold s t ∧
      t = { s.wrote t with ports := { (s.wrote t).ports with frm := [0, 0, 0] } }) ∧
  (∀ (h : Fin 3) (w : Word) (s : State), s.StoresWf → s.Takes h 0x0509 w →
    ∃ t, exec (.perfClr h w) s = .next t ∧ t = s.wrote t ∧ SameRegs [] s t ∧
      t.perf = { s.counted h 0x0509 w with ctr := t.perf.ctr } ∧
      ∀ n < 32, t.perf.ctr.getD n 0 = if bit w n then 0 else (s.counted h 0x0509 w).ctr.getD n 0)

/-- An accepted DEV_GO puts the device in ACTIVE; each enabled phase without a rail takes as its start the later of the CKB edge
of the acceptance and 2 µs after its domain's DRVEN was last driven high (in which CKB cycle of the frame a command falls is
the model's free number, log entries 34 and 72), a domain whose DRVEN it drives high notes the instant, and nothing else
changes. An accepted DEV_IDLE puts it in IDLE with every rail in OFF, no start pending, every generator at rest, every output
in high impedance and no injection running. An accepted FC_EXIT puts it in IDLE, clears FC_STS.SAFE, returns every FAULTED
rail to OFF with NRST 0 and leaves every other rail's state, sets bit 3 of the FC page's PG_EVT, and FC_EXIT waits with the
host as its ADDR. (R420, R294, R263, R173, R27) -/
def Obligations.DeviceStateCommands : Prop :=
  (∀ (h : Fin 3) (s : State), s.StoresWf → s.Takes h 0x0009 1 →
    ∃ t, exec (.devGo h) s = .next t ∧ SameRegs [] s t ∧
      t = { s.wrote t with dev := { s.dev with st := .active }, phases := t.phases, doms := t.doms } ∧
      (∀ k < 4, t.dom k = if drvHigh t k && !drvHigh s k then { s.dom k with drvRise := edgeCnt (s.begin h) } else s.dom k) ∧
      ∀ p < 48, t.ph p = if (railOf s p).isNone && enOf s p then
          { s.ph p with gen := { (s.ph p).gen with
            ref := some (max (edgeCnt (s.begin h)) ((t.dom (domOfPh s p)).drvRise + 800)) } }
        else s.ph p) ∧
  (∀ (h : Fin 3) (s : State), s.StoresWf → s.Takes h 0x0009 2 →
    ∃ t, exec (.devIdle h) s = .next t ∧ SameRegs [] s t ∧
      t = { s.wrote t with dev := { s.dev with st := .idle }, rails := t.rails, doms := t.doms, phases := t.phases, cup := t.cup
                           capt := t.capt, fc := { s.fc with pend := t.fc.pend } } ∧
      (∀ r < 16, t.rail r = { s.rail r with startPend := false } ∧ inOff t r = true) ∧ t.Quiet ∧ t.cup.run = false ∧
      (∀ p < 48, (t.ph p).gen.going = false) ∧ t.NoDrive) ∧
  (∀ (h : Fin 3) (s : State), s.StoresWf → s.Takes h 0x030E 2 →
    ∃ t, exec (.fcExit h) s = .next t ∧
      t = { s.wrote t with
        dev := { s.dev with st := .idle, safeHold := false, aliveLeft := fld (s.reg 0x030F) 12 0 }
        fc := { s.fc with pend := t.fc.pend, stand := t.fc.stand, safe := false }, phases := t.phases, rails := t.rails
        eng := { s.eng with queue := t.eng.queue }, cup := t.cup, capt := t.capt } ∧
      (∀ r < 16, (s.rail r).st = .faulted → (t.rail r).st = .off ∧ (t.rail r).nrst = 0) ∧
      (∀ r < 16, (s.rail r).st ≠ .faulted → t.rail r = s.rail r) ∧
      bit (t.reg 0x0303) 3 = true ∧ t.Waits 0xF0 0 h)

/-- An accepted FAULT_INJECT raises, for every bit k that is set, a message of the page's source k marked injected, a SET for a
condition source and an EVENT otherwise, at the page's own instance for a rail or phase page and else at the ADDR of
FC_INJADR. What stands, the registers and everything else stay as they were. (R288, R291) -/
def Obligations.FaultInjection : Prop :=
  ∀ (h : Fin 3) (pg : BitVec 8) (w : Word) (ty : PType) (i b n : Nat) (s : State), s.StoresWf →
    s.Takes h (pg.toNat * 256 + 0x05) w → pageType pg.toNat = some (ty, i) → forceBase ty = some (b, n) →
    ∃ t, exec (.faultInject h pg w) s = .next t ∧ SameRegs [] s t ∧ t = { s.wrote t with fc := { s.fc with pend := t.fc.pend } } ∧
      ∀ k < n, bit w k = true → ∃ m ∈ t.fc.pend, m.src = b + k ∧ m.kind = (if isCond (b + k) then 1 else 0) ∧ m.inj = true ∧
        m.addr = (if ty = .rail ∨ ty = .ph then i else fld (s.reg 0x0310) 11 0)

/-- An accepted PH_LOAD with no load pending takes the shadow set into the active set at once when the generator is in STOP and
else marks the load pending; with one pending it changes nothing. An accepted PH_ENABLE sets EN and MINPW and changes nothing
else of a phase that was enabled; one that was disabled becomes SHED, or stays FAILED, in HOLD on a running rail; without a
rail it takes as its start the later of the CKB edge of the acceptance and 2 µs after its domain's DRVEN was last driven high
(in which CKB cycle of the frame a command falls is the model's free number, log entries 34 and 72); on a rail in PRECHECK or
PREBIAS it takes its shadow set, which is the model's choice (log entry 36): the rules say when a set transfers to a generator
in STOP, not what a phase enabled then begins with. An accepted PH_DISABLE clears EN, both outputs are in high impedance at
once, an ACTIVE or SHED phase becomes UNAVAIL and is raised as PH_UNAVAIL; that this holds of an ACTIVE phase on dead
reckoning too, which R227 would make FAILED, is the model's choice (log entry 149). (R121, R122, R27, R127, R208, R209, R214,
R229) -/
def Obligations.PhaseCommands : Prop :=
  (∀ (h : Fin 3) (p : Fin 48) (s : State), s.StoresWf → s.Takes h ((0x20 + p.val) * 256 + 0x1E) 1 →
    ∃ t, exec (.phLoad h p) s = .next t ∧ SameRegs [] s t ∧ t = { s.wrote t with phases := t.phases } ∧ OtherPhases p s t ∧
      ((s.ph p).gen.ldpend = true → t.phases = s.phases) ∧
      ((s.ph p).gen.ldpend = false → gst s p = .stop → (t.ph p).gen.act = shadowSet s p ∧ (t.ph p).gen.ldpend = false) ∧
      (gst s p ≠ .stop → t.ph p = { s.ph p with gen := { (s.ph p).gen with ldpend := true } })) ∧
  (∀ (h : Fin 3) (p : Fin 48) (m : BitVec 8) (s : State), s.StoresWf →
    s.Takes h ((0x20 + p.val) * 256 + 0x18) (BitVec.ofNat 32 (m.toNat * 16777216 + 1)) →
    ∃ t, exec (.phEnable h p m) s = .next t ∧ SameRegs [(0x20 + p.val) * 256 + 0x18] s t ∧
      t = { s.wrote t with phases := t.phases, rails := t.rails, doms := t.doms } ∧ OtherPhases p s t ∧ enOf t p = true ∧
      fld (t.pr p 0x18) 31 24 = m.toNat ∧
      (enOf s p = true → t.phases = s.phases ∧ t.rails = s.rails ∧ t.doms = s.doms) ∧
      (enOf s p = false → railOf s p = none → t.rails = s.rails ∧
        (∀ k < 4, t.dom k = if drvHigh t k && !drvHigh s k then { s.dom k with drvRise := edgeCnt (s.begin h) } else s.dom k) ∧
        t.ph p = { s.ph p with gen := { (s.ph p).gen with
          ref := some (max (edgeCnt (s.begin h)) ((t.dom (domOfPh s p)).drvRise + 800)) } }) ∧
      (∀ r, enOf s p = false → railOf s p = some r → (s.rail r).st.running = true → t.rails = s.rails ∧ t.doms = s.doms ∧
        (t.ph p).gen = { (s.ph p).gen with hold := true } ∧
        (t.ph p).pst = if (s.ph p).pst = .failed then .failed else .shed) ∧
      (∀ r, enOf s p = false → railOf s p = some r → (s.rail r).st = .precheck ∨ (s.rail r).st = .prebias →
        (t.ph p).gen.act = shadowSet s p ∧ (t.ph p).pst = (s.ph p).pst ∧ OtherRails r s t)) ∧
  (∀ (h : Fin 3) (p : Fin 48) (m : BitVec 8) (s : State), s.StoresWf →
    s.Takes h ((0x20 + p.val) * 256 + 0x18) (BitVec.ofNat 32 (m.toNat * 16777216)) →
    ∃ t, exec (.phDisable h p m) s = .next t ∧
      t = { s.wrote t with phases := t.phases, rails := t.rails, fc := { s.fc with pend := t.fc.pend } } ∧
      SameRegs [(0x20 + p.val) * 256 + 0x18] s t ∧ enOf t p = false ∧ fld (t.pr p 0x18) 31 24 = m.toNat ∧ (scanned s = false → pins t p = (.hiZ, .hiZ)) ∧
      (enOf s p = true → (s.ph p).pst = .active ∨ (s.ph p).pst = .shed → (t.ph p).pst = .unavail) ∧
      (enOf s p = true → (s.ph p).pst = .active ∨ (s.ph p).pst = .shed → railOf s p ≠ none → t.Waits 0x3A 0 p) ∧
      (enOf s p = false → t.phases = s.phases ∧ t.rails = s.rails))

/-- On an enabled input TRIP_ACCEPT, once the filter has found the input active on the last FILT of the edges it is given (on the
last one where FILT is 0), sets the latch, puts both outputs of every mapped phase in high impedance in that command, and its
source stands at the address R133 gives it; a ball is active where its level differs from POL, and an input that its filter
does not accept does nothing. An accepted TRIP_CLR clears exactly the latches named, and a source whose latch it clears stands
no longer (pin inputs 0 to 7). (R131, R132, R133, R134, R446) -/
def Obligations.TripsLatchAndClear : Prop :=
  (∀ (n : Fin 24) (w : TripWave) (s : State), s.Works → bit (s.reg (0x0F08 + n.val)) 31 = true →
    tripFiltered s n (tripLevels s n w) = true →
    ∃ t, exec (.tripAccept n w) s = .next t ∧
      t = { s.conds t with tripLatch := s.tripLatch ||| 2 ^ n.val, tripRaw := s.tripRaw ||| 2 ^ n.val, phases := t.phases
                           tripCnt := s.tripCnt.set n 255 } ∧
      (scanned s = false → ∀ p < 48, tripMaps s n p = true → pins t p = (.hiZ, .hiZ)) ∧
      (∀ p < 48, tripMaps s n p = false → t.ph p = s.ph p) ∧
      (if n.val < 8 then t.Stands (0xB0 + n) n else t.Stands 0xB8 (n - 8))) ∧
  (∀ (n k : Nat) (b : Bool) (l : List Pal) (s : State), max 1 (fld (s.reg (0x0F08 + n)) 7 0) ≤ k →
    tripFiltered s n (tripLevels s n (.pin (l ++ List.replicate k (if b then .high else .low)))) =
      (b != bit (s.reg (0x0F08 + n)) 30)) ∧
  (∀ (n : Fin 24) (w : TripWave) (s : State), tripFiltered s n (tripLevels s n w) = false →
    exec (.tripAccept n w) s = .next s.begin) ∧
  (∀ (h : Fin 3) (w : Word) (s : State), s.StoresWf → s.Takes h 0x0F3A w →
    ∃ t, exec (.tripClr h w) s = .next t ∧ SameRegs [] s t ∧
      t = { s.wrote t with phases := t.phases, tripLatch := t.tripLatch
                           fc := { s.fc with pend := t.fc.pend, stand := t.fc.stand } } ∧
      (∀ n, t.tripLatch.testBit n = (s.tripLatch.testBit n && !(decide (n < 32) && bit w n))) ∧
      ∀ n < 8, s.tripLatch.testBit n = true → bit w n = true → ¬ t.Stands (0xB0 + n) n)

/-- An accepted ENGINE_HALT of an engine that is not halted discards the updates that wait and keeps those a lane has taken (which
they are at the acceptance follows from the cycles that have passed, log entries 41 and 72), freezes every generator (high
impedance), ends the conversions of control samples in progress and raises ENG_HALT. An accepted ENGINE_RELEASE of a halted
engine ends the halt, and unless the device keeps the generators frozen every count is 0 and the generators that are not in
STOP and wait for no first set start from the next frame edge, those without a rail not before 2 µs after DRVEN was last
driven high (the frame edge is the model's choice, log entry 34). ENG_CLEAR_OVERRUN, ENG_CLEAR_LATENCY and ENG_CLEAR_PEAK
clear the overrun count, the latencies, and the peaks of utilisation and queue. Nothing else moves. (R92, R161, R163, R140,
R141, R145, R126, R128) -/
def Obligations.EngineHaltAndClears : Prop :=
  (∀ (h : Fin 3) (s : State), s.StoresWf → s.Takes h 0x0E10 1 → s.eng.haltReq = false →
    ∃ t, exec (.engineHalt h) s = .next t ∧ SameRegs [0x0E10] s t ∧ t.Quiet ∧ (∀ p < 48, gst t p = .frozen) ∧ t.Waits 0x62 0 0 ∧
      t = { s.wrote t with eng := { s.eng with haltReq := true, halted := true, queue := s.eng.queue.filter (s.begin h).perf.onLane }, phases := t.phases
                           fc := { s.fc with pend := t.fc.pend } } ∧
      ∀ p < 48, (t.ph p).gen.count = (s.ph p).gen.count ∧ (t.ph p).converting = false) ∧
  (∀ (h : Fin 3) (s : State), s.StoresWf → s.Takes h 0x0E10 0 → s.eng.haltReq = true →
    ∃ t, exec (.engineRelease h) s = .next t ∧ SameRegs [0x0E10] s t ∧
      t = { s.wrote t with eng := { s.eng with haltReq := false, halted := false }, phases := t.phases } ∧
      (if allFrozen { s with eng := { s.eng with haltReq := false, halted := false } } then t.phases = s.phases
       else ∀ p < 48, t.ph p = { s.ph p with gen := { (s.ph p).gen with
         count := 0
         ref := if gst t p = .stop ∨ (s.ph p).joining then (s.ph p).gen.ref
                else if railOf s p = none then some (max ((s.dev.frame + 1) * 400) ((s.dom (domOfPh s p)).drvRise + 800))
                else some ((s.dev.frame + 1) * 400) } })) ∧
  (∀ (h : Fin 3) (s : State), s.StoresWf → s.Takes h 0x0E0F 4 →
    ∃ t, exec (.engClearOverrun h) s = .next t ∧ SameRegs [] s t ∧ t = { s.wrote t with eng := { s.eng with ovrCnt := 0 } }) ∧
  (∀ (h : Fin 3) (s : State), s.StoresWf → s.Takes h 0x0E0F 2 →
    ∃ t, exec (.engClearLatency h) s = .next t ∧ SameRegs [] s t ∧
      t = { s.wrote t with eng := { s.eng with latI := 0, latV := 0 } }) ∧
  (∀ (h : Fin 3) (s : State), s.StoresWf → s.Takes h 0x0E0F 1 →
    ∃ t, exec (.engClearPeak h) s = .next t ∧ SameRegs [] s t ∧
      t = { s.wrote t with eng := { s.eng with peak := 0, qPeak := 0 } })

/-- An accepted RAIL_START leaves the rail in OFF with a start pending, clears NRST, counts one start toward tally 6 and may queue
a bases record; nothing else moves. An accepted RAIL_STOP marks the stop for the next frame in every state from PRECHECK to
BRAKE, cancels a pending start in OFF, changes nothing in STOPPING, and in FAULTED cancels a pending restart and leads to OFF
when no source that faulted the rail stands and the device is not in SAFE. An accepted RAIL_CLR leads to OFF with NRST 0. No
other rail moves. (R173, R180, R183, R347, R351) -/
def Obligations.RailCommands : Prop :=
  (∀ (h : Fin 3) (r : Fin 16) (s : State), s.StoresWf → s.Takes h ((0x10 + r.val) * 256 + 0x28) 1 →
    ∃ t, exec (.railStart h r) s = .next t ∧ SameRegs [] s t ∧
      t = { s.wrote t with rails := t.rails
                           nv := { s.nv with tdue := s.nv.tdue.set 6 (s.nv.tdue.getD 6 0 + 1), queue := t.nv.queue } } ∧
      (t.nv.queue = s.nv.queue ∨ t.nv.queue = s.nv.queue ++ [.bases (baseR s) (baseP s)]) ∧
      t.rail r = { s.rail r with startPend := true, group := 0, nrst := 0 } ∧ (s.rail r).st = .off ∧ OtherRails r s t) ∧
  (∀ (h : Fin 3) (r : Fin 16) (s : State), s.StoresWf → s.Takes h ((0x10 + r.val) * 256 + 0x28) 2 →
    ∃ t, exec (.railStop h r) s = .next t ∧ OtherRails r s t ∧ t = s.rested t ∧
      ((s.rail r).st = .off → t.rail r = { s.rail r with startPend := false, group := 0 }) ∧
      ((s.rail r).st = .stopping → t.rail r = s.rail r) ∧
      ((s.rail r).st ∈ [RailState.precheck, .prebias, .ramp, .regulate, .drip, .limit, .brake] →
        t.rail r = { s.rail r with stopPend := true } ∧ t.phases = s.phases ∧ SameRegs [] s t) ∧
      ((s.rail r).st = .faulted → (t.rail r).rstpend = false ∧
        (t.rail r).st = if faultStands s r || s.dev.st == .safe then .faulted else .off)) ∧
  (∀ (h : Fin 3) (r : Fin 16) (s : State), s.StoresWf → s.Takes h ((0x10 + r.val) * 256 + 0x28) 4 →
    ∃ t, exec (.railClr h r) s = .next t ∧ OtherRails r s t ∧ t = s.rested t ∧ (s.rail r).st = .faulted ∧
      (t.rail r).st = .off ∧ (t.rail r).nrst = 0 ∧ (t.rail r).faultedBy = [] ∧ (t.rail r).rstpend = false)

/-- An accepted DOMAIN_START with rails that take part begins a start sequence: the rails of rank 0 have a start pending at once,
the others wait. An accepted DOMAIN_STOP of a domain that is not stopping issues the stop to the highest rank of the rails out
of OFF and not LOCKED (R185 says out of OFF; that a LOCKED rail takes no part is the model's reading, log entry 60) and leaves
the lower ranks waiting. SEQUENCE_RANK_START issues a waiting rail of the rank in progress once its delay of DLY × 10 frames
has passed since the rank became due, SEQUENCE_RANK_STOP a waiting rail once as many have passed since every rail of a higher
rank was in OFF or FAULTED (LOCKED counts with them, log entry 60; its own count, which a frame edge advances: the last two
clauses say how it begins and goes on). RAIL_SEQTO abandons a start whose rank has not settled in DOM_SEQTO frames and raises
RAIL_SEQTO at the lowest open rail. (R184, R185, R186) -/
def Obligations.DomainSequences : Prop :=
  (∀ (h : Fin 3) (d : Fin 4) (s : State), s.StoresWf → s.Takes h 0x0710 (BitVec.ofNat 32 (2 ^ d.val)) → takers s d ≠ [] →
    ∃ t, exec (.domainStart h d) s = .next t ∧ SameRegs [] s t ∧
      t = { s.wrote t with rails := t.rails, doms := t.doms, nv := { s.nv with tdue := t.nv.tdue, queue := t.nv.queue } } ∧
      (t.dom d).seq = 1 ∧ (t.dom d).todo = (takers s d).filter (fun r => rankOf s r != 0) ∧
      (t.dom d).issued = (takers s d).filter (fun r => rankOf s r == 0) ∧
      ∀ r < 16, (t.rail r).st = (s.rail r).st ∧
        ((t.rail r).startPend = ((s.rail r).startPend || ((takers s d).contains r && rankOf s r == 0)))) ∧
  (∀ (h : Fin 3) (d : Fin 4) (s : State), s.StoresWf → s.Takes h 0x0710 (BitVec.ofNat 32 (2 ^ (d.val + 4))) → (s.dom d).seq ≠ 2 →
    ∃ t, exec (.domainStop h d) s = .next t ∧ t = { s.rested t with doms := t.doms } ∧
      ∃ rails top, rails = (railsOfDom s d).filter (fun r => outOfOff s r && (s.rail r).st != .locked) ∧
        (∀ r ∈ rails, rankOf s r ≤ top) ∧ (rails ≠ [] → ∃ r ∈ rails, rankOf s r = top) ∧
        (t.dom d).seq = (if rails = [] then 0 else 2) ∧ (t.dom d).todo = rails.filter (fun r => rankOf s r != top) ∧
        ∀ r ∈ rails, rankOf s r = top → (s.rail r).st.running = true → (s.rail r).st ≠ .stopping → (t.rail r).stopPend = true) ∧
  (∀ (r : Fin 16) (s : State), machinesRun s = true → (s.dom (domOf s r)).seq = 1 → r.val ∈ (s.dom (domOf s r)).todo →
    rankOf s r = (s.dom (domOf s r)).rank → dlyOf s r * 10 ≤ (s.dom (domOf s r)).wait → canStart s r = true →
    ∃ t, exec (.sequenceRankStart r) s = .next t ∧ (t.rail r).startPend = true ∧ OtherRails r s t ∧
      r.val ∉ (t.dom (domOf s r)).todo ∧ r.val ∈ (t.dom (domOf s r)).issued ∧
      t = { s.begin with rails := t.rails, doms := t.doms
                         nv := { s.nv with tdue := s.nv.tdue.set 6 (s.nv.tdue.getD 6 0 + 1), queue := t.nv.queue } }) ∧
  (∀ (r : Fin 16) (n : Nat) (s : State), machinesRun s = true → (s.dom (domOf s r)).seq = 2 → r.val ∈ (s.dom (domOf s r)).todo →
    (s.dom (domOf s r)).stopWait.getD r.val none = some n → dlyOf s r * 10 ≤ n → (s.rail r).st.running = true →
    (s.rail r).st ≠ .stopping →
    ∃ t, exec (.sequenceRankStop r) s = .next t ∧ t.rail r = { s.rail r with stopPend := true } ∧ OtherRails r s t ∧
      r.val ∉ (t.dom (domOf s r)).todo ∧ r.val ∈ (t.dom (domOf s r)).issued ∧
      t = { s.begin with rails := t.rails, doms := t.doms }) ∧
  (∀ (d : Fin 4) (s : State) (r : Nat) (l : List Nat), s.Runs → machinesRun s = true → (s.dom d).seq = 1 →
    fld (s.reg 0x0711) 23 0 ≤ (s.dom d).age →
    (List.range 16).filter (fun r => ((s.dom d).issued.contains r || (s.dom d).todo.contains r) && rankOf s r == (s.dom d).rank)
      = r :: l →
    ∃ t, exec (.railSeqto d) s = .next t ∧ t = { s.msgs t with doms := t.doms } ∧ (t.dom d).seq = 0 ∧ (t.dom d).todo = [] ∧
      (t.dom d).issued = [] ∧ t.Waits 0x15 0 r) ∧
  (∀ (d r : Nat) (todo : List Nat) (s : State), r < 16 → (s.dom d).stopWait.getD r none = none → r ∈ todo →
    (stopWaits s d todo).getD r none =
      if ∀ q ∈ railsOfDom s d, rankOf s q ≤ rankOf s r ∨ ((s.rail q).st.stopped = true ∧ (s.rail q).startPend = false) then some 0
      else none) ∧
  (∀ (d r n : Nat) (todo : List Nat) (s : State), r < 16 → (s.dom d).stopWait.getD r none = some n →
    (stopWaits s d todo).getD r none = some (satInc 1000000 n))

/-- An accepted RCOMP_COMMIT with nothing pending switches an idle rail's active bank to the pending bank at once and raises
ENG_COMMIT; of a running rail it only sets PEND. BANK_SWITCH of a pending commit, when an update of the rail's voltage loop is
queued and the engine runs, switches and leaves the copy back open; BANK_COPY_BACK makes the pending bank the active bank and
clears PEND. An accepted RTAB_ENTRY_WRITE gives entries 2j and 2j + 1 the two halves of the word with fraction 0, and changes
no other entry and nothing else. An accepted RTAB_ZERO makes every entry of the rail's table 0 with its fraction and changes
no register of another page. (R157, R158, R159, R197, R201) -/
def Obligations.BanksAndTablesAreWritten : Prop :=
  (∀ (h : Fin 3) (r : Fin 16) (luten : Bool) (s : State), s.StoresWf →
    s.Takes h ((0x50 + r.val) * 256 + 0x08) (if luten then 3 else 1) → (s.rail r).pend = false →
    (s.rail r).st.running = false →
    ∃ t, exec (.rcompCommit h r luten) s = .next t ∧ (∀ o ∈ coefOffs, t.actC r o = s.pendC r o ∧ t.pendC r o = s.pendC r o) ∧
      bit (t.actC r 0x08) 1 = luten ∧ bit (t.pendC r 0x08) 1 = luten ∧ (t.rail r).pend = false ∧ OtherRails r s t ∧
      t.Waits 0x63 0 r ∧ t = { s.wrote t with rails := t.rails, cup := t.cup, fc := { s.fc with pend := t.fc.pend } }) ∧
  (∀ (h : Fin 3) (r : Fin 16) (luten : Bool) (s : State), s.StoresWf →
    s.Takes h ((0x50 + r.val) * 256 + 0x08) (if luten then 3 else 1) → (s.rail r).pend = false →
    (s.rail r).st.running = true →
    ∃ t, exec (.rcompCommit h r luten) s = .next t ∧ t = { s.wrote t with rails := t.rails } ∧
      SameRegs [(0x50 + r.val) * 256 + 0x08] s t ∧ t.rail r = { s.rail r with pend := true } ∧ OtherRails r s t) ∧
  (∀ (r : Fin 16) (s : State), s.StoresWf → s.Runs → s.eng.haltReq = false → (s.rail r).pend = true → (s.rail r).copying = false →
    s.eng.queue.any (fun q => q.ctx == r.val) = true →
    ∃ t, exec (.bankSwitch r) s = .next t ∧ (∀ o ∈ coefOffs, t.actC r o = s.pendC r o ∧ t.pendC r o = s.pendC r o) ∧
      (t.rail r).copying = true ∧ (t.rail r).pend = true ∧ OtherRails r s t ∧ t.Waits 0x63 0 r ∧
      t = { s.begin with bank := t.bank, rails := t.rails, cup := t.cup, fc := { s.fc with pend := t.fc.pend } }) ∧
  (∀ (r : Fin 16) (s : State), s.StoresWf → s.Runs → (s.rail r).copying = true →
    ∃ t, exec (.bankCopyBack r) s = .next t ∧ (∀ o ∈ coefOffs, t.pendC r o = s.actC r o ∧ t.actC r o = s.actC r o) ∧
      t.rail r = { s.rail r with pend := false, copying := false } ∧ OtherRails r s t ∧
      t = { s.begin with bank := t.bank, rails := t.rails }) ∧
  (∀ (h : Fin 3) (r : Fin 16) (j : Fin 128) (w : Word) (s : State), s.StoresWf →
    s.Takes h ((0x60 + r.val) * 256 + 0x08 + j.val) w →
    ∃ t, exec (.rtabEntryWrite h r j w) s = .next t ∧ t = s.wrote t ∧
      SameRegs [(0x60 + r.val) * 256 + 0x08 + j.val, fracKey r (2 * j), fracKey r (2 * j + 1)] s t ∧
      tabEntry t r (2 * j) = s16 (fld w 15 0) * 256 ∧ tabEntry t r (2 * j + 1) = s16 (fld w 31 16) * 256) ∧
  (∀ (h : Fin 3) (r : Fin 16) (freeze learn : Bool) (s : State), s.StoresWf →
    s.Takes h ((0x60 + r.val) * 256 + 0x89) (BitVec.ofNat 32 (4 + 2 * freeze.toNat + learn.toNat)) →
    ∃ t, exec (.rtabZero h r freeze learn) s = .next t ∧ t = s.wrote t ∧ (∀ i < 256, tabEntry t r i = 0) ∧
      bit (t.tr r 0x89) 1 = freeze ∧ bit (t.tr r 0x89) 0 = learn ∧
      ∀ k, k / 256 ≠ 0x60 + r.val → (k < fracKey r 0 ∨ fracKey r 256 ≤ k) → t.reg k = s.reg k)

/-- A stage of type NONE passes its input; a PI, PID or BIQ stage follows its law, each sum formed by the multiply and accumulate
at the exponent its block held, and the block renormalised (that the 1 of a state word is a product with the coefficient 1.0,
what a passed value is rounded to, and at what exponent sums are formed, are the model's choices, log entries 112, 113, 114
and 121). One product is the exact product rounded to nearest, ties away from zero, to 28 bits at that exponent, and so is the
sum of two products of one exponent. A value of 25 bits enters exactly. With CLAMP the value is limited by number to LMIN and
LMAX and takes a limit exactly. A block all zero has exponent -32; else the renormalised block's exponent is in -32 to 31, its
largest mantissa between 2^24 and 2^25 unless the exponent is at an end, and below 31 every word is within half a unit of what
it was. Stages run in order. A preload of a set whose first stage is the preload stage, unclamped, with no BIQ after it, gives
its integrator the value at which the set's output is exactly the one handed over. (R53, R54, R55, R56, R57, R148, R149, R150,
R155) -/
def Obligations.StagesKeepTheirLaws : Prop :=
  (∀ (g : Stg) (b : Block) (x : Sig), g.ty = 0 → g.run b x = (b, x)) ∧
  (∀ (g : Stg) (b : Block) (x : Sig), g.ty = 1 → ∃ i, i = g.limit (mac b.e [(b.word 0, 0x400001), (x, g.coef 1)]) ∧
    g.run b x = (renorm [i], mac b.e [(x, g.coef 0), (i, 0x400001)])) ∧
  (∀ (g : Stg) (b : Block) (x : Sig), g.ty = 2 → ∃ i d, i = g.limit (mac b.e [(b.word 0, 0x400001), (x, g.coef 1)]) ∧
    d = mac b.e [(b.word 1, g.coef 3), (x, g.coef 2), (⟨-(b.word 2).m, b.e⟩, g.coef 2)] ∧
    g.run b x = (renorm [i, d, x], mac b.e [(x, g.coef 0), (i, 0x400001), (d, 0x400001)])) ∧
  (∀ (g : Stg) (b : Block) (x : Sig), g.ty = 3 → ∃ y, y = g.limit (mac b.e [(x, g.coef 0), (b.word 0, g.coef 1), (b.word 1, g.coef 2),
      (⟨-(b.word 2).m, b.e⟩, g.coef 3), (⟨-(b.word 3).m, b.e⟩, g.coef 4)]) ∧
    g.run b x = (renorm [x, b.word 0, y, b.word 2], y)) ∧
  (∀ (e : Int) (x : Sig) (k : Word), x.m.natAbs ≤ 134217728 →
    mac e [(x, k)] = ⟨clampI (-134217728) 134217727 (roundAway (x.val * bf k / pow2 (e - 25))), e⟩) ∧
  (∀ (e : Int) (x y : Sig) (k l : Word), x.m.natAbs ≤ 134217728 → y.m.natAbs ≤ 134217728 → (prod x k).1 ≠ 0 → (prod y l).1 ≠ 0 →
    (prod x k).2 = (prod y l).2 →
    mac e [(x, k), (y, l)] = ⟨clampI (-134217728) 134217727 (roundAway ((x.val * bf k + y.val * bf l) / pow2 (e - 25))), e⟩) ∧
  (∀ m e : Int, m.natAbs ≤ 33554432 → -32 ≤ e → e ≤ 30 → (sigOf ((m : Rat) * pow2 (e - 25))).val = (m : Rat) * pow2 (e - 25)) ∧
  (∀ (g : Stg) (x : Sig), g.clamp = false → g.limit x = x) ∧
  (∀ (g : Stg) (x : Sig), g.clamp = true → -32768 ≤ g.lmin → g.lmin ≤ g.lmax → g.lmax ≤ 32767 →
    (g.limit x).val = clampR (puI g.lmin) (puI g.lmax) x.val) ∧
  (∀ xs : List Sig, (∀ x ∈ xs, x.m = 0) → renorm xs = Block.init) ∧
  (∀ (xs : List Sig) (b : Block), xs.length ≤ 8 → (∃ x ∈ xs, x.m ≠ 0) → b = renorm xs →
    b.m.length = 8 ∧ -32 ≤ b.e ∧ b.e ≤ 31 ∧
    (b.e < 31 → (∀ m ∈ b.m, m.natAbs < 33554432) ∧ (-32 < b.e → ∃ m ∈ b.m, 16777216 ≤ m.natAbs) ∧
      ∀ i < xs.length, (b.word i).val - (xs.getD i Sig.zero).val ≤ pow2 (b.e - 26) ∧
        (xs.getD i Sig.zero).val - (b.word i).val ≤ pow2 (b.e - 26))) ∧
  (∀ (g : Stg) (gs : List Stg) (b : Block) (bs : List Block) (x : Sig), runStages (g :: gs) (b :: bs) x =
    ((g.run b x).1 :: (runStages gs bs (g.run b x).2).1, (runStages gs bs (g.run b x).2).2)) ∧
  (∀ (g : Stg) (gs : List Stg) (x : Sig) (u q : Rat), g.pl = true → g.ty = 1 ∨ g.ty = 2 → g.clamp = false → (∀ h ∈ gs, h.ty ≠ 3) →
    q = u - bf (g.coef 0) * x.val → (sigOf q).val = q → (sigOf u).val = u →
    (preloadStages (g :: gs) x u).2.val = u ∧
    (preloadStages (g :: gs) x u).1.head? = some (if g.ty = 2 then renorm [sigOf q, Sig.zero, x] else renorm [sigOf q]))

/-- An accepted CUP_START starts the injection into the rail and in the mode of CUP_CFG with θ = 0 and no end requested, and a
sweep takes the capture buffer. CUP_STOP asks a running injection to end at the next zero, and ends at once, aborted by the
host, one that has not begun (its rail has not been in REGULATE since START; R263 speaks of a running one only, the model's
choice, log entry 142), CUP_ARST resets the rail's α to 1.0, CUP_REL frees a buffer that a sweep holds. CAPTURE_ARM takes the
buffer and starts a capture of the selected channels, afresh where a capture already holds it (R102 is silent there; the
model's choice, log entry 124); CAPTURE_RELEASE frees a buffer that a capture holds. Nothing else moves. (R262, R263, R264,
R266, R102) -/
def Obligations.CuppingAndCaptureCommands : Prop :=
  (∀ (h : Fin 3) (s : State), s.StoresWf → s.Takes h 0x0C11 1 →
    ∃ t, exec (.cupStart h) s = .next t ∧ SameRegs [] s t ∧ t = { s.wrote t with cup := t.cup, capt := t.capt } ∧
      t.cup.run = true ∧ t.cup.begun = false ∧ t.cup.rail = fld (s.reg 0x0C08) 23 20 ∧ t.cup.mode = fld (s.reg 0x0C08) 31 30 ∧ t.cup.theta = 0 ∧
      t.cup.ending = none ∧ t.cup.alpha = s.cup.alpha ∧
      t.cup.result = none ∧ (if fld (s.reg 0x0C08) 31 30 = 2 then t.capt.owner = 2 ∧ t.capt.st = 1 ∧ t.cup.f = toBF (bf (s.reg 0x0C0B))
       else t.capt = s.capt ∧ t.cup.f = s.reg 0x0C0A)) ∧
  (∀ (h : Fin 3) (s : State), s.StoresWf → s.Takes h 0x0C11 2 →
    ∃ t, exec (.cupStop h) s = .next t ∧ SameRegs [] s t ∧
      t = { s.wrote t with cup := t.cup, capt := t.capt, fc := { s.fc with pend := t.fc.pend } } ∧
      (s.cup.run = true → s.cup.begun = false → t.Waits 0x22 0 s.cup.rail ∧
        t.cup = { s.cup with run := false, ending := none, zero := false, result := none, last := 2 } ∧
        t.capt = if s.cup.mode = 2 then { s.capt with st := 2 } else s.capt) ∧
      (s.cup.run = false ∨ s.cup.begun = true → t.fc = s.fc ∧ t.capt = s.capt ∧
        t.cup = if s.cup.run && s.cup.ending.isNone then { s.cup with ending := some (false, false) } else s.cup)) ∧
  (∀ (h : Fin 3) (s : State), s.StoresWf → s.Takes h 0x0C11 4 →
    ∃ t, exec (.cupArst h) s = .next t ∧ SameRegs [] s t ∧
      t = { s.wrote t with cup := { s.cup with alpha := s.cup.alpha.set (fld (s.reg 0x0C08) 23 20) 0x400001 } }) ∧
  (∀ (h : Fin 3) (s : State), s.StoresWf → s.Takes h 0x0C11 8 →
    ∃ t, exec (.cupRel h) s = .next t ∧ SameRegs [] s t ∧
      t = { s.wrote t with capt := if s.capt.owner = 2 then { s.capt with owner := 0, st := 0 } else s.capt }) ∧
  (∀ (h : Fin 3) (s : State), s.StoresWf → s.Takes h 0x0D43 1 →
    ∃ t, exec (.captureArm h) s = .next t ∧ SameRegs [0x0D43] s t ∧ t = { s.wrote t with capt := t.capt } ∧
      t.capt.owner = 1 ∧ t.capt.st = 1 ∧ t.capt.trig = none ∧ t.capt.sel = capSelected (s.reg 0x0D40) ∧
      ∀ l ∈ t.capt.chans, l = []) ∧
  (∀ (h : Fin 3) (s : State), s.StoresWf → s.Takes h 0x0D43 0 →
    ∃ t, exec (.captureRelease h) s = .next t ∧ SameRegs [0x0D43] s t ∧
      t = { s.wrote t with capt := if s.capt.owner = 1 then { s.capt with owner := 0, st := 0 } else s.capt })

/-- An accepted TWIN_HANDOVER announces the handover (eight announcements follow), TWIN_PRST marks the next four frames,
TWIN_REJOIN takes the device, whether ORPHAN, SYNCING or READY, out of SAFE into STANDBY as an ORPHAN and its FAULTED rails to
OFF. (R321, R323) -/
def Obligations.TwinCommands : Prop :=
  (∀ (h : Fin 3) (s : State), s.StoresWf → s.Takes h 0x090B 1 →
    ∃ t, exec (.twinHandover h) s = .next t ∧ SameRegs [] s t ∧ t = { s.wrote t with twin := { s.twin with hoLeft := 9 } }) ∧
  (∀ (h : Fin 3) (s : State), s.StoresWf → s.Takes h 0x090B 2 →
    ∃ t, exec (.twinPrst h) s = .next t ∧ SameRegs [] s t ∧ t = { s.wrote t with twin := { s.twin with prstLeft := 4 } }) ∧
  (∀ (h : Fin 3) (s : State), s.StoresWf → s.Takes h 0x090B 4 →
    ∃ t, exec (.twinRejoin h) s = .next t ∧ s.dev.st = .safe ∧ t.dev.st = .standby ∧ t.fc.safe = false ∧
      (∀ r < 16, (s.rail r).st = .faulted → (t.rail r).st = .off) ∧
      (∀ r < 16, (s.rail r).st ≠ .faulted → t.rail r = s.rail r) ∧ bit (t.reg 0x0303) 3 = true ∧ t.twin = { s.twin with pst := .orphan } ∧
      s.twin.pst ∈ [TwinPst.orphan, .syncing, .ready])

/-- An accepted NV_READ loads the page named by NV_ADDR into NV_BUF, 64 words least significant byte first, and reports success.
NV_PROG, NV_ERASE and NV_APPEND queue their operation and set HBUSY. NV_FIND and NV_FINDSEQ load the record they name into the
front of NV_BUF with its SEQ in NV_RSEQ and set FOUND, or report that there is none. That READ, FIND and FINDSEQ complete in
the command, so that HBUSY never reads 1 for them, is the model's choice (log entry 82). The array itself is unchanged by all
six. (R356, R330, R339) -/
def Obligations.GradebookCommands : Prop :=
  (∀ (h : Fin 3) (s : State), s.StoresWf → s.Takes h 0x060A 1 →
    ∃ t, exec (.nvRead h) s = .next t ∧ t = { s.wrote t with nv := { s.nv with hres := 0 } } ∧
      (∀ k < 64, t.reg (0x0640 + k) =
        BitVec.ofNat 32 (le (nvBytes s (fld (s.reg 0x060B) 10 4 * 4096 + fld (s.reg 0x060B) 3 0 * 256 + 4 * k) 4))) ∧
      ∀ k, (k < 0x0640 ∨ 0x0680 ≤ k) → t.reg k = s.reg k) ∧
  (∀ (h : Fin 3) (s : State), s.StoresWf → s.Takes h 0x060A 2 →
    ∃ t, exec (.nvProg h) s = .next t ∧ SameRegs [] s t ∧
      t = { s.wrote t with nv := { s.nv with hbusy := true, queue := s.nv.queue ++
        [.prog (fld (s.reg 0x060B) 10 4) (fld (s.reg 0x060B) 3 0) (bufBytes s)] } }) ∧
  (∀ (h : Fin 3) (s : State), s.StoresWf → s.Takes h 0x060A 3 →
    ∃ t, exec (.nvErase h) s = .next t ∧ SameRegs [] s t ∧
      t = { s.wrote t with nv := { s.nv with hbusy := true, queue := s.nv.queue ++ [.erase (fld (s.reg 0x060B) 10 4)] } }) ∧
  (∀ (h : Fin 3) (s : State), s.StoresWf → s.Takes h 0x060A 4 →
    ∃ t, exec (.nvAppend h) s = .next t ∧ SameRegs [] s t ∧
      t = { s.wrote t with nv := { s.nv with hbusy := true, queue := s.nv.queue ++
        [.append (fld (s.reg 0x060C) 31 16) (fld (s.reg 0x060C) 1 0)
          (((bufBytes s).drop 10).take (recSize (fld (s.reg 0x060C) 1 0) - 11))] } }) ∧
  (∀ (h : Fin 3) (s : State) (c : Instr) (k : Nat), (c = .nvFind h ∧ k = 5) ∨ (c = .nvFindseq h ∧ k = 6) → s.StoresWf →
    s.Takes h 0x060A (BitVec.ofNat 32 k) →
    ∃ t, exec c s = .next t ∧ t = { s.wrote t with nv := { s.nv with found := t.nv.found, hres := t.nv.hres } } ∧
      match nvFound s k with
      | none => t.nv.found = false ∧ t.nv.hres = 2 ∧ SameRegs [] s t
      | some r => t.nv.found = true ∧ t.nv.hres = 0 ∧ t.reg 0x060D = BitVec.ofNat 32 r.seq ∧
          ∀ i < min 64 (r.size / 4), t.reg (0x0640 + i) = BitVec.ofNat 32 (le (nvBytes s (r.addr + 4 * i) 4)))

/-- An accepted SB_HOST_TRANSACTION, with a bus that is not stuck, is queued with HBUSY; a stuck bus ends it with HRES 3. An
accepted SB_POLL_WRITE sets the entry's word: an entry that it enables takes the word's period and becomes due one period
after this frame (R385 and R388 give no first due time; the model's choice, log entry 92), one that is enabled already keeps
both, one that it disables is not due. SB_ENABLE asks for a recovery; SB_DISABLE abandons the transfer in progress, whatever
it has sent. (R390, R391, R393, R385, R388) -/
def Obligations.StageBusCommands : Prop :=
  (∀ (h : Fin 3) (w : Word) (s : State), s.StoresWf → s.Takes h 0x080B w →
    ∃ t, exec (.sbHostTransaction h w) s = .next t ∧ SameRegs [0x080B] s t ∧ t = { s.wrote t with sb := t.sb } ∧
      (s.sb.stuck = false → t.sb = { s.sb with hbusy := true, hostPend := true }) ∧
      (s.sb.stuck = true → t.sb.hbusy = false ∧ t.sb.hres = 3)) ∧
  (∀ (h : Fin 3) (n : Fin 64) (w : Word) (s : State), s.StoresWf → s.sb.ent.length = 64 → s.Takes h (0x0840 + n.val) w →
    ∃ t, exec (.sbPollWrite h n w) s = .next t ∧ SameRegs [0x0840 + n.val] s t ∧ t.reg (0x0840 + n.val) = w ∧
      t = { s.wrote t with sb := { s.sb with ent := t.sb.ent } } ∧
      (bit w 31 = true → bit (s.reg (0x0840 + n.val)) 31 = false → (sbEnt t n).dueAt = s.dev.frame ∧ (sbEnt t n).due = false ∧ (sbEnt t n).per = fld w 7 0) ∧
      (bit w 31 = true → bit (s.reg (0x0840 + n.val)) 31 = true → sbEnt t n = { sbEnt s n with touched := true }) ∧
      (bit w 31 = false → (sbEnt t n).due = false) ∧ ∀ m, m ≠ n.val → sbEnt t m = sbEnt s m) ∧
  (∀ (h : Fin 3) (w : Word) (s : State), s.StoresWf → s.Takes h 0x0808 (setFld w 31 31 1) →
    ∃ t, exec (.sbEnable h w) s = .next t ∧ SameRegs [0x0808] s t ∧ bit (t.reg 0x0808) 31 = true ∧
      t = { s.wrote t with sb := if bit (s.reg 0x0808) 31 then s.sb else { s.sb with needRecov := true } }) ∧
  (∀ (h : Fin 3) (w : Word) (sent : Nat) (s : State), s.StoresWf → s.Takes h 0x0808 (setFld w 31 31 0) → bit (s.reg 0x0808) 31 = true →
    ∃ t, exec (.sbDisable h w sent) s = .next t ∧ SameRegs [0x0808] s t ∧ bit (t.reg 0x0808) 31 = false ∧
      t.sb.cur = none ∧ t.sb.again = none ∧ t.sb.recov = false ∧ t.sb.needRecov = false ∧ t.sb.ent = s.sb.ent ∧
      t = { s.wrote t with sb := t.sb })

/-- POWER_ON_RESET from every state, and RESETN, a high TESTEN, the fourth announced TWIN_COMMANDED_RESET and an accepted
DEV_SOFT_RESET from a device that is not LOCKED and in no reset, assert a reset with their cause: the device is in BOOT, both
outputs of every phase are in high impedance, every register reads its reset value, and with no flash operation in progress
the array keeps its contents. A low TESTEN records the level and lets EXTEST, CLAMP and HIGHZ run as BYPASS, and does nothing
else. (R409, R411, R412, R421, R323, R420, R452) -/
def Obligations.ResetsRestoreTheRegisters : Prop :=
  (∀ (v : Bool) (s : State), ∃ t, exec (.powerOnReset v) s = .next t ∧ t.AfterReset s 0) ∧
  (∀ s : State, s.dev.st ≠ .locked → s.dev.rst = false → ∃ t, exec .resetn s = .next t ∧ t.AfterReset s 1) ∧
  (∀ s : State, s.dev.st ≠ .locked → s.dev.rst = false →
    ∃ t, exec (.testen true) s = .next t ∧ t.AfterReset s 1 ∧ t.dev.testen = true) ∧
  (∀ s : State, ∃ i, exec (.testen false) s = .next { s.begin with dev := { s.dev with testen := false, tap := i } } ∧
    (s.dev.tap ∈ [TapInstr.bypass, .idcode, .sample] → i = s.dev.tap) ∧
    (s.dev.tap ∈ [TapInstr.extest, .clamp, .highz, .other] → i = .bypass)) ∧
  (∀ s : State, s.dev.st ≠ .locked → s.dev.rst = false → 4 ≤ s.twin.prstGot →
    ∃ t, exec .twinCommandedReset s = .next t ∧ t.AfterReset s 3) ∧
  (∀ (h : Fin 3) (s : State), s.StoresWf → s.Takes h 0x0009 0x5A000004 →
    ∃ t, exec (.devSoftReset h 0x5A) s = .next t ∧ t.AfterReset s 2)

/-- An accepted CLK_FRAME_LO_READ copies the upper 32 bits of the frame counter into the reading host's snapshot, which
CLK_FRAME_HI then returns to that host and to no other. PERF_CTR_READ of counter n below 31 copies counter n + 1, as it stands
in the cycle of the read (how many cycles have passed since the command before is the model's free number, log entry 72), into
the host's PERF_SNAPHI. CAPDATA_READ advances the pointer by two samples. ENG_STDAT_READ changes no register. Nothing else
moves. A read of CLK_UPTIME returns, in every state and to every host, the frame counter divided by 1,000,000, rounded down
(R72; the register has 32 bits). (R72, R73, R403, R102, R162, R433) -/
def Obligations.SnapshotReads : Prop :=
  (∀ (h : Fin 3) (s : State), s.StoresWf → s.Reads h 0x010A →
    ∃ t, exec (.clkFrameLoRead h) s = .next t ∧ t = s.wrote t ∧ SameRegs [hostKey h 0x010B] s t ∧ t.twin = s.twin ∧
      readReg t h 0x010B = BitVec.ofNat 32 (s.dev.frame / 4294967296) ∧
      ∀ g < 3, g ≠ h.val → readReg t g 0x010B = readReg s g 0x010B) ∧
  (∀ (h : Fin 3) (n : Fin 32) (s : State), s.StoresWf → s.Reads h (0x0520 + n.val) →
    ∃ t, exec (.perfCtrRead h n) s = .next t ∧ t = s.wrote t ∧ SameRegs [hostKey h 0x050B] s t ∧ t.twin = s.twin ∧
      (n.val < 31 → readReg t h 0x050B = BitVec.ofNat 32 ((s.begin h).perf.ctr.getD (n.val + 1) 0)) ∧
      (n.val = 31 → SameRegs [] s t)) ∧
  (∀ (h : Fin 3) (s : State), s.StoresWf → s.Reads h 0x0D46 →
    ∃ t, exec (.capdataRead h) s = .next t ∧ t = s.wrote t ∧ SameRegs [0x0D45] s t ∧ t.twin = s.twin ∧
      t.reg 0x0D45 = BitVec.ofNat 32 ((fld (s.reg 0x0D45) 11 0 + 2) % 4096)) ∧
  (∀ (h : Fin 3) (s : State), s.StoresWf → s.Reads h 0x0E12 →
    ∃ t, exec (.engStdatRead h) s = .next t ∧ t = s.wrote t ∧ SameRegs [] s t ∧ t.twin = s.twin) ∧
  (∀ (s : State) (h : Fin 3), (readReg s h 0x010C).toNat = s.dev.frame / 1000000 % 2 ^ 32)

/-- REFERENCE_LOSS and PLL_UNLOCK of a device out of reset and past the PLL's first lock stop the derived clocks, put every output
in high impedance and a device in IDLE, ACTIVE or STANDBY in SAFE, make a paired device that is then in SAFE or LOCKED carry
the safe pattern on its own lanes in place of frames, and count and note their cause. PLL_RELOCK of a device in SAFE or LOCKED
lets the clocks run again and CLK_REF_LOSS or CLK_PLL_UNLOCK wait for each loss detected; the relock is an own edge, at which
a device with TWIN_CFG.EN = 1 begins a frame with the frame number held. What the model chooses: the rails, the engine and the
waiting messages stand as they are at the loss (log entry 69); a FORMING device that the loss takes to SAFE becomes ORPHAN
(R303 speaks of BOOT's end only; log entry 94); the RC measurement saturates at 65535 (log entry 122), and the 1000 frames
between two measurements are counted from the reset on (log entry 158). RC_MEASUREMENT before 1000 frames have passed since
the last one does nothing; else it stores the count, so saturated, and RCOK changes at the second of two consecutive
measurements that disagree with it; CLK_RC_FAIL then stands exactly while RCOK is 0. (R64, R65, R66, R67, R68, R316) -/
def Obligations.ClockLossAndReturn : Prop :=
  (∀ (b : Bool) (s : State), s.dev.rst = false → s.dev.pllUp = true →
    ∃ t, exec (if b then .referenceLoss else .pllUnlock) s = .next t ∧ t.dev.clkStop = true ∧ t.Quiet ∧
      t.NoDrive ∧ (if b then t.dev.lossRef = true else t.dev.lossPll = true) ∧
      (s.dev.st ∈ [DevState.idle, .active, .standby] → t.dev.st = .safe ∧ t.fc.safe = true) ∧
      (s.dev.st ∈ [DevState.boot, .safe, .locked] → t.dev.st = s.dev.st) ∧
      t.dev.refLoss = (if b then satInc 65535 s.dev.refLoss else s.dev.refLoss) ∧
      t.dev.pllUnlk = (if b then s.dev.pllUnlk else satInc 65535 s.dev.pllUnlk) ∧
      (s.nv.cur = none → t.fc.pend = s.fc.pend) ∧ t.rails = s.rails ∧ t.eng = s.eng ∧
      t.twin = { s.twin with tx := none, pst := if t.dev.st = .safe ∧ s.twin.pst = .forming then .orphan else s.twin.pst
                             pattern := (t.dev.st == .safe || t.dev.st == .locked) && bit (s.reg 0x0908) 31 }) ∧
  (∀ s : State, s.dev.rst = false → s.dev.clkStop = true → s.dev.st = .safe ∨ s.dev.st = .locked →
    ∃ t, exec .pllRelock s = .next t ∧ t.dev.clkStop = false ∧ t.dev.st = s.dev.st ∧ t.Quiet ∧
      t.dev.lossRef = false ∧ t.dev.lossPll = false ∧
      (s.dev.lossRef = true → t.Waits 0x01 0 0) ∧ (s.dev.lossPll = true → t.Waits 0x02 0 0) ∧
      (bit (s.reg 0x0908) 31 = true → ∃ f, t.twin.tx = some f ∧ f.hb.toNat = s.dev.frame % 65536)) ∧
  (∀ (n : Nat) (s : State), s.Runs → s.dev.pllUp = true → 1000 ≤ s.dev.rcAge → (s.Stands 0x03 0 ↔ s.dev.rcOk = false) →
    ∃ t, exec (.rcMeasurement n) s = .next t ∧ t = { s.conds t with dev := t.dev } ∧ t.dev.rcMeas = min 65535 n ∧ t.dev.rcAge = 0 ∧
      (t.Stands 0x03 0 ↔ t.dev.rcOk = false) ∧
      (decide (28800 ≤ n ∧ n ≤ 35200) = s.dev.rcOk → t.dev.rcOk = s.dev.rcOk ∧ t.dev.rcRun = 0) ∧
      (decide (28800 ≤ n ∧ n ≤ 35200) ≠ s.dev.rcOk → 1 ≤ s.dev.rcRun → t.dev.rcOk = !s.dev.rcOk) ∧
      (decide (28800 ≤ n ∧ n ≤ 35200) ≠ s.dev.rcOk → s.dev.rcRun = 0 → t.dev.rcOk = s.dev.rcOk ∧ t.dev.rcRun = 1)) ∧
  (∀ (n : Nat) (s : State), s.dev.rcAge < 1000 → exec (.rcMeasurement n) s = .next s.begin)

/-- With no reset, running clocks and a locked PLL it advances the 64-bit frame counter by one, but for the first after a soft or
twin-commanded reset, which begins frame 0 (log entries 4, 12: the model's choice) and only brings the grid accumulator up to
the edge and ends a frame of the performance unit (log entry 72). In BOOT the grid accumulator advances by the CKS edges the
frame still had to come (50 if last priced at a frame edge), the windows and timers that count frames run, and nothing else
changes (log entries 11, 12, 109: the model's choice). Out of BOOT: the device state, trip latches, flash array and queued
flash operations stay, and a rail in OFF is still in OFF; the published count of a generator that counts is the CNT since its
period began, held at the period's end (log entry 35: the model's choice); every rail has its absolute conversion's voltage,
scaled (completing at the edge: log entry 111, the model's choice); unless the device follows its partner's rails, the
reference of a running rail moves toward the frame's target by at most the slew step; a rail in RAMP enters REGULATE when the
reference is at the target, a follower only when it has also reached its setpoint, and a rail in STOPPING ends in OFF when its
mode's end has come; the blend weight of a rail out of OFF moves one step toward its target, in a debug halt too; where the
device follows, every rail takes the state of the latest RSTATE (with no phase on dead reckoning); IF is set at the first
frame of RAMP and filtered after it; a paired device sends a frame with its number, its rails' states and, as a primary, up to
four writes, the queued ones before the rest of a copy (which writes and values: log entry 98, the model's choice); PALIVE,
seen once a frame (log entry 97), undriven on a second frame makes the partner's ALIVE undriven, an edge makes it toggling, an
edge overdue makes it stopped, and a frame without a valid frame counts in LOSSCNT. (R70, R78, R107, R168, R176, R181, R192,
R204, R211, R306, R307, R315) -/
def Obligations.FrameTickAdvances : Prop :=
  (∀ (a : List (BitVec 14)) (m : List Bool) (p : Pal) (x : List Pal) (b : Bool) (w : List Nat) (s : State), s.Runs → s.dev.pllUp = true →
    s.dev.fresh = true →
    exec (.frameTick a m p x b w) s = .next { perfEdge w s.begin with
      dev := { s.dev with fresh := false }
      grid := { s.grid with acc := (s.grid.acc + (50 - s.grid.accAt % 50) * incNow s) % 1099511627776, accAt := 50 * s.dev.frame } }) ∧
  (∀ (a : List (BitVec 14)) (m : List Bool) (p : Pal) (x : List Pal) (b : Bool) (w : List Nat) (s : State), s.Runs → s.dev.pllUp = true →
    s.dev.fresh = false → s.dev.st = .boot →
    exec (.frameTick a m p x b w) s = .next { s.begin with
      clk := (perfEdge w s.begin).clk
      dev := { s.dev with frame := (s.dev.frame + 1) % 18446744073709551616
                          aliveLeft := if s.fc.safe then s.dev.aliveLeft else s.dev.aliveLeft - 1
                          rcAge := satInc 1000 s.dev.rcAge }
      grid := { s.grid with acc := (s.grid.acc + (50 - s.grid.accAt % 50) * incNow s) % 1099511627776
                            accAt := 50 * ((s.dev.frame + 1) % 18446744073709551616) }
      eng := { s.eng with winLeft := s.eng.winLeft - 1 }, perf := { (perfEdge w s.begin).perf with bwLeft := s.perf.bwLeft - 1 } }) ∧
  (∀ (a : List (BitVec 14)) (m : List Bool) (q : Pal) (x : List Pal) (b : Bool) (w : List Nat) (s : State), s.Works → s.dev.pllUp = true →
    s.dev.fresh = false →
    ∃ t, exec (.frameTick a m q x b w) s = .next t ∧ t.dev.frame = (s.dev.frame + 1) % 18446744073709551616 ∧ t.dev.st = s.dev.st ∧
      t.tripLatch = s.tripLatch ∧ t.nv.flash = s.nv.flash ∧ t.nv.queue = s.nv.queue ∧ t.perf.bwLeft = s.perf.bwLeft - 1 ∧
      (∀ p < 48, counts s p = true → (s.ph p).gen.going = true → (t.ph p).gen.going = true →
        (t.ph p).gen.count = min (t.dev.frame * 400 - (s.ph p).gen.org) ((s.ph p).gen.curPer - 1)) ∧
      (∀ r < 16, (s.OwnRails → (s.rail r).st = .off → (t.rail r).st = .off) ∧
        (t.rail r).vabsV = ((a.getD r 0).toNat : Rat) * (1.6 / 16384) ∧
        (bf (s.rr r 0x0C) ≠ 0 → (t.rail r).vabs = toPU16 (((a.getD r 0).toNat : Rat) * (1.6 / 16384) / bf (s.rr r 0x0C)))) ∧
      (machinesRun s = true → s.OwnRails → ∀ r < 16, (s.rail r).st.running = true → (s.rail r).stopPend = false → (s.rail r).gangPend = none →
        ((t.rail r).ref = if (s.rail r).ref < (t.rail r).target * 65536 then
            min ((s.rail r).ref + slewStep (fld (s.rr r 0x22) 31 16)) ((t.rail r).target * 65536)
          else max ((s.rail r).ref - slewStep (fld (s.rr r 0x22) 15 0)) ((t.rail r).target * 65536)) ∧
        ((s.rail r).st = .ramp → (t.rail r).st =
          if (t.rail r).ref = (t.rail r).target * 65536 ∧ (fld (s.rr r 0x21) 3 0 = 9 → (t.rail r).trkdone = true) then .regulate
          else .ramp) ∧
        ((s.rail r).st = .stopping → (t.rail r).st =
          if (s.rail r).stopMode = 2 ∧ (slewStep (fld (s.rr r 0x22) 15 0) < (s.rail r).rampHi ∨
              slewStep (fld (s.rr r 0x22) 15 0) < (s.rail r).rampLo) then .stopping
          else if (s.rail r).stopMode = 1 ∧ (t.rail r).ref ≠ (t.rail r).target * 65536 then .stopping else .off) ∧
        ((s.rail r).st = .ramp → (s.rail r).frames = 0 → (t.rail r).ifilt = (s.rail r).irail.natAbs * 65536) ∧
        ((s.rail r).st ∈ [RailState.ramp, .limit, .drip, .brake] → 0 < (s.rail r).frames →
          (t.rail r).ifilt = (((s.rail r).ifilt : Int) +
            shrAway (((s.rail r).irail.natAbs * 65536 : Nat) - ((s.rail r).ifilt : Int)) (fld (s.rr r 0x38) 27 24)).toNat)) ∧
      (s.OwnRails → ∀ r < 16, (s.rail r).st ≠ .off → (t.rail r).st ≠ .off → (t.rail r).w =
        if (s.rail r).w < blendTarget s r then (s.rail r).w + 1
        else if blendTarget s r < (s.rail r).w then (s.rail r).w - 1 else (s.rail r).w) ∧
      (¬ s.OwnRails → (∀ p < 48, (s.ph p).est = false) → ∀ r < 16, (t.rail r).st = RailState.ofCode (s.twin.rstate.getD r 0)) ∧
      (twinOn s = true → (∃ f, t.twin.tx = some f ∧ f.hb.toNat = t.dev.frame % 65536 ∧ f.role = s.dev.role ∧ f.cls4 = s.fc.safe ∧
          f.pst = t.twin.pst.code ∧
          (s.twin.pst = .primary → f.wr = s.twin.wrq.take 4 ++ (copyRest { t with twin := s.twin }).take (4 - (s.twin.wrq.take 4).length) ∧
            t.twin.wrq = s.twin.wrq.drop 4) ∧
          (isStandby s = true → f.wr = [] ∧ f.corr = .nothing ∧ f.pcnt = 0 ∧ f.rstate = List.replicate 16 0) ∧
          (isStandby s = false → f.rstate = (List.range 16).map fun r => (t.rail r).st.code)) ∧
        (q = .undriven → 1 ≤ s.twin.palRun → s.twin.palRun ≤ 2 → t.twin.pal = 2) ∧
        (∀ l, s.twin.palLvl = some l → q = (if l then .low else .high) → t.twin.pal = 0 ∧ t.twin.palEdge = 0) ∧
        (∀ l, s.twin.palLvl = some l → q = (if l then .high else .low) → s.twin.palDue = some 1 → t.twin.pal = 1) ∧
        t.twin.loss = (if s.twin.got then 0 else satInc 15 s.twin.loss)))

/-- An ENGINE_UPDATE of C(r), with no commit pending, no injection, no gang reference and the notch's coefficients computed, takes
as error the held reference less VLOOP, or the negative for QTY = INV; with LUTEN the gain of the table and α scale it (α's
place is the model's reading, log entry 45); with ripple handling it is blended with the notch by the weight; the stages of
the active bank run on it, or are preloaded once with the output handed over less the feed-forward and ripple terms. Where the
loop's output is the rail's, its result plus the ripple term (and d_ff in a DIRECT rail) is clamped, by RCOMP_DLIM or by the
limiter's bounds, and reaches every ACTIVE phase: the duty plus its trim, clamped, as a complete set, or its share of the
current reference. A learning table moves one entry by RTAB_MU times the error, within its bounds. In LIMIT the stages are
preloaded with the limiter's output and then compute their law: the rail leaves, with that result as its output, exactly where
it asks for less transfer in the limited direction (log entry 46), to REGULATE with the reference at its target and else to
RAMP; else nothing of it takes effect. The gain at a rising table's breakpoints and between them, the compare of a duty and
d_ff are those of R147, R153 and R151. (R93, R146, R147, R151, R152, R153, R154, R155, R179, R198, R200, R203) -/
def Obligations.VoltageLoopUpdates : Prop :=
  (∀ (k : Fin 8) (l : Nat) (d : Bool) (q : QItem) (r : Nat) (s : State), s.StoresWf → s.Serves q r → q.ctx = r → r < 16 →
    (s.rail r).st ∈ [RailState.ramp, .regulate, .stopping] → limited s r = false → s.cup.run = false → gangRef s r = none →
    (s.rail r).notchDue = false →
    ∃ t e g x term o, exec (.engineUpdate l d k) s = .next t ∧
      e = (if bit (s.rr r 0x08) 3 then ((s.rail r).vloop : Int) - (s.rail r).uRef else ((s.rail r).uRef : Int) - (s.rail r).vloop) ∧
      g = (if bit (s.actC r 0x08) 1 then lutGain s r e * bf (s.cup.alpha.getD r 0x400001) * puI e else puI e) ∧
      x = (if fld (s.tr r 0x88) 31 30 = 0 then g
        else weight s r * g + (1 - weight s r) * ((notchStage s r).run (s.rail r).notch (sigOf g)).2.val) ∧
      term = (if fld (s.tr r 0x88) 31 30 = 0 then 0 else weight s r * ((tabEntry s r (tabIndex s r) : Rat) / 4194304)) ∧
      o = (match (s.rail r).plV with
        | none => runStages (stagesOf (s.actC r) 0x10) (blocksOf s r) (sigOf x)
        | some u => preloadStages (stagesOf (s.actC r) 0x10) (sigOf x) (u - (term + if cascade s r then 0 else dff s r))) ∧
      blocksOf t r = o.1 ∧ (t.rail r).plV = none ∧
      (railBase s r ≠ 0 → (t.rail r).irail = toSPU16 (sumR ((activeOf s r).map fun p => iOf s p * phBase s p) / railBase s r)) ∧
      (cascade s r = false → (t.rail r).out = dlim s r (o.2.val + term + dff s r) ∧
        ∀ p ∈ activeOf s r, t.Emits s p (topo s r == 1) (dlim s r ((t.rail r).out + puI (s.ph p).trim))) ∧
      (cascade s r = true → (t.rail r).out = puI (toSPU16 (clampR (boundsOf s r).2 (boundsOf s r).1 (o.2.val + term))) ∧
        (sumR ((activeOf s r).map (phBase s)) ≠ 0 → ∀ p ∈ activeOf s r,
          (t.ph p).iref = puI (toSPU16 ((t.rail r).out * railBase s r / sumR ((activeOf s r).map (phBase s)))))) ∧
      ∀ i < 256, tabEntry t r i =
        if learns s r = true ∧ i = (tabIndex s r + 256 - fld (s.tr r 0x88) 20 16) % 256 then
          clampI (s16 (fld (s.tr r 0x8B) 15 0) * 256) (s16 (fld (s.tr r 0x8B) 31 16) * 256)
            (tabEntry s r i + roundAway (bf (s.tr r 0x8A) * (e : Rat) * 256))
        else tabEntry s r i) ∧
  (∀ (k : Fin 8) (l : Nat) (d : Bool) (q : QItem) (r : Nat) (s : State), s.StoresWf → s.Serves q r → q.ctx = r → r < 16 →
    (s.rail r).st = .limit → s.cup.run = false → gangRef s r = none → fld (s.tr r 0x88) 31 30 = 0 → bit (rgOf s r 2) 31 = false →
    ∃ t x v o u, exec (.engineUpdate l d k) s = .next t ∧ x = sigOf (gained s r (errV s r)) ∧
      v = (preloadStages (stagesOf (s.actC r) 0x10) x ((s.rail r).limOut - if cascade s r then 0 else dff s r)).1 ∧
      o = runStages (stagesOf (s.actC r) 0x10) v x ∧ u = o.2.val + (if cascade s r then 0 else dff s r) ∧ blocksOf t r = o.1 ∧
      if (if (s.rail r).limdir = 2 then (s.rail r).limOut < u else u < (s.rail r).limOut) then
        (t.rail r).limdir = 0 ∧ (t.rail r).st = (if (s.rail r).ref = (s.rail r).target * 65536 then .regulate else .ramp) ∧
        (t.rail r).out = if cascade s r then puI (toSPU16 (clampR (boundsOf s r).2 (boundsOf s r).1 u)) else dlim s r u
      else (t.rail r).st = .limit ∧ (t.rail r).limdir = (s.rail r).limdir ∧ (t.rail r).out = (s.rail r).out ∧ ∀ p, t.ph p = s.ph p) ∧
  (∀ (r k : Nat) (e : Int) (s : State), (∀ j < 31, lutX s r j < lutX s r (j + 1)) → -32768 ≤ e → e ≤ 32767 → k < 31 →
    (e ≤ lutX s r 0 → lutGain s r e = lutG s r 0) ∧ (lutX s r 31 ≤ e → lutGain s r e = lutG s r 31) ∧
    (lutX s r k ≤ e → e < lutX s r (k + 1) → lutGain s r e = lutG s r k +
      bf (toBF ((lutG s r (k + 1) - lutG s r k) / puI (lutX s r (k + 1) - lutX s r k))) * puI (e - lutX s r k))) ∧
  (∀ (b : Bool) (d h : Rat) (per : Nat), h = (if b then 1 - d else d) → (h ≤ 0 → cmpOf b d per = 0) ∧ (1 ≤ h → cmpOf b d per = 0x3FFFFF) ∧
    (0 < h → h < 1 → (cmpOf b d per : Int) = roundAway (h * per * 64))) ∧
  (∀ (r : Nat) (s : State) (own oth rho : Rat), own = pu (refCode s r) → oth = bf (s.actC r 0x0D) * pu (ffCode s r) →
    rho = (if ownInd s r then own * bf (toBF (1 / max oth (1 / 16))) else oth * bf (toBF (1 / max own (1 / 16)))) →
    dff s r = if ffsrc s r = 0x3F ∨ (s.rail r).ffLost = true then 0 else if topo s r = 1 then 1 - rho else rho)

/-- A WINDOW_CONVERSION puts the conversion in front of the rail's latest sixteen, out of window exactly at the codes -512 and
511, with the runs of either kind counted to 16 and the source armed again by 16 inside; it keeps the absolute voltage that
stands at its own completion as what replaces it where it is out of window (R77 does not say at which instant that is the most
recent; the model's choice, log entry 123). VS_WINDOW after 16 outside, armed, raises the source and disarms it. VS_RANGE
stands from 4 conversions against the range and VS_FAIL from 8 disagreements, and each clears after as many the other way.
VOLTAGE_MEASUREMENT_END, when the next instant of the grid of R89 in the lead phase's period lies in this frame and enough
conversions are there, writes VLOOP with the mean, scaled, counts each out-of-window conversion it used in the rail's count
(R77, saturating at 65535), holds the reference of that instant and the grid angle at the CKS edge that ends it (R90) for the
update, gives the DAC the reference's code and triggers the rail's voltage loop when its context is active. (R75, R76, R77,
R79, R90, R89, R198) -/
def Obligations.WindowAndAbsoluteSensing : Prop :=
  (∀ (r : Fin 16) (w : BitVec 10) (s : State), s.Works →
    ∃ t o, exec (.windowConversion r w) s = .next t ∧ t = { s.begin with rails := t.rails } ∧ OtherRails r s t ∧
      o = decide (w.toInt = -512 ∨ w.toInt = 511) ∧
      t.rail r = { s.rail r with
        win := (⟨o, winVolts (s.rail r).vdac w.toInt, (s.rail r).vabsV⟩ :: (s.rail r).win).take 16, oow := o
        oowRun := if o then satInc 16 (s.rail r).oowRun else 0, inRun := if o then 0 else satInc 16 (s.rail r).inRun
        vsArmed := (s.rail r).vsArmed || (!o && satInc 16 (s.rail r).inRun == 16) }) ∧
  (∀ (r : Fin 16) (s : State), s.Runs → (s.rail r).oowRun = 16 → (s.rail r).vsArmed = true →
    ∃ t, exec (.vsWindow r) s = .next t ∧ t = { s.msgs t with rails := t.rails } ∧ t.Waits 0x70 0 r ∧ OtherRails r s t ∧
      t.rail r = { s.rail r with vsArmed := false }) ∧
  (∀ (r : Fin 16) (s : State), s.Runs → (s.rail r).vsRange.on = false → 4 ≤ (s.rail r).vsRange.up →
    ∃ t, exec (.vsRange r) s = .next t ∧ (t.rail r).vsRange.on = true ∧ t.Stands 0x71 r) ∧
  (∀ (r : Fin 16) (s : State), s.Runs → (s.rail r).vsRange.on = true → 4 ≤ (s.rail r).vsRange.dn →
    ∃ t, exec (.vsRange r) s = .next t ∧ (t.rail r).vsRange.on = false ∧ ¬ t.Stands 0x71 r) ∧
  (∀ (r : Fin 16) (s : State), s.Runs → (s.rail r).vsFail.on = false → 8 ≤ (s.rail r).vsFail.up →
    ∃ t, exec (.vsFail r) s = .next t ∧ (t.rail r).vsFail.on = true ∧ t.Stands 0x72 r) ∧
  (∀ (r : Fin 16) (s : State), s.Runs → (s.rail r).vsFail.on = true → 8 ≤ (s.rail r).vsFail.dn →
    ∃ t, exec (.vsFail r) s = .next t ∧ (t.rail r).vsFail.on = false ∧ ¬ t.Stands 0x72 r) ∧
  (∀ (r : Fin 16) (p c : Nat) (s : State), s.Works → leadOf s r = some p → counts s p = true → (s.ph p).gen.going = true →
    (voltageGrid s r (s.ph p).gen.curPer)[(s.rail r).vmN]? = some c → (s.ph p).gen.org + c < (s.dev.frame + 1) * 400 →
    fld (s.rr r 0x10) 19 16 + 1 ≤ (s.rail r).win.length →
    ∃ t, exec (.voltageMeasurementEnd r) s = .next t ∧ (t.rail r).vmN = (s.rail r).vmN + 1 ∧
      (t.rail r).oowCnt = satAdd 65535 (s.rail r).oowCnt (((s.rail r).win.take (fld (s.rr r 0x10) 19 16 + 1)).countP (·.oow)) ∧
      (t.rail r).uRef = refCode s r ∧ (t.rail r).uAng = angAt s (cksOf ((s.ph p).gen.org + c)) ∧
      (t.rail r).vdac = (if ctxActive s r then vdacCode s r else (s.rail r).vdac) ∧
      (bf (s.rr r 0x0C) ≠ 0 → (t.rail r).vloop = toPU16
        (sumR (((s.rail r).win.take (fld (s.rr r 0x10) 19 16 + 1)).map fun w => if w.oow then w.abs else w.v)
          / ((fld (s.rr r 0x10) 19 16 + 1 : Nat) : Rat) / bf (s.rr r 0x0C))) ∧
      OtherRails r s t ∧ t.phases = s.phases ∧ t.bank = s.bank ∧
      (ctxActive s r = true → t.eng.queue.any (fun q => q.ctx == r.val) = true))

/-- CONTROL_CONVERSION_START at the first CKS edge at or beyond the target minus LEAD, within the period and this frame and once
in the period, starts the control conversion, whose sample ends four CKS cycles later (R83 and R88 give the pace and no end;
the model's choice, log entry 120). CONTROL_CONVERSION_END of one in progress, of a generator that counts, ends it and writes
ISAMP with the scaled code, and an ACTIVE phase on dead reckoning whose observer does not run becomes FAILED, which 0x3A
reports; of one that is halted, frozen or stopped it does nothing. FREE_RUNNING_CONVERSION while none is in progress adds the
code to the period's sums when the generator runs. OFFSET_MEASUREMENT of a phase that PRECHECK still waits for writes the
rounded mean as the offset, takes the phase off the list, and IS_OFFSET stands exactly when the mean's magnitude exceeds 64.
(R82, R83, R87, R88, R92, R139, R227) -/
def Obligations.CurrentSensing : Prop :=
  (∀ (p : Fin 48) (n a : Nat) (s : State), s.Works → counts s p = true → (s.ph p).gen.going = true → (s.ph p).sampled = false →
    sampleTargetOf (s.ph p) = some a → a - (s.ph p).slead ≤ n → n < a - (s.ph p).slead + 8 → ((s.ph p).gen.org + n) % 8 = 0 →
    n < (s.ph p).gen.curPer → (s.ph p).gen.org + n < (s.dev.frame + 1) * 400 →
    ∃ t, exec (.controlConversionStart p n) s = .next t ∧ t = { s.begin none (some ((s.ph p).gen.org + n)) with phases := t.phases } ∧
      OtherPhases p s t ∧
      t.ph p = { s.ph p with sampled := true, converting := true, convAt := ((s.ph p).gen.org + n) / 8 + 4 }) ∧
  (∀ (p : Fin 48) (c : BitVec 12) (s : State), counts s p = false →
    exec (.controlConversionEnd p c) s = .next (s.begin none (some (8 * (s.ph p).convAt)))) ∧
  (∀ (p : Fin 48) (c : BitVec 12) (s : State), s.Works → counts s p = true → (s.ph p).converting = true → bf (s.pr p 0x0A) ≠ 0 →
    ((s.ph p).est = true → (s.ph p).pst = .active → obsCan s p = true) →
    ∃ t, exec (.controlConversionEnd p c) s = .next t ∧ (t.ph p).converting = false ∧ (t.ph p).ilast = (t.ph p).isamp ∧
      (t.ph p).isamp = toSPU16 (((c.toInt : Rat) - (iofsOf s p : Rat)) * iStep s p / bf (s.pr p 0x0A)) ∧
      OtherPhases p s t ∧ t.rails = s.rails ∧ t.bank = s.bank) ∧
  (∀ (p : Fin 48) (c : BitVec 12) (s : State), s.Works → (s.ph p).converting = false →
    ∃ t, exec (.freeRunningConversion p c) s = .next t ∧ t = { s.msgs t with phases := t.phases } ∧ OtherPhases p s t ∧
      (bf (s.pr p 0x0A) ≠ 0 →
        (t.ph p).ilast = toSPU16 (((c.toInt : Rat) - (iofsOf s p : Rat)) * iStep s p / bf (s.pr p 0x0A))) ∧
      (t.ph p).isamp = (s.ph p).isamp ∧
      (counts s p = true → (s.ph p).gen.going = true →
        (t.ph p).frSum = (s.ph p).frSum + c.toInt ∧ (t.ph p).frN = (s.ph p).frN + 1)) ∧
  (∀ (p : Fin 48) (r : Nat) (l : List (BitVec 12)) (s : State), s.Works → railOf s p = some r → (s.rail r).st = .precheck →
    (s.rail r).ofsLeft.contains p.val = true → l ≠ [] →
    ∃ t m, exec (.offsetMeasurement p l) s = .next t ∧ m = roundAway ((sumI (l.map (·.toInt)) : Rat) / (l.length : Rat)) ∧
      t = { s.conds t with phases := t.phases, rails := t.rails } ∧ OtherPhases p s t ∧ OtherRails r s t ∧ (t.ph p).iofs = m ∧
      t.rail r = { s.rail r with ofsLeft := (s.rail r).ofsLeft.filter (· != p.val) } ∧
      (t.Stands 0x74 p ↔ 64 < m.natAbs)) ∧
  (∀ (p : Fin 48) (r : Nat) (c : BitVec 12) (s : State), s.Works → counts s p = true → (s.ph p).converting = true →
    railOf s p = some r → (s.ph p).est = true → (s.ph p).pst = .active → obsCan s p = false →
    ∃ t, exec (.controlConversionEnd p c) s = .next t ∧ (t.ph p).converting = false ∧ (t.ph p).pst = .failed ∧ t.Waits 0x3A 0 p)

/-- An AUX_CONVERSION goes to the next slot of the round: a channel's raw code and scaled value, the die temperature, or VCORE,
VANA, VIO; the enabled channels of the next round are taken as the one before it ends. AUX_RANGE stands after 4 conversions at
full scale and clears after 4 below. A SAR_SELF_CHECK passes where the conversion of the 1.2 V reference (code 12288 of the
1.6 V span) lies within ±0.5 %; SAR_SELF stands and clears after 2 of either result, DEV_TWARN and DEV_TSHUT after 4 beyond
their level, DEV_SUPPLY after 4 outside the range. (R94, R95, R248, R297) -/
def Obligations.AuxiliaryConverter : Prop :=
  (∀ (v : BitVec 16) (slot : Nat) (rest : List Nat) (s : State), s.Works →
    (if s.aux.round = [] then auxRound s else s.aux.round) = slot :: rest →
    ∃ t, exec (.auxConversion v) s = .next t ∧ t.aux.round = (if rest = [] then auxRound s else rest) ∧
      (slot < 16 → t.aux.raw = s.aux.raw.set slot (v.toNat % 16384) ∧
        (bf (s.reg (0x0D10 + slot)) ≠ 0 → t.aux.val = s.aux.val.set slot
          (toPU16 (((v.toNat % 16384 : Nat) : Rat) * (1.6 / 16384) / bf (s.reg (0x0D10 + slot)))))) ∧
      (slot = 16 → t.aux.tdie = s16 v.toNat ∧ t.aux.raw = s.aux.raw) ∧ (slot = 17 → t.aux.vcore = v.toNat) ∧
      (slot = 18 → t.aux.vana = v.toNat) ∧ (slot = 19 → t.aux.vio = v.toNat)) ∧
  (∀ (n : Fin 16) (s : State), s.Runs → s.aux.range.length = 16 → (s.aux.range.getD n Cond.init).on = false →
    4 ≤ (s.aux.range.getD n Cond.init).up →
    ∃ t, exec (.auxRange n) s = .next t ∧ (t.aux.range.getD n Cond.init).on = true ∧ t.Stands 0x75 n) ∧
  (∀ (n : Fin 16) (s : State), s.Runs → s.aux.range.length = 16 → (s.aux.range.getD n Cond.init).on = true →
    4 ≤ (s.aux.range.getD n Cond.init).dn →
    ∃ t, exec (.auxRange n) s = .next t ∧ (t.aux.range.getD n Cond.init).on = false ∧ ¬ t.Stands 0x75 n) ∧
  (∀ (c : BitVec 14) (b : Bool) (s : State), s.Works →
    b = decide (1.2 * 0.995 ≤ (c.toNat : Rat) * (1.6 / 16384) ∧ (c.toNat : Rat) * (1.6 / 16384) ≤ 1.2 * 1.005) →
    (if b then 1 ≤ s.aux.sarSelf.dn else 1 ≤ s.aux.sarSelf.up) →
    ∃ t, exec (.sarSelfCheck c) s = .next t ∧ t.aux.sarSelf.on = !b ∧ (t.Stands 0x76 0 ↔ b = false)) ∧
  (∀ s : State, s.Works →
    ∃ t, exec .dieTemperatureGuard s = .next t ∧ t = { s.conds t with aux := t.aux } ∧
      (s.aux.dieWarn.on = false → 4 ≤ s.aux.dieWarn.up → t.Stands 0x07 0) ∧
      (s.aux.dieWarn.on = true → 4 ≤ s.aux.dieWarn.dn → ¬ t.Stands 0x07 0) ∧
      (s.aux.dieShut.on = false → 4 ≤ s.aux.dieShut.up → t.Stands 0x08 0) ∧
      (s.aux.dieShut.on = true → 4 ≤ s.aux.dieShut.dn → ¬ t.Stands 0x08 0)) ∧
  (∀ (n : Fin 3) (s : State), s.Works →
    ∃ t, exec (.devSupply n) s = .next t ∧ t = { s.conds t with aux := { s.aux with supply := t.aux.supply } } ∧
      ((s.aux.supply.getD n Cond.init).on = false → 4 ≤ (s.aux.supply.getD n Cond.init).up → t.Stands 0x09 n) ∧
      ((s.aux.supply.getD n Cond.init).on = true → 4 ≤ (s.aux.supply.getD n Cond.init).dn → ¬ t.Stands 0x09 n))

/-- A SPA_CONVERSION puts its code in front of the input's history, computes the setpoint from the mean of the latest 2^FILT codes
(of those made so far, before there are as many: R96 is silent, the model's choice, log entry 26), offset plus gain times
voltage, and at full scale raises SPA_RANGE. A SPP_PERIOD_MEASURED whose levels are, after the glitch filter of 8 × GLITCH
CNT, one high and one low level: a period within 4000 to 400000 CNT gives the duty and the setpoint and ends a loss; outside
it the period only counts as invalid. Levels shorter than the filter do not end the level around them, and where no single
period is left nothing happens. SPP_LOSS of an enabled input after 4 invalid periods, or where no edge has come for TOUT
frames, makes the source stand: no measured period for as long, and the levels seen since it hold no edge that the glitch
filter lets pass, or the level after their last such edge has lasted as long; where neither is so nothing happens. (R96, R97) -/
def Obligations.SetpointInputs : Prop :=
  (∀ (n : Fin 4) (c : BitVec 14) (s : State), s.Works →
    ∃ t used, exec (.spaConversion n c) s = .next t ∧ t = { s.msgs t with spa := t.spa } ∧
      used = ((c.toNat :: (s.spa.getD n ⟨[], 0⟩).hist).take 128).take (2 ^ fld (s.reg (0x0A08 + n.val)) 26 24) ∧
      t.spa = s.spa.set n ⟨(c.toNat :: (s.spa.getD n ⟨[], 0⟩).hist).take 128,
        toPU16 (puI (s16 (fld (s.reg (0x0A0C + n.val)) 15 0)) + bf (setFld (s.reg (0x0A08 + n.val)) 31 24 0) *
          ((sumN used : Rat) / (used.length : Rat) * (1.6 / 16384)))⟩ ∧
      (c.toNat = 0x3FFF → t.Waits 0x77 0 n)) ∧
  (∀ (g h l k i : Nat), g ≤ h → g ≤ l → k < g → sppPeriod g [(true, h), (false, l)] = some (h + l, h) ∧
    sppPeriod g [(true, h), (false, k), (true, i), (false, l)] = some (h + k + i + l, h + k + i)) ∧
  (∀ (n : Fin 4) (a : Nat) (x : List (Bool × Nat)) (s : State), sppPeriod (8 * fld (s.reg (0x0A10 + n.val)) 27 24) ((true, a) :: x) = none →
    exec (.sppPeriodMeasured n a x) s = .next s.begin) ∧
  (∀ (n : Fin 4) (a : Nat) (x : List (Bool × Nat)) (p h : Nat) (s : State), s.Works →
    sppPeriod (8 * fld (s.reg (0x0A10 + n.val)) 27 24) ((true, a) :: x) = some (p, h) → 4000 ≤ p → p ≤ 400000 →
    ∃ t, exec (.sppPeriodMeasured n a x) s = .next t ∧ t = { s.conds t with spp := t.spp } ∧
      t.spp = s.spp.set n ⟨toPU16 ((h : Rat) / (p : Rat)), toPU16 (puI (s16 (fld (s.reg (0x0A14 + n.val)) 15 0)) +
        bf (setFld (s.reg (0x0A10 + n.val)) 31 24 0) * ((h : Rat) / (p : Rat))), 0, 0, false⟩ ∧ ¬ t.Stands 0x78 n) ∧
  (∀ (n : Fin 4) (a : Nat) (x : List (Bool × Nat)) (p h : Nat) (s : State), s.Works →
    sppPeriod (8 * fld (s.reg (0x0A10 + n.val)) 27 24) ((true, a) :: x) = some (p, h) → p < 4000 ∨ 400000 < p →
    exec (.sppPeriodMeasured n a x) s = .next { s.begin with
      spp := s.spp.set n { s.spp.getD n ⟨0, 0, 0, 0, false⟩ with
        bad := satInc 4 (s.spp.getD n ⟨0, 0, 0, 0, false⟩).bad, quiet := 0 } }) ∧
  (∀ (n : Fin 4) (levels : List (Bool × Nat)) (s : State), s.Runs → bit (s.reg (0x0A10 + n.val)) 31 = true →
    (s.spp.getD n ⟨0, 0, 0, 0, false⟩).loss = false →
    (4 ≤ (s.spp.getD n ⟨0, 0, 0, 0, false⟩).bad ∨ sppQuiet (8 * fld (s.reg (0x0A10 + n.val)) 27 24) (fld (s.reg (0x0A14 + n.val)) 31 16)
      (s.spp.getD n ⟨0, 0, 0, 0, false⟩).quiet levels = true) →
    ∃ t, exec (.sppLoss n levels) s = .next t ∧ t = { s.conds t with spp := t.spp } ∧ t.Stands 0x78 n ∧
      t.spp = s.spp.set n { s.spp.getD n ⟨0, 0, 0, 0, false⟩ with loss := true }) ∧
  (∀ (g tout q : Nat), sppQuiet g tout q [] = decide (tout ≤ q)) ∧
  (∀ (g tout q a b : Nat), g ≤ a → g ≤ b → 0 < a → 0 < b →
    sppQuiet g tout q [(true, a), (false, b)] = (decide (tout ≤ q) && decide (400 * tout ≤ b))) ∧
  (∀ (n : Fin 4) (levels : List (Bool × Nat)) (s : State), (s.spp.getD n ⟨0, 0, 0, 0, false⟩).bad < 4 →
    sppQuiet (8 * fld (s.reg (0x0A10 + n.val)) 27 24) (fld (s.reg (0x0A14 + n.val)) 31 16) (s.spp.getD n ⟨0, 0, 0, 0, false⟩).quiet levels = false →
    exec (.sppLoss n levels) s = .next s.begin)

/-- A GRIDZC_EDGE after which the pin stays high for the filter length of 8 × FILT CNT is stamped, and one that does not is none;
the first becomes the reference edge; later ones: closer than 5,714,286 CNT to the reference edge it is rejected and counted,
up to 10,000,000 CNT it is valid and becomes the reference with its period (every blend weight keeps its share of the blend's
length where the nominal frequency in force changes with it and stays as it is where it does not: R196 and R204 leave the
weight open, the model's choice, log entry 110), and beyond that it becomes the reference with the lock count cleared.
GRID_LOCK at the lock count locks. MISSED_PERIOD counts while locked and clears the lock count while not. GRID_UNLOCK after
NMISS missed periods, or a phase error beyond UNLK, goes to holdover at the estimated frequency. (R100, R191, R193, R194,
R195, R196, R204) -/
def Obligations.AngleTracker : Prop :=
  (∀ (f c a hi : Nat) (s : State), s.Works → 8 * fld (s.reg 0x0A20) 7 0 ≤ hi → s.grid.ref = some a →
    ∃ t, exec (.gridzcEdge f c hi) s = .next t ∧ t = { s.msgs t (some (f * 400 + c)) with grid := t.grid, rails := t.rails } ∧
      (bit (s.reg 0x0B08) 31 = bit s.grid.cfg 31 ∨ t.grid.ref = some a ∨ 10000000 < f * 400 + c - a → t.rails = s.rails) ∧ t.grid.zcFrame = f ∧ t.grid.zcCnt = c ∧
      (f * 400 + c - a < 5714286 → t.Waits 0x06 0 0 ∧ t.grid.ref = some a ∧ t.grid.rej = satInc 65535 s.grid.rej ∧
        t.grid.fRun = s.grid.fRun) ∧
      (5714286 ≤ f * 400 + c - a → f * 400 + c - a ≤ 10000000 → t.grid.ref = some (f * 400 + c) ∧
        (∀ r < 16, t.rail r = { s.rail r with
          w := (roundAway (((s.rail r).w * blendLen t : Nat) / ((blendLen s : Nat) : Rat))).toNat }) ∧
        t.grid.per = f * 400 + c - a ∧ t.grid.valid = true ∧ t.fc.pend = s.fc.pend ∧
        (s.grid.lock = false → t.grid.fEst = 400000000 / ((f * 400 + c - a : Nat) : Rat))) ∧
      (10000000 < f * 400 + c - a → t.grid.ref = some (f * 400 + c) ∧ t.grid.lcnt = 0 ∧ t.fc.pend = s.fc.pend)) ∧
  (∀ s : State, s.Works → s.grid.lock = false → s.grid.lcnt ≠ 0 → fld s.grid.cfg 23 20 ≤ s.grid.lcnt →
    ∃ t, exec .gridLock s = .next t ∧ t.Waits 0x04 0 0 ∧
      t = { s.msgs t with grid := { s.grid with lock := true, tooFar := false } }) ∧
  (∀ (a : Nat) (s : State), s.Works → s.grid.ref = some a →
    (5 / 4 + (if s.grid.lock then (s.grid.missed : Rat) else 0)) * 400000000 / estNow s
      ≤ ((s.dev.frame * 400 : Nat) : Rat) - (a : Rat) →
    exec .missedPeriod s = .next { s.begin with
      grid := if s.grid.lock then { s.grid with mcnt := satInc 15 s.grid.mcnt, missed := s.grid.missed + 1 } else { s.grid with lcnt := 0 } }) ∧
  (∀ s : State, s.Works → s.grid.lock = true → fld s.grid.cfg 27 24 ≤ s.grid.mcnt ∨ s.grid.tooFar = true →
    ∃ t, exec .gridUnlock s = .next t ∧ t = { s.msgs t with grid := t.grid } ∧ t.grid.lock = false ∧
      t.grid.fRun = s.grid.fEst ∧ t.grid.ulk = satInc 65535 s.grid.ulk ∧
      t.Waits 0x05 0 (if fld s.grid.cfg 27 24 ≤ s.grid.mcnt then 0 else 1)) ∧
  (∀ (f c hi : Nat) (s : State), hi < 8 * fld (s.reg 0x0A20) 7 0 →
    exec (.gridzcEdge f c hi) s = .next (s.begin none (some (f * 400 + c)))) ∧
  (∀ (f c hi : Nat) (s : State), s.Works → 8 * fld (s.reg 0x0A20) 7 0 ≤ hi → s.grid.ref = none →
    exec (.gridzcEdge f c hi) s = .next { s.begin none (some (f * 400 + c)) with
      grid := { s.grid with ref := some (f * 400 + c), zcFrame := f, zcCnt := c } })

/-- The period that a PERIOD_BOUNDARY begins, of a phase not on dead reckoning of a device that is not leaving in a handover, has
the compare of its set, blended where the period is longer or shorter than the set's; where the period is in HOLD both outputs
are low. After an ordinary period an ordinary compare gives a high pulse from DTH to the compare and a low pulse from the
compare plus DTL to the period's end, each omitted where its length is not positive or below MINPW. 0 % gives no high pulse
and a low output that goes on from an ordinary period or a 0 % one, with its rise where that is still to come, and else rises
after DTL; 100 % gives no low pulse and a high output that goes on from a 100 % period, and else rises after DTH. A 100 %
period goes on into an ordinary one up to the compare. Times are placed in CNT or FINE as R118 and log entry 31 say. Never are
both pins of the phase high. An adapted edge of a period with both pulses whole is trimmed by R115 with the crossing of the
node's voltages, in other periods it keeps its delay; an edge not adapted takes the set's, and one whose adaptation is
switched on its own clamped into the bounds. (R107, R109, R110, R111, R112, R113, R114, R115, R116, R118, R120, R121) -/
def Obligations.OutputsOfAPeriod : Prop :=
  (∀ (p : Fin 48) (nh nl : List (Nat × Rat)) (s : State), s.Runs → counts s p = true → (s.ph p).gen.going = true →
    (s.ph p).gen.org + (s.ph p).gen.curPer < (s.dev.frame + 1) * 400 → (s.ph p).est = false → s.twin.leaving = false →
    ∃ (t : State) (g f : Gen) (c e up lo minpw : Nat), exec (.periodBoundary p nh nl) s = .next t ∧ f = (s.ph p).gen ∧ g = (t.ph p).gen ∧
      g.curCmp = (if nextCmp s p = 0 ∨ nextCmp s p = 0x3FFFFF ∨ g.curPer = g.act.per then nextCmp s p
        else (roundAway (((nextCmp s p * g.curPer : Nat) : Rat) / (g.act.per : Rat))).toNat) ∧
      g.fine = (f.fine || f.dlok) ∧ c = place1 g.fine g.curCmp ∧ e = g.curPer * 64 ∧ up = place1 g.fine g.dth ∧
      lo = place1 g.fine (g.curCmp + g.dtl) ∧ minpw = fld (s.pr p 0x18) 31 24 * 64 ∧
      (nextHold s p = true → g.hpin = .low ∧ g.lpin = .low) ∧
      (nextHold s p = false →
        (special g.curCmp = false → special f.curCmp = false → f.lowCut = false →
          g.hpin = (if up < c ∧ minpw ≤ c - up then .pulse (some up) (some c) else .low) ∧
          g.lpin = (if lo < e ∧ minpw ≤ e - lo then .pulse (some lo) none else .low)) ∧
        (g.curCmp = 0 → g.hpin = .low ∧
          (runsNow s p = false ∨ f.endHigh = true → g.lpin = .pulse (some (place1 g.fine g.dtl)) none) ∧
          (runsNow s p = true → f.endHigh = false → f.lowCut = false → ∀ a,
            (f.lpin = .pulse none none ∨ (f.lpin = .pulse (some a) none ∧ a ≤ f.curPer * 64) → g.lpin = .pulse none none) ∧
            (f.lpin = .pulse (some a) none → f.curPer * 64 < a → g.lpin = .pulse (some (a - f.curPer * 64)) none))) ∧
        (g.curCmp = 0x3FFFFF → g.lpin = .low ∧
          (runsNow s p = false ∨ f.endHigh = false → g.hpin = .pulse (some up) none) ∧
          (runsNow s p = true → f.endHigh = true → ∀ a,
            (f.hpin = .pulse none none ∨ (f.hpin = .pulse (some a) none ∧ a ≤ f.curPer * 64) → g.hpin = .pulse none none) ∧
            (f.hpin = .pulse (some a) none → f.curPer * 64 < a → g.hpin = .pulse (some (a - f.curPer * 64)) none))) ∧
        (special g.curCmp = false → f.curCmp = 0x3FFFFF → runsNow s p = true → f.endHigh = true → f.hpin = .pulse none none →
          g.hpin = .pulse none (some c) ∧ g.lpin = (if lo < e ∧ minpw ≤ e - lo then .pulse (some lo) none else .low))) ∧
      (scanned s = false → ∀ n, ¬ ((pins t p).1.HighAt n ∧ (pins t p).2.HighAt n)) ∧
      (bit (s.pr p 0x21) 31 = false → g.dth = g.act.dth) ∧ (bit (s.pr p 0x21) 30 = false → g.dtl = g.act.dtl)) ∧
  (∀ (p : Fin 48) (nh nl : List (Nat × Rat)) (hi : Bool) (s : State) (dt lo up : Nat), s.Runs → counts s p = true → (s.ph p).gen.going = true →
    (s.ph p).gen.org + (s.ph p).gen.curPer < (s.dev.frame + 1) * 400 → (s.ph p).est = false → s.twin.leaving = false →
    bit (s.pr p 0x21) (if hi then 31 else 30) = true → dt = (if hi then (s.ph p).gen.dth else (s.ph p).gen.dtl) →
    lo = (if hi then fld (s.ph p).gen.dtMin 29 16 else fld (s.ph p).gen.dtMin 13 0) →
    up = (if hi then fld (s.ph p).gen.dtMax 29 16 else fld (s.ph p).gen.dtMax 13 0) →
    ∃ (t : State) (dt' step target diode : Nat) (hard hard' : Bool) (miss miss' : Nat) (tc : Option Nat), exec (.periodBoundary p nh nl) s = .next t ∧
      dt' = (if hi then (t.ph p).gen.dth else (t.ph p).gen.dtl) ∧
      hard = (if hi then (s.ph p).gen.hardH else (s.ph p).gen.hardL) ∧ hard' = (if hi then (t.ph p).gen.hardH else (t.ph p).gen.hardL) ∧
      miss = (if hi then (s.ph p).gen.missH else (s.ph p).gen.missL) ∧ miss' = (if hi then (t.ph p).gen.missH else (t.ph p).gen.missL) ∧
      tc = crossing (swsCode s p) hi (if hi then nh else nl) ∧
      target = fld (s.ph p).gen.dtCfg 13 0 ∧ step = fld (s.ph p).gen.dtCfg 21 16 ∧ diode = dt - tc.getD 0 ∧
      ((if hi then (s.ph p).gen.adH else (s.ph p).gen.adL) = false →
        (dt' : Int) = clampI (if hi then fld (s.pr p 0x1F) 29 16 else fld (s.pr p 0x1F) 13 0)
          (if hi then fld (s.pr p 0x20) 29 16 else fld (s.pr p 0x20) 13 0) dt) ∧
      ((if hi then (s.ph p).gen.adH else (s.ph p).gen.adL) = true →
        ((bothWhole s p && runsNow s p) = false → dt' = dt ∧ hard' = hard ∧ miss' = miss) ∧
        (bothWhole s p = true → runsNow s p = true → (∃ n, tc = some n ∧ n < dt) →
          hard' = false ∧ miss' = 0 ∧ (dt' : Int) = clampI lo up
            (if target < diode then (dt : Int) - min step (diode - target) else (dt : Int) + min step (target - diode))) ∧
        (bothWhole s p = true → runsNow s p = true → (∀ n, tc = some n → dt ≤ n) → hard = false →
          (dt' : Int) = clampI lo up ((dt : Int) + step) ∧ miss' = miss + 1 ∧ hard' = decide (fld (s.ph p).gen.dtCfg 27 24 ≤ miss + 1) ∧
          (hard' = true → t.Waits 0x39 0 p)) ∧
        (bothWhole s p = true → runsNow s p = true → (∀ n, tc = some n → dt ≤ n) → hard = true →
          (dt' : Int) = clampI lo up ((dt : Int) - step) ∧ hard' = true))) ∧
  (∀ (fine : Bool) (n : Nat), place1 fine n = if fine then n else (n + 32) / 64 * 64)

/-- While a reset is asserted or the derived clocks stand, every command changes nothing but the model's own counter, except the
commands that act then: the losses and the return of the clocks, the resets and their release, TESTEN, the boundary scan, and
the begin and end of frames and transfers on the host ports. (R65, R276, R360, R412) -/
def Obligations.NothingIsClockedInResetOrClockLoss : Prop :=
  ∀ (c : Instr) (s : State), s.dev.rst = true ∨ s.dev.clkStop = true → c.Unclocked = false → exec c s = .next s.begin

/-- A PERIOD_BOUNDARY of a generator that counts, whose period ends before the next frame edge, starts its next period where the
last one ended: the active set is the engine's set where one waits, else the whole shadow set where a load is pending, else
the set it was; both are then no longer pending, the count is the CNT since that place up to the frame edge, held at the
period's end less one (the model's choice, log entry 35), and the period is the set's own plus the change of offset taken into
half a period either way. A GENERATOR_START of a generator that counts and has not begun, on a device that is no standby, with
a first set where it is joining, whose reference instant plus the offset of the set that transfers lies before the next frame
edge, begins the first period there in the same way, with the set's own period. What the outputs then show is stated with
OutputsOfAPeriod. Of other phases only the reference instant may change, and only to that place; registers and the Gradebook
do not change; where the phase is not on dead reckoning no rail changes its state and no other phase changes further, unless
the device is leaving in a handover. (R107, R119, R120, R121, R122, R125, R27, R312, R230) -/
def Obligations.GeneratorPeriods : Prop :=
  (∀ (p : Fin 48) (h l : List (Nat × Rat)) (s : State), s.Runs → counts s p = true → (s.ph p).gen.going = true →
    (s.ph p).gen.org + (s.ph p).gen.curPer < (s.dev.frame + 1) * 400 →
    ∃ t, exec (.periodBoundary p h l) s = .next t ∧ (t.ph p).gen.eset = none ∧
      (t.ph p).gen.ldpend = false ∧ (t.ph p).gen.going = true ∧
      (t.ph p).gen.act = (match (s.ph p).gen.eset with
        | some e => e
        | none => if (s.ph p).gen.ldpend then shadowSet s p else (s.ph p).gen.act) ∧
      (t.ph p).gen.org = (s.ph p).gen.org + (s.ph p).gen.curPer ∧
      (t.ph p).gen.count = min (s.dev.frame * 400 - (t.ph p).gen.org) ((t.ph p).gen.curPer - 1) ∧
      (s.twin.phAdj.getD p 0 = 0 → (t.ph p).gen.curPer =
        (((t.ph p).gen.act.per : Int) + wrapHalf (t.ph p).gen.act.per (((t.ph p).gen.act.ofs : Int) - (s.ph p).gen.act.ofs)).toNat) ∧
      t.bank = s.bank ∧ t.nv = s.nv ∧
      ((s.ph p).est = false → (∀ r, (t.rail r).st = (s.rail r).st) ∧ (s.twin.leaving = false → t.dev = s.dev ∧
        ∀ q, q ≠ p → t.ph q = { s.ph q with gen := { (s.ph q).gen with ref := (t.ph q).gen.ref } } ∧
          ((t.ph q).gen.ref = (s.ph q).gen.ref ∨ (t.ph q).gen.ref = some (t.ph p).gen.org)))) ∧
  (∀ (p : Fin 48) (s : State) (e : GenSet) (n : Nat), s.Runs → counts s p = true → (s.ph p).gen.going = false →
    isStandby s = false → ((s.ph p).joining = false ∨ (s.ph p).gen.eset ≠ none) →
    e = (match (s.ph p).gen.eset with
        | some e => e
        | none => if (s.ph p).gen.ldpend then shadowSet s p else (s.ph p).gen.act) →
    (s.ph p).gen.ref = some n → n + e.ofs < (s.dev.frame + 1) * 400 →
    ∃ t, exec (.generatorStart p) s = .next t ∧ (t.ph p).gen.going = true ∧ (t.ph p).gen.act = e ∧ (t.ph p).gen.ref = none ∧
      (t.ph p).gen.org = n + e.ofs ∧ (t.ph p).gen.curPer = e.per ∧
      (t.ph p).gen.count = min (s.dev.frame * 400 - (n + e.ofs)) (e.per - 1) ∧
      (t.ph p).gen.eset = none ∧ (t.ph p).gen.ldpend = false ∧ t.bank = s.bank ∧ t.dev = s.dev ∧ t.nv = s.nv ∧
      ((s.ph p).est = false → (∀ r, (t.rail r).st = (s.rail r).st) ∧
        ∀ q, q ≠ p → t.ph q = { s.ph q with gen := { (s.ph q).gen with ref := (t.ph q).gen.ref } } ∧
          ((t.ph q).gen.ref = (s.ph q).gen.ref ∨ (t.ph q).gen.ref = some (n + e.ofs))))

/-- A CBC_PULSE_END at a sense voltage beyond the guard's threshold, seen by a guard in force that has not yet acted in the
period, ends the pulse that the guarded output shows at that time (`outputs`: a pulse omitted at the end of a period whose
successor continues it shows, log entry 132); after the low side's the high side rises, once more where it had already fallen,
after its delay unless its own guard has ended it in the period. Where a trip or a brake has taken the outputs in the same
frame the generator does not change: that the same frame stands for R255's one cycle is the model's choice (log entry 129).
The observer's step of the period, where it has been made, is made again with the new conduction (log entry 133), and nothing
else of the phase moves. In every case the end counts in the guard's counter (saturating at 65535) and, where the source is
armed, raises PH_CBC once and disarms it. A DELAY_LINE_CALIBRATION records its result, and PH_DLCAL stands exactly while the
line is out of calibration. Nothing outside the phase moves but messages, conditions and performance counters. PH_SENSE_IMPL
of an assigned phase whose implausible samples have reached its limit, PH_OPEN of one whose open-phase count has, and
PH_TRIMSAT of one whose trim has stood at a bound for 1024 updates raise their source at the phase when it has not been raised
yet, note that it has, and move nothing else; where it has been raised, nothing happens. (R84, R117, R118, R216, R226, R228,
R233, R234, R236, R237, R255) -/
def Obligations.PhaseGuardsAndFailures : Prop :=
  (∀ (p : Fin 48) (rev : Bool) (n : Nat) (v : Rat) (s : State) (cut : Bool) (g : Gen), s.Runs →
    g = { (s.ph p).gen with hpin := (outputs s p).1, lpin := (outputs s p).2 } → cut = ((s.ph p).gen.going && (s.ph p).gen.cut == s.dev.frame + 1) → (runsNow s p = true ∨ cut = true) →
    guardOn s p rev = true → guardTrue s p rev v = true →
    (if rev then (s.ph p).endR else (s.ph p).endF) = false → guardSees { s.ph p with gen := g } (guardsHigh s p rev) n = true →
    ∃ t, exec (.cbcPulseEnd p rev n v) s = .next t ∧ t = { s.msgs t with phases := t.phases, perf := t.perf } ∧ OtherPhases p s t ∧
      (cut = true → (t.ph p).gen = (s.ph p).gen) ∧
      (cut = false → guardsHigh s p rev = true → (t.ph p).gen.hpin = g.hpin.endAt n ∧ (t.ph p).gen.endHigh = false ∧
        (g.lowCut = true → (t.ph p).gen.lpin = g.lpin)) ∧
      (cut = false → guardsHigh s p rev = false → (t.ph p).gen.lpin = g.lpin.endAt n ∧
        ((if rev then (s.ph p).endF else (s.ph p).endR) = true → (t.ph p).gen.hpin = g.hpin ∧ (t.ph p).gen.endHigh = false) ∧
        ((if rev then (s.ph p).endF else (s.ph p).endR) = false → (t.ph p).gen.endHigh = true ∧
          (t.ph p).gen.hpin = g.hpin.again (place1 g.fine (n + g.dthNow)))) ∧
      t.ph p = { s.ph p with gen := (t.ph p).gen, endF := (s.ph p).endF || !rev, endR := (s.ph p).endR || rev
                             cbcFwd := if rev then (s.ph p).cbcFwd else satInc 65535 (s.ph p).cbcFwd
                             cbcRev := if rev then satInc 65535 (s.ph p).cbcRev else (s.ph p).cbcRev
                             cbcArmed := false, cbcQuiet := 0, oest := (t.ph p).oest, ores := (t.ph p).ores
                             ncnt := (t.ph p).ncnt, obs := (t.ph p).obs } ∧
      ((s.ph p).obs = none → (t.ph p).oest = (s.ph p).oest ∧ (t.ph p).ncnt = (s.ph p).ncnt ∧ (t.ph p).obs = none) ∧
      ((s.ph p).cbcArmed = true → t.Waits 0x34 0 p) ∧ ((s.ph p).cbcArmed = false → t.fc = s.fc)) ∧
  (∀ (p : Fin 48) (ok : Bool) (s : State), s.Runs →
    ∃ t, exec (.delayLineCalibration p ok) s = .next t ∧ t = { s.conds t with phases := t.phases } ∧ OtherPhases p s t ∧
      t.ph p = { s.ph p with gen := { (s.ph p).gen with dlok := ok } } ∧ (t.Stands 0x38 p ↔ ok = false)) ∧
  (∀ (p : Fin 48) (s : State), s.Runs → railOf s p ≠ none → fld (pmOf s p 3) 23 16 ≤ (s.ph p).ncnt →
    (s.ph p).senseRaised = false →
    ∃ t, exec (.phSenseImpl p) s = .next t ∧ t = { s.msgs t with phases := t.phases } ∧ OtherPhases p s t ∧ t.Waits 0x33 0 p ∧
      t.ph p = { s.ph p with senseRaised := true }) ∧
  (∀ (p : Fin 48) (s : State), s.Runs → railOf s p ≠ none → fld (pmOf s p 3) 15 8 ≤ (s.ph p).ocnt → (s.ph p).openRaised = false →
    ∃ t, exec (.phOpen p) s = .next t ∧ t = { s.msgs t with phases := t.phases } ∧ OtherPhases p s t ∧ t.Waits 0x32 0 p ∧
      t.ph p = { s.ph p with openRaised := true }) ∧
  (∀ (p : Fin 48) (s : State), s.Runs → 1024 ≤ (s.ph p).trimAt → (s.ph p).tsat = false →
    ∃ t, exec (.phTrimsat p) s = .next t ∧ t = { s.msgs t with phases := t.phases } ∧ OtherPhases p s t ∧ t.Waits 0x3B 0 p ∧
      t.ph p = { s.ph p with tsat := true }) ∧
  (∀ (p : Fin 48) (s : State), (s.ph p).senseRaised = true → exec (.phSenseImpl p) s = .next s.begin) ∧
  (∀ (p : Fin 48) (s : State), (s.ph p).openRaised = true → exec (.phOpen p) s = .next s.begin) ∧
  (∀ (p : Fin 48) (s : State), (s.ph p).tsat = true → exec (.phTrimsat p) s = .next s.begin) ∧
  (∀ (a b : Option Nat) (x y n : Nat), (Pin.pulse a b).endAt n = .pulse a (some n) ∧ (Pin.two a x y b).endAt n = .two a x y (some n) ∧
    (Pin.pulse a (some x)).again n = .two a x n none ∧ Pin.low.again n = .pulse (some n) none)

/-- The update served first is, of those queued, one of the lowest class, then of the earliest trigger, then of the lowest context
index (R140). An ENGINE_UPDATE of an engine that runs takes it off the queue and, its context being active and reading no word
that fails parity, carries it out (a voltage-loop update that switches the bank reads the new one; its results are stated with
VoltageLoopUpdates, the laws of stages with StagesKeepTheirLaws): the context's MACs are counted, the latency of its class
rises to the given one, and nothing moves outside the rail, its phases and the units an update reaches. A current-loop update
runs its stages on the reference share plus the trim less the latest current, or is preloaded once with the duty less d_ff,
and outside DRIP writes the phase's set for its result plus d_ff, clamped. An outer-limiter update sets its bounds from
RAIL_ILIM and, at the voltage of the inductor side, RAIL_PLIM; in LIMIT it runs on the bound named by LIMDIR less the rail's
current and its result is the rail's output at once, else it is preloaded with the rail's output. A balance-trim update runs
on the mean of the ACTIVE phases' currents less the phase's (on 0 with one such phase, in DRIP and in BRAKE) and sets the
trim, within PH_TRIMMAX. One whose context or bank has failed parity writes no result and only leaves the queue: that a failed
state word stays failed until its context is zeroed, and a failed bank until a commit, is the model's reading (log entry 139).
An ENGINE_PARITY_ERROR raises ENG_PARITY with its address, one of a state word marks the context, and one of a coefficient
bank marks the rail's active bank failed. ENG_UTIL_WINDOW at the window's end computes the utilisation in PU16, keeps its peak
and opens the next window. (R138, R140, R142, R145, R146, R152, R154, R165, R177, R179, R215, R216) -/
def Obligations.EngineServesItsQueue : Prop :=
  (∀ (l : List QItem) (q : QItem), pickUpdate l = some q → ∃ i, l[i]? = some q ∧ ∀ (j : Nat) (x : QItem), l[j]? = some x →
    ctxClass q.ctx < ctxClass x.ctx ∨ (ctxClass q.ctx = ctxClass x.ctx ∧
      (q.at_ < x.at_ ∨ (q.at_ = x.at_ ∧ (q.ctx < x.ctx ∨ (q.ctx = x.ctx ∧ i ≤ j)))))) ∧
  (∀ (k : Fin 8) (l : Nat) (d : Bool) (q : QItem) (r : Nat) (s : State), s.Runs → s.eng.haltReq = false → pickUpdate s.eng.queue = some q →
    ctxRail s q.ctx = some r → ctxActive s q.ctx = true → s.eng.parity.contains q.ctx = false →
    ((s.rail r).bankErr = false ∨ (q.ctx < 16 ∧ (s.rail r).pend = true ∧ (s.rail r).copying = false)) →
    ∃ t, exec (.engineUpdate l d k) s = .next t ∧ t.eng.queue = s.eng.queue.erase q ∧ t.eng.macs = s.eng.macs + ctxCost t q.ctx ∧
      t.eng.latV = (if ctxClass q.ctx = 1 then max s.eng.latV (min 65535 l) else s.eng.latV) ∧
      t.eng.latI = (if ctxClass q.ctx = 2 then max s.eng.latI (min 65535 l) else s.eng.latI) ∧ OtherRails r s t ∧
      (∀ p, railOf s p ≠ some r → t.ph p = s.ph p) ∧ t.dev = s.dev ∧ t.nv = s.nv ∧ t.twin = s.twin ∧ t.gang = s.gang ∧
      t.tripLatch = s.tripLatch ∧ t.ports = s.ports ∧ t.sb = s.sb ∧ t.aux = s.aux ∧ t.grid = s.grid) ∧
  (∀ (a : Nat) (s : State), s.Runs → a < 0x90 →
    ∃ t, exec (.engineParityError a) s = .next t ∧ t.Waits 0x61 0 a ∧
      t = { s.msgs t with eng := { s.eng with queue := t.eng.queue, parity := t.eng.parity }, rails := t.rails } ∧
      (∀ q ∈ t.eng.queue, q ∈ s.eng.queue) ∧ (a < 0x80 → t.rails = s.rails ∧ ∀ c, c ∈ t.eng.parity ↔ c = a ∨ c ∈ s.eng.parity) ∧
      (0x80 ≤ a → t.eng.parity = s.eng.parity ∧ t.rail (a - 0x80) = { s.rail (a - 0x80) with bankErr := true } ∧ OtherRails (a - 0x80) s t)) ∧
  (∀ s : State, s.Runs → s.eng.winLeft = 0 →
    ∃ t, exec .engUtilWindow s = .next t ∧ t = { s.begin with eng := t.eng } ∧
      t.eng = { s.eng with util := t.eng.util, peak := max s.eng.peak t.eng.util, macs := 0, winLen := fld (s.reg 0x0E0B) 15 0
                           winLeft := fld (s.reg 0x0E0B) 15 0 } ∧
      t.eng.util = toPU16 ((s.eng.macs : Rat) / ((2560 * s.eng.winLen : Nat) : Rat))) ∧
  (∀ (k : Fin 8) (l : Nat) (d : Bool) (q : QItem) (r : Nat) (s : State), s.Runs → s.eng.haltReq = false → pickUpdate s.eng.queue = some q →
    ctxRail s q.ctx = some r → s.eng.parity.contains q.ctx = true ∨ (s.rail r).bankErr = true → (s.rail r).pend = false →
    ∃ t, exec (.engineUpdate l d k) s = .next t ∧
      t = { s.begin none (updateDue s l) with perf := t.perf, eng := { s.eng with queue := s.eng.queue.erase q } }) ∧
  (∀ (k : Fin 8) (l : Nat) (d : Bool) (q : QItem) (r p : Nat) (s : State), s.StoresWf → s.Serves q r → q.ctx = 32 + p → p < 48 →
    ∃ t x o, exec (.engineUpdate l d k) s = .next t ∧ x = sigOf ((s.ph p).iref + puI (s.ph p).trim - iOf s p) ∧
      o = (match (s.ph p).plC with
        | none => runStages (stagesOf (s.actC r) 0x64) (blocksOf s (32 + p)) x
        | some u => preloadStages (stagesOf (s.actC r) 0x64) x (u - dff s r)) ∧
      blocksOf t (32 + p) = o.1 ∧ (t.ph p).plC = none ∧ OtherPhases p s t ∧ t.rails = s.rails ∧
      if (s.rail r).st = .drip then t.ph p = { s.ph p with plC := none } ∧ t.bank = s.bank
      else t.Emits s p (topo s r == 1) (dlim s r (o.2.val + dff s r))) ∧
  (∀ (k : Fin 8) (l : Nat) (d : Bool) (q : QItem) (r : Nat) (s : State) (bd : Nat → Nat → Rat), s.StoresWf → s.Serves q r → q.ctx = 16 + r → r < 16 →
    (∀ i w, bd i w = if w = 0xFFFF then pu i else pu (min i (toPU16 (pu w / powerV s r)))) →
    ∃ t x o u, exec (.engineUpdate l d k) s = .next t ∧
      (t.rail r).hi = bd (fld (s.rr r 0x25) 31 16) (fld (s.rr r 0x26) 31 16) ∧
      (t.rail r).lo = -bd (fld (s.rr r 0x25) 15 0) (fld (s.rr r 0x26) 15 0) ∧
      x = sigOf ((if (if limited s r then (s.rail r).limdir ≠ 2 else 0 ≤ (s.rail r).out) then (boundsOf t r).1 else (boundsOf t r).2)
        - puI (s.rail r).irail) ∧
      o = (match (if limited s r then (s.rail r).plL else some (s.rail r).out) with
        | none => runStages (stagesOf (s.actC r) 0x3A) (blocksOf s (16 + r)) x
        | some v => preloadStages (stagesOf (s.actC r) 0x3A) x v) ∧
      blocksOf t (16 + r) = o.1 ∧ (t.rail r).plL = none ∧
      u = (if limited s r then (if cascade s r then puI (toSPU16 o.2.val) else o.2.val) else (s.rail r).out) ∧
      (t.rail r).limOut = u ∧ (t.rail r).out = u ∧
      (limited s r = false → t.phases = s.phases ∧ t.bank = s.bank) ∧
      (limited s r = true → cascade s r = false → ∀ p ∈ activeOf s r, t.Emits s p (topo s r == 1) (dlim s r (u + puI (s.ph p).trim))) ∧
      (limited s r = true → cascade s r = true → sumR ((activeOf s r).map (phBase s)) ≠ 0 → ∀ p ∈ activeOf s r,
        (t.ph p).iref = puI (toSPU16 (u * railBase s r / sumR ((activeOf s r).map (phBase s)))))) ∧
  (∀ (k : Fin 8) (l : Nat) (d : Bool) (q : QItem) (r p : Nat) (s : State), s.StoresWf → s.Serves q r → q.ctx = 80 + p → p < 48 →
    ∃ t x o, exec (.engineUpdate l d k) s = .next t ∧ t.bank = s.bank ∧ t.rails = s.rails ∧ OtherPhases p s t ∧
      x = (if (s.rail r).st = .drip ∨ (s.rail r).st = .brake ∨ (activeOf s r).length ≤ 1 then 0
        else puI (toSPU16 (sumR ((activeOf s r).map (iOf s)) / ((activeOf s r).length : Rat))) - iOf s p) ∧
      o = runStages (stagesOf (s.actC r) 0x8E) (blocksOf s (80 + p)) (sigOf x) ∧ blocksOf t (80 + p) = o.1 ∧
      (t.ph p).trim = clampI (-(fld (pmOf s p 0) 31 16 : Nat)) (fld (pmOf s p 0) 31 16 : Nat) (toSPU16 o.2.val) ∧
      (t.ph p).gen = (s.ph p).gen) ∧
  (∀ (p : Nat) (s : State), (s.ph p).est = false → iOf s p = puI (s.ph p).isamp)

/-- While the state machines run: PRECHECK_ENTRY takes a rail with an accepted start from OFF to PRECHECK with its contexts
zeroed; its enabled phases take 1 µs after the frame edge as their reference instant (the model's choice, log entry 116), and
a DRVEN it drives high rises at the edge. SHORT_CHECK_RESULT, when the 256 samples after the settling time of the entry are
over (SETTLE + 5 frames, the model's reading, log entry 63), completes the short check: result 2, with PH_HS_SHORT standing at
every tested phase (those with EN = 1 at the result, R251 is silent; the model's choice, log entry 151) whose comparator was
true on more than 128 of the 256 samples, and result 1 when there is none. PREBIAS_ENTRY follows when the check and every
offset measurement are complete and no source of class 3 or above stands against the rail. RAMP_ENTRY, when every rail of the
group has averaged 16 conversions, starts each of them together: the reference begins at the average where it is at least
PBMIN and else at 0, and every available phase is ACTIVE. Other rails do not move. (R26, R156, R173, R174, R175, R190, R209,
R251) -/
def Obligations.RailStartsStepByStep : Prop :=
  (∀ (r : Fin 16) (s : State), machinesRun s = true → (s.rail r).st = .off → (s.rail r).startPend = true →
    ∃ t, exec (.precheckEntry r) s = .next t ∧ (t.rail r).st = .precheck ∧ (t.rail r).startPend = false ∧ (t.rail r).pbN = 0 ∧
      (t.rail r).frames = 0 ∧ OtherRails r s t ∧ t.eng.ctx[r.val]? = some (List.replicate 6 Block.init) ∧
      t.eng.ctx[16 + r.val]? = some (List.replicate 6 Block.init) ∧
      (∀ p, railOf s p = some r.val → p < 48 → t.eng.ctx[32 + p]? = some (List.replicate 6 Block.init) ∧
        t.eng.ctx[80 + p]? = some (List.replicate 6 Block.init)) ∧ t.dev = s.dev ∧ t.nv = s.nv ∧
      (∀ p < 48, railOf s p = some r.val → enOf s p = true → (t.ph p).gen.ref = some (s.dev.frame * 400 + 400)) ∧
      ∀ k < 4, drvHigh s k = false → drvHigh t k = true → (t.dom k).drvRise = s.dev.frame * 400) ∧
  (∀ (r : Fin 16) (l : List (List Rat)) (s : State), machinesRun s = true → (s.rail r).st = .precheck →
    (s.rail r).scDone = false → fld (s.rail r).scCfg 30 24 + 5 ≤ (s.rail r).frames →
    ∃ t high, exec (.shortCheckResult r l) s = .next t ∧
      high = (((phasesOf s r).filter (enOf s)).zip l).filter (fun y => decide (128 < nodeCount (s.rail r).sccode y.2)) ∧
      t = { s.conds t with rails := t.rails, phases := t.phases } ∧ OtherRails r s t ∧
      t.rail r = { s.rail r with scDone := true, scres := if high = [] then 1 else 2 } ∧
      (∀ y ∈ high, t.Stands 0x31 y.1 ∧ (t.ph y.1).schigh = true) ∧
      ∀ p, (∀ y ∈ high, y.1 ≠ p) → t.ph p = s.ph p) ∧
  (∀ (r : Fin 16) (s : State), machinesRun s = true → (s.rail r).st = .precheck → (s.rail r).scDone = true →
    (s.rail r).ofsLeft = [] → blocked s r = false →
    ∃ t, exec (.prebiasEntry r) s = .next t ∧ t = { s.conds t with rails := t.rails } ∧ OtherRails r s t ∧
      t.rail r = { s.rail r with st := .prebias, frames := 0, pbSum := 0, pbN := 0, vdac := (s.rail r).dacCode } ∧ ¬ t.Stands 0x20 r) ∧
  (∀ (r : Fin 16) (s : State), machinesRun s = true → s.StoresWf → (s.rail r).st = .prebias →
    (∀ q ∈ groupRails s r, (s.rail q).st = .prebias ∧ (s.rail q).pbN = 16) →
    ∃ t, exec (.rampEntry r) s = .next t ∧ r.val ∈ groupRails s r ∧ (∀ q, q ∉ groupRails s r → t.rail q = s.rail q) ∧
      ∀ q ∈ groupRails s r, (t.rail q).st = .ramp ∧ (∀ p ∈ availOf s q, (t.ph p).pst = .active) ∧
        (t.rail q).ref = 65536 * (if fld (s.rr q 0x2C) 31 16 ≤ ((s.rail q).pbSum + 8) / 16 then ((s.rail q).pbSum + 8) / 16 else 0))

/-- A LIMIT_ENTRY whose count of clamped updates is complete, of a rail that may come under its limiter, hands the rail to it:
from RAMP and REGULATE the rail enters LIMIT in the direction concerned and RAIL_LIMIT is raised; in a current-ramp stop the
rail stays in STOPPING and LIMDIR takes the direction. RAIL_STOPTO of a rail that has been in STOPPING for TMAX frames takes
it to OFF and is raised. No other rail moves. While the state machines run, RAIL_FOLLOW of a rail whose following error has
exceeded its limit for more than FETIME consecutive frames sets FEACT and the source stands; FOLLOWING_ERROR_REARM after
FETIME consecutive frames within it clears FEACT and the source stands no longer. Nothing else moves, and below the counts
nothing happens. (R178, R181, R187, R217) -/
def Obligations.LimitStopAndFollowing : Prop :=
  (∀ (r : Fin 16) (s : State), s.Runs → s.eng.haltReq = false → mayEnter s r = true → (s.rail r).limCnt ≠ 0 →
    fld (s.rail r).limCfg 3 0 ≤ (s.rail r).limCnt →
    ∃ t, exec (.limitEntry r) s = .next t ∧ OtherRails r s t ∧ (t.rail r).limdir = (s.rail r).limSide ∧ (t.rail r).limCnt = 0 ∧
      (t.rail r).limOut = (s.rail r).out ∧ (t.rail r).plL = some (s.rail r).out ∧ (t.rail r).plV = none ∧ t.phases = s.phases ∧ t.bank = s.bank ∧
      ((s.rail r).st ≠ .stopping → (t.rail r).st = .limit ∧ t.Waits 0x17 0 r) ∧
      ((s.rail r).st = .stopping → (t.rail r).st = .stopping ∧ t = { s.begin with rails := t.rails })) ∧
  (∀ (r : Fin 16) (s : State), machinesRun s = true → (s.rail r).st = .stopping →
    fld (s.rr r 0x2E) 23 0 ≤ (s.rail r).frames →
    ∃ t, exec (.railStopto r) s = .next t ∧ (t.rail r).st = .off ∧ t.Waits 0x16 0 r ∧ OtherRails r s t ∧
      (∀ p, railOf s p ≠ some r.val → t.ph p = s.ph p) ∧ (scanned s = false → ∀ p, railOf s p = some r.val → p < 48 → pins t p = (.hiZ, .hiZ))) ∧
  (∀ (r : Fin 16) (s : State), machinesRun s = true → (s.rail r).feact = false → fld (s.rr r 0x2B) 23 0 < (s.rail r).feCnt →
    ∃ t, exec (.railFollow r) s = .next t ∧ t = { s.conds t with rails := t.rails } ∧ OtherRails r s t ∧ t.Stands 0x12 r ∧
      t.rail r = { s.rail r with feact := true }) ∧
  (∀ (r : Fin 16) (s : State), machinesRun s = true → (s.rail r).feact = true → fld (s.rr r 0x2B) 23 0 ≤ (s.rail r).feIn →
    ∃ t, exec (.followingErrorRearm r) s = .next t ∧ t = { s.conds t with rails := t.rails } ∧ OtherRails r s t ∧
      ¬ t.Stands 0x12 r ∧ t.rail r = { s.rail r with feact := false }) ∧
  (∀ (r : Fin 16) (s : State), (s.rail r).feact = true ∨ (s.rail r).feCnt ≤ fld (s.rr r 0x2B) 23 0 →
    exec (.railFollow r) s = .next s.begin) ∧
  (∀ (r : Fin 16) (s : State), (s.rail r).feact = false ∨ (s.rail r).feIn < fld (s.rr r 0x2B) 23 0 →
    exec (.followingErrorRearm r) s = .next s.begin)

/-- At RESTART_DELAY_EXPIRY of a FAULTED rail with a restart pending, a rail that has used its NMAX restarts (or more, where NMAX
was lowered: log entry 134) gives up and RAIL_RSTMAX is raised; otherwise only its delay is over. An AUTOMATIC_RESTART that is
due counts in NRST (saturating at 15) and takes the rail to OFF with a start pending where the start checks pass, and gives up
with RAIL_RSTMAX where they fail. With FSCOPE = 1 it waits for a sequence in progress, and else every rail of the domain with
FSCOPE = 1 that is due and passes its checks restarts as one start sequence: both are the model's reading of R183 (log entry
61). (R183, R173, R347) -/
def Obligations.RestartsAreCounted : Prop :=
  (∀ (r : Fin 16) (s : State), machinesRun s = true → (s.rail r).st = .faulted → (s.rail r).rstpend = true →
    (s.rail r).rstDelay = some 0 →
    ∃ t, exec (.restartDelayExpiry r) s = .next t ∧ t = { s.msgs t with rails := t.rails } ∧ OtherRails r s t ∧
      ((s.rail r).nmax ≤ (s.rail r).nrst → t.rail r = { s.rail r with rstpend := false, rstDelay := none } ∧ t.Waits 0x18 0 r) ∧
      ((s.rail r).nrst < (s.rail r).nmax → t.rail r = { s.rail r with rstDelay := none } ∧ t.fc = s.fc)) ∧
  (∀ (r : Fin 16) (s : State), restartDue s r = true → fscope s r = false → startChecks s r = true →
    ∃ t, exec (.automaticRestart r) s = .next t ∧ (t.rail r).st = .off ∧ (t.rail r).startPend = true ∧
      (t.rail r).nrst = satInc 15 (s.rail r).nrst ∧ (t.rail r).faultedBy = [] ∧ OtherRails r s t ∧
      t.nv.tdue = s.nv.tdue.set 6 (s.nv.tdue.getD 6 0 + 1)) ∧
  (∀ (r : Fin 16) (s : State), restartDue s r = true → fscope s r = false → startChecks s r = false →
    ∃ t, exec (.automaticRestart r) s = .next t ∧ t = { s.msgs t with rails := t.rails } ∧ OtherRails r s t ∧
      t.rail r = { s.rail r with rstpend := false, rstDelay := none } ∧ t.Waits 0x18 0 r) ∧
  (∀ (r : Fin 16) (s : State), fscope s r = true → (s.dom (domOf s r)).seq ≠ 0 → exec (.automaticRestart r) s = .next s.begin) ∧
  (∀ (r : Fin 16) (s : State), restartDue s r = true → fscope s r = true → (s.dom (domOf s r)).seq = 0 →
    ∃ t, exec (.automaticRestart r) s = .next t ∧
      ∀ q < 16, domOf s q = domOf s r → fscope s q = true → restartDue s q = true → startChecks s q = true →
        (t.rail q).st = .off ∧ (t.rail q).nrst = satInc 15 (s.rail q).nrst ∧ (t.dom (domOf s r)).seq = 1 ∧
        (rankOf s q = 0 → (t.rail q).startPend = true) ∧ (rankOf s q ≠ 0 → q ∈ (t.dom (domOf s r)).todo))

/-- While the state machines run: PHASE_SHED after its dwell sheds the last ACTIVE phase in effective order that is not on dead
reckoning; PHASE_ADD after its dwell makes the first SHED phase ACTIVE, joining, with zeroed contexts; it stays in the HOLD it
is in, and one whose period still runs is in HOLD from its next boundary. Both restart the counts and re-spread the offsets:
the next set of the k-th of the n phases now ACTIVE carries k × P / n, rounded; no other phase changes its condition and no
other rail moves. DRIP_ENTRY after its dwell, with DRIPEN set, takes a settled rail from REGULATE to DRIP, each ACTIVE phase
holding its duty raised to TONMIN / P. RAIL_BRAKETO after TMAX frames in BRAKE takes the rail back to REGULATE and is raised.
(R209, R212, R214, R218, R219, R223) -/
def Obligations.SheddingDripAndBrake : Prop :=
  (∀ (r : Fin 16) (p : Nat) (s : State), s.StoresWf → machinesRun s = true → (s.rail r).shedCnt ≠ 0 →
    fld (rgOf s r 5) 31 16 ≤ (s.rail r).shedCnt →
    ((effOrder s r).filter fun q => (s.ph q).pst == .active && !(s.ph q).est).getLast? = some p →
    ∃ t, exec (.phaseShed r) s = .next t ∧ (t.ph p).pst = .shed ∧ (∀ q, q ≠ p → (t.ph q).pst = (s.ph q).pst) ∧
      OtherRails r s t ∧ (t.rail r).shedCnt = 0 ∧ (t.rail r).addCnt = 0 ∧ (t.rail r).dripCnt = 0 ∧
      ∀ k q, (activeOf t r)[k]? = some q → (t.ph q).newOfs =
        some (roundAway (((k * railPer t r : Nat) : Rat) / ((activeOf t r).length : Rat))).toNat) ∧
  (∀ (r : Fin 16) (p : Nat) (s : State), s.StoresWf → machinesRun s = true → (s.rail r).addCnt ≠ 0 →
    fld (rgOf s r 5) 15 0 ≤ (s.rail r).addCnt → (effOrder s r).find? (fun q => (s.ph q).pst == .shed) = some p →
    ∃ t, exec (.phaseAdd r) s = .next t ∧ (t.ph p).pst = .active ∧ (t.ph p).joining = true ∧
      (t.ph p).gen.hold = ((s.ph p).gen.hold || !(s.ph p).gen.going) ∧
      t.eng.ctx[32 + p]? = some (List.replicate 6 Block.init) ∧ t.eng.ctx[80 + p]? = some (List.replicate 6 Block.init) ∧
      (∀ q, q ≠ p → (t.ph q).pst = (s.ph q).pst) ∧ OtherRails r s t ∧
      (t.rail r).shedCnt = 0 ∧ (t.rail r).addCnt = 0 ∧ (t.rail r).dripCnt = 0 ∧
      ∀ k q, (activeOf t r)[k]? = some q → (t.ph q).newOfs =
        some (roundAway (((k * railPer t r : Nat) : Rat) / ((activeOf t r).length : Rat))).toNat) ∧
  (∀ (r : Fin 16) (s : State), machinesRun s = true → (s.rail r).dripCnt ≠ 0 → fld (rgOf s r 5) 31 16 ≤ (s.rail r).dripCnt →
    bit (rgOf s r 1) 31 = true → (s.rail r).st = .regulate → (s.rail r).ref = (s.rail r).target * 65536 → anyEst s r = false →
    injecting s r = false →
    ∃ t, exec (.dripEntry r) s = .next t ∧ t = { s.begin with rails := t.rails, phases := t.phases } ∧
      OtherRails r s t ∧ t.rail r = { s.rail r with st := .drip, frames := 0, preDrip := (s.rail r).out, shedCnt := 0
                                                    addCnt := 0, dripCnt := 0, dripDue := false } ∧
      ∀ p ∈ activeOf s r, (t.ph p).preDrip = (s.ph p).duty ∧
        (t.ph p).dripDuty = max (s.ph p).duty ((fld (rgOf s r 1) 27 16 : Rat) / (fld (s.pr p 0x1A) 15 0 : Rat))) ∧
  (∀ (r : Fin 16) (s : State), machinesRun s = true → (s.rail r).st = .brake →
    fld (rgOf s r 3) 31 16 ≤ (s.rail r).frames →
    ∃ t, exec (.railBraketo r) s = .next t ∧ (t.rail r).st = .regulate ∧ (t.rail r).frames = 0 ∧ t.Waits 0x1B 0 r ∧
      t = { s.msgs t with rails := t.rails, phases := t.phases } ∧ OtherRails r s t ∧
      ∀ p, (t.ph p).pst = (s.ph p).pst)

/-- VOLTAGE_LIMIT_STANDS of a limit that does not stand and has been exceeded for its number of frames makes the condition and its
source (OV 0x13, UV 0x14, XOV 0x10, XUV 0x11) stand; VOLTAGE_LIMIT_CLEARS after as many frames within the limit less its
hysteresis ends both. The thermal limits do the same after 64 frames, with RAIL_TWARN 0x1E and RAIL_OT 0x1F, and the end of
RAIL_TWARN ends the derating. Nothing else moves: of the rail's record only the condition named and, at the end of RAIL_TWARN,
the derating. (R242, R243, R246, R247, R297) -/
def Obligations.ProtectionLimitsStandAndClear : Prop :=
  (vlimSrc .ov = 0x13 ∧ vlimSrc .uv = 0x14 ∧ vlimSrc .xov = 0x10 ∧ vlimSrc .xuv = 0x11) ∧
  (∀ (r : Fin 16) (k : VLim) (s : State), s.Runs → (condOf (s.rail r) k).on = false →
    (fld (s.rr r 0x4B) (if vlimOver k then 31 else 23) (if vlimOver k then 24 else 16)) ≤ (condOf (s.rail r) k).up →
    ∃ t, exec (.voltageLimitStands r k) s = .next t ∧ t = { s.conds t with rails := t.rails } ∧ OtherRails r s t ∧
      t.Stands (vlimSrc k) r ∧ t.rail r = setCondOf k { condOf (s.rail r) k with on := true, dn := 0 } (s.rail r)) ∧
  (∀ (r : Fin 16) (k : VLim) (s : State), s.Runs → (condOf (s.rail r) k).on = true →
    (fld (s.rr r 0x4B) (if vlimOver k then 31 else 23) (if vlimOver k then 24 else 16)) ≤ (condOf (s.rail r) k).dn →
    ∃ t, exec (.voltageLimitClears r k) s = .next t ∧ t = { s.conds t with rails := t.rails } ∧ OtherRails r s t ∧
      ¬ t.Stands (vlimSrc k) r ∧ t.rail r = setCondOf k { condOf (s.rail r) k with on := false, up := 0 } (s.rail r)) ∧
  (∀ (r : Fin 16) (trip : Bool) (s : State), s.Runs → (if trip then (s.rail r).ot else (s.rail r).tw).on = false →
    64 ≤ (if trip then (s.rail r).ot else (s.rail r).tw).up →
    ∃ t, exec (.thermalLimitStands r trip) s = .next t ∧ t = { s.conds t with rails := t.rails } ∧ OtherRails r s t ∧
      t.Stands (if trip then 0x1F else 0x1E) r ∧
      t.rail r = (if trip then { s.rail r with ot := { (s.rail r).ot with on := true, dn := 0 } }
        else { s.rail r with tw := { (s.rail r).tw with on := true, dn := 0 } })) ∧
  (∀ (r : Fin 16) (trip : Bool) (s : State), s.Runs → (if trip then (s.rail r).ot else (s.rail r).tw).on = true →
    64 ≤ (if trip then (s.rail r).ot else (s.rail r).tw).dn →
    ∃ t, exec (.thermalLimitClears r trip) s = .next t ∧ t = { s.conds t with rails := t.rails } ∧ OtherRails r s t ∧
      ¬ t.Stands (if trip then 0x1F else 0x1E) r ∧
      t.rail r = (if trip then { s.rail r with ot := { (s.rail r).ot with on := false, up := 0 } }
        else { s.rail r with tw := { (s.rail r).tw with on := false, up := 0 }, derate := false })) ∧
  (∀ (x : Rail) (c : Cond), setCondOf .ov c x = { x with ov := c } ∧ setCondOf .uv c x = { x with uv := c } ∧
    setCondOf .xov c x = { x with xov := c } ∧ setCondOf .xuv c x = { x with xuv := c })

/-- A CUP_MEASUREMENT_DONE of a completed integration with a response writes |L| = |U| / |X| in BF24, its phase, and outside a
sweep the phase margin half a turn from it; a single measurement then asks for the end, a sweep keeps the point (frequency,
|L|, phase) and its eight samples. An INJECTION_END of an injection that has reached the zero it was to end at stops it:
CUP_DONE or CUP_ABORT is raised, LAST tells which, and a sweep's buffer is complete. Nothing outside the cupping unit and the
buffer moves. A CAPTURE_TICK of a running capture that was triggered stores each selected channel's latest result in front of
its samples while the channel's share is not full, and changes nothing outside the capture unit. CAPTURE_DONE, when the share
of every channel is full after the trigger, makes the capture DONE and raises CAP_DONE. (R101, R103, R258, R259, R260, R263,
R265) -/
def Obligations.MeasurementsAndCaptureRun : Prop :=
  (∀ (m : CupSums) (s : State), s.Runs → s.cup.run = true → s.cup.result = some m → m.xs * m.xs + m.xc * m.xc ≠ 0 →
    ∃ t, exec .cupMeasurementDone s = .next t ∧ t = { s.msgs t with cup := t.cup, capt := t.capt } ∧ t.cup.result = none ∧
      t.cup.run = true ∧ t.cup.gain = sqrtBF ((m.us * m.us + m.uc * m.uc) / (m.xs * m.xs + m.xc * m.xc)) ∧
      (m.us * m.us + m.uc * m.uc ≠ 0 → t.cup.ph = ang16 (-(m.us * m.xs + m.uc * m.xc)) (-(m.uc * m.xs - m.us * m.xc))) ∧
      (s.cup.mode < 2 → t.cup.pm = (t.cup.ph + 0x8000) % 65536 ∧ t.capt = s.capt ∧ t.cup.pts = s.cup.pts) ∧
      (s.cup.mode = 2 → t.cup.pts = s.cup.pts ++ [(s.cup.f, t.cup.gain, t.cup.ph)] ∧
        t.capt = { s.capt with sweep := s.capt.sweep ++ pointSamples s.cup.f t.cup.gain t.cup.ph }) ∧
      (s.cup.mode = 0 → s.cup.ending = none → t.cup.ending = some (true, false))) ∧
  (∀ (done byRail : Bool) (s : State), s.Runs → s.cup.run = true → s.cup.zero = true → s.cup.ending = some (done, byRail) →
    ∃ t, exec .injectionEnd s = .next t ∧ t = { s.msgs t with cup := t.cup, capt := t.capt } ∧
      t.cup = { s.cup with run := false, ending := none, zero := false, result := none, last := if done then 1 else 2 } ∧
      t.capt = (if s.cup.mode = 2 then { s.capt with st := 2 } else s.capt) ∧
      (if done then t.Waits 0x21 0 s.cup.rail else t.Waits 0x22 0 (s.cup.rail + if byRail then 2048 else 0))) ∧
  (∀ s : State, s.Works → s.capt.st = 1 → s.capt.owner = 1 →
    ∃ t, exec .captureTick s = .next t ∧ t = { s.begin with capt := t.capt } ∧ t.capt.st = 1 ∧ t.capt.owner = 1 ∧
      t.capt.srcSeen = false ∧ t.capt.chans.length = (s.capt.chans.zip s.capt.sel).length ∧
      (s.capt.trig ≠ none → t.capt.trig = s.capt.trig ∧
        t.capt.chans = (s.capt.chans.zip s.capt.sel).map fun x =>
          if x.1.length < s.capt.share then c16 (chanValue s x.2) :: x.1 else x.1)) ∧
  (∀ s : State, s.Works → s.capt.st = 1 → s.capt.owner = 1 → s.capt.trig ≠ none → (∀ l ∈ s.capt.chans, l.length = s.capt.share) →
    ∃ t, exec .captureDone s = .next t ∧ t.Waits 0x7A 0 0 ∧ t = { s.msgs t with capt := { s.capt with st := 2 } })

/-- The message that the arbiter takes is the one raised in the earliest CKB cycle, of these the one with the lowest SRC, then the
lowest ADDR, and of one queue the oldest. A FAULT_ACCEPT takes it: sequence number and log count advance, the log's newest
entry holds class, source, sequence number and the frame (of a clock loss's message the frozen one), and CAPPED exactly for a
SET or EVENT that is only injected while FC_CTL.0 is 0, and a SET or EVENT sets its source's latch. At class 0 or 1, for a
CLEAR, and for an injected message that is not real while FC_CTL.INJACT is 0, no rail, no phase and no device state changes;
such a SET or EVENT is still captured at its programmed class, CAPPED, in an empty first-source latch, and from class 1 on
sets bit 1 of the FC page's PG_EVT. Any other SET or EVENT acts at its class, an injected one while INJACT is 1 included: at
class 3, out of SAFE and LOCKED on a device that is no standby, takes every rail it reaches that is neither in OFF nor LOCKED
to FAULTED. At class 4 it takes the device, unless it is in SAFE or LOCKED, to SAFE, and at class 5 to LOCKED, with every
output in high impedance. A COLLECTOR_SELF_FAULT sets SELF, writes the first-source latch with FC_SELF at class 4, sets bits 0
and 2 of the FC page's PG_EVT, and takes a device that is not in BOOT, SAFE or LOCKED to SAFE with every output in high
impedance. An ALIVE_TOGGLE out of the safe state when HALF frames have passed inverts ALIVE and loads HALF again, and nothing
else moves. (R271, R275, R278, R280, R281, R282, R283, R284, R285, R291, R292, R293) -/
def Obligations.CollectorAcceptsAndActs : Prop :=
  (∀ (l : List Msg) (m : Msg), pickMsg l = some m → ∃ i, l[i]? = some m ∧ ∀ (j : Nat) (x : Msg), l[j]? = some x →
    m.born < x.born ∨ (m.born = x.born ∧ (m.src < x.src ∨ (m.src = x.src ∧ (m.addr < x.addr ∨ (m.addr = x.addr ∧ i ≤ j)))))) ∧
  (∀ (m : Msg) (s : State), s.Works → s.StoresWf → pickMsg s.fc.pend = some m →
    ∃ t, exec .faultAccept s = .next t ∧ t.fc.seq = (s.fc.seq + 1) % 4096 ∧ t.fc.logCnt = (s.fc.logCnt + 1) % 4294967296 ∧
      (∃ e, t.fc.log = (e :: s.fc.log).take 64 ∧ e.lo = m.lo s.fc.seq ∧ e.ts = BitVec.ofNat 32 (m.stamp.getD s.dev.frame) ∧
        (m.src < 256 → fld e.hi 10 8 = clsOf s m.src ∧ fld e.hi 7 0 = m.src ∧
          bit e.hi 11 = (m.inj && !m.real && !bit (s.reg 0x0308) 0 && m.kind != 2))) ∧
      (m.kind ≠ 2 → m.src < 256 → bit (t.reg (0x0320 + m.src / 32)) (m.src % 32) = true) ∧
      (clsOf s m.src < 2 ∨ m.kind = 2 ∨ (m.inj = true ∧ m.real = false ∧ bit (s.reg 0x0308) 0 = false) →
        t.rails = s.rails ∧ t.phases = s.phases ∧ t.dev = s.dev) ∧
      (m.kind ≠ 2 → m.src < 256 → m.inj = true → m.real = false → bit (s.reg 0x0308) 0 = false →
        (1 ≤ clsOf s m.src → bit (t.reg 0x0303) 1 = true) ∧
        (fld (s.reg 0x0308) 10 8 ≤ clsOf s m.src → bit s.fc.firstHi 31 = false →
          bit t.fc.firstHi 31 = true ∧ bit t.fc.firstHi 11 = true ∧ fld t.fc.firstHi 10 8 = clsOf s m.src ∧
          fld t.fc.firstHi 7 0 = m.src ∧ t.fc.firstLo = m.lo s.fc.seq)) ∧
      (clsOf s m.src = 3 → m.kind ≠ 2 → m.real = true ∨ m.inj = false ∨ bit (s.reg 0x0308) 0 = true → s.dev.st ≠ .safe → s.dev.st ≠ .locked → isStandby s = false →
        ∀ r ∈ railsHit s m.src m.addr, (s.rail r).st ≠ .off → (s.rail r).st ≠ .locked → (t.rail r).st = .faulted) ∧
      (clsOf s m.src = 4 → m.kind ≠ 2 → m.real = true ∨ m.inj = false ∨ bit (s.reg 0x0308) 0 = true → s.dev.st ≠ .safe → s.dev.st ≠ .locked →
        t.dev.st = .safe ∧ t.Quiet ∧ t.fc.safe = true) ∧
      (clsOf s m.src = 5 → m.kind ≠ 2 → m.real = true ∨ m.inj = false ∨ bit (s.reg 0x0308) 0 = true → s.dev.st ≠ .locked →
        t.dev.st = .locked ∧ t.Quiet ∧ ∀ r < 16, (t.rail r).st = .locked)) ∧
  (∀ s : State, s.Runs → s.StoresWf →
    ∃ t, exec .collectorSelfFault s = .next t ∧ t.fc.self = true ∧ fld t.fc.firstHi 7 0 = 0xFF ∧ fld t.fc.firstHi 10 8 = 4 ∧
      t.fc.firstTs = BitVec.ofNat 32 s.dev.frame ∧ bit (t.reg 0x0303) 0 = true ∧ bit (t.reg 0x0303) 2 = true ∧
      (s.dev.st ∈ [DevState.idle, .active, .standby] → t.dev.st = .safe ∧ t.Quiet ∧ t.fc.safe = true) ∧
      (s.dev.st = .safe ∨ s.dev.st = .locked → t.dev.st = s.dev.st ∧ t.rails = s.rails)) ∧
  (∀ s : State, s.Works → s.fc.safe = false → s.dev.aliveLeft = 0 →
    exec .aliveToggle s = .next { s.begin with
      dev := { s.dev with alive := if s.dev.alive = .high then .low else .high, aliveLeft := fld (s.reg 0x030F) 12 0 } })

/-- On a device that pairs, a frame with its SYNC, a good CRC and the next HB is valid: it counts as the frame's arrival and joins
the elastic buffer of four with the instant of its SYNC, which lies as many own edges back as the frame is given to have
crossed, at most two (R308's slip; that the crossings are an operand is the model's reading, log entry 96), and the frames
with PRST in a row are counted (R323 says only the fourth it receives with that bit; that they follow one another is the
model's reading, log entry 103); any other frame counts in CRCERR and changes nothing else but the stamp of its SYNC. A
DESKMATE_FRAME_PROCESS takes the oldest frame once an own edge has followed its end: the partner's place, digest and safe
state are taken from it, and a class 4 action newly reported raises TWIN_PARTNER_SAFE; a SOLO device becomes PRIMARY when the
partner reports SYNCING, and a FORMING device in IDLE enters SYNCING in STANDBY when the partner reports SOLO or PRIMARY. On a
standby, a frame of the driving device without writes and without correction sets every rail to the state it reports, where no
phase is on dead reckoning; one that reports a class 4 action is a takeover cause and sets no rail (log entry 102). A SYNCING
or READY device in SAFE applies the frame's writes (R302, R310), and its rails and phases follow nothing (log entry 102).
(R302, R303, R304, R307, R308, R309, R310, R316, R324) -/
def Obligations.LinkFramesAreReceivedAndFollowed : Prop :=
  (∀ (f : LinkFrame) (n e : Nat) (s : State), twinOn s = true →
    (s.twin.hbPrev = none ∨ ∃ h, s.twin.hbPrev = some h ∧ f.hb.toNat = (h + 1) % 65536) →
    ∃ t, exec (.deskmateFrameReceive f true true n e) s = .next t ∧
      t = { s.begin with perf := t.perf, twin := t.twin } ∧
      t.twin = { s.twin with hbPrev := some f.hb.toNat, got := true, stamp := n % 25600, prstGot := t.twin.prstGot
                             rx := if s.twin.rx.length < 4 then s.twin.rx ++ [(f, (s.dev.frame - min e 2) * 25600 + n % 25600)]
                                   else s.twin.rx } ∧
      t.twin.prstGot = (if f.prst then satInc 4 s.twin.prstGot else 0)) ∧
  (∀ (f : LinkFrame) (sync crc : Bool) (n e : Nat) (s : State), twinOn s = true →
    (sync = false ∨ crc = false ∨ ∃ h, s.twin.hbPrev = some h ∧ f.hb.toNat ≠ (h + 1) % 65536) →
    ∃ t, exec (.deskmateFrameReceive f sync crc n e) s = .next t ∧
      t = { s.begin with perf := t.perf
                         twin := { s.twin with stamp := if sync then n % 25600 else s.twin.stamp
                                               crcErr := satInc 65535 s.twin.crcErr } }) ∧
  (∀ (f : LinkFrame) (a : Nat) (rest : List (LinkFrame × Nat)) (s : State), twinOn s = true →
    s.twin.pst = .primary ∨ s.twin.pst = .solo → s.twin.rx = (f, a) :: rest → a / 25600 + 1 < s.dev.frame →
    ∃ t, exec .deskmateFrameProcess s = .next t ∧ t.twin.rx = rest ∧ t.twin.ppst = f.pst ∧ t.twin.pdigest = f.cfgd ∧
      t.twin.psafe = f.cls4 ∧ (f.cls4 = true → s.twin.psafe = false → t.Waits 0xA4 0 0) ∧ t.rails = s.rails ∧
      t.bank = s.bank ∧ (s.twin.pst = .solo → f.pst = 3 → t.twin.pst = .primary)) ∧
  (∀ (f : LinkFrame) (a : Nat) (rest : List (LinkFrame × Nat)) (s : State), twinOn s = true → s.dev.st = .idle →
    s.twin.pst = .forming → s.twin.rx = (f, a) :: rest → a / 25600 + 1 < s.dev.frame → f.pst = 0 ∨ f.pst = 2 →
    f.wr = [] → f.corr = .nothing →
    ∃ t, exec .deskmateFrameProcess s = .next t ∧ t.twin.rx = rest ∧ t.twin.pst = .syncing ∧ t.dev.st = .standby) ∧
  (∀ (f : LinkFrame) (a : Nat) (rest : List (LinkFrame × Nat)) (s : State), twinOn s = true → s.dev.st = .standby →
    s.twin.pst = .syncing ∨ s.twin.pst = .ready → s.twin.rx = (f, a) :: rest → a / 25600 + 1 < s.dev.frame → f.pst ≤ 2 →
    f.wr = [] →
    ∃ t, exec .deskmateFrameProcess s = .next t ∧ t.twin.rx = rest ∧
      (f.cls4 = true → t.rails = s.rails ∧ t.phases = s.phases ∧ t.twin.cause = some 1) ∧
      (f.cls4 = false → f.corr = .nothing → (∀ p < 48, (s.ph p).est = false) →
        ∀ r < 16, (t.rail r).st = RailState.ofCode (f.rstate.getD r 0))) ∧
  (∀ (f : LinkFrame) (a : Nat) (rest : List (LinkFrame × Nat)) (s : State), twinOn s = true → s.dev.st = .safe →
    s.twin.pst = .syncing ∨ s.twin.pst = .ready → s.twin.rx = (f, a) :: rest → a / 25600 + 1 < s.dev.frame → f.pst ≤ 2 →
    ∃ t, exec .deskmateFrameProcess s = .next t ∧ t.twin.rx = rest ∧ t.twin.rpl = (s.twin.rpl + f.wr.length) % 4294967296 ∧
      (f.wr = [] → t.rails = s.rails ∧ t.phases = s.phases ∧ t.bank = s.bank) ∧
      ∀ n w row, n < 4 → f.wr = [(BitVec.ofNat 16 (0x0A0C + n), w)] → regRow (0x0A0C + n) = some row →
        t.reg (0x0A0C + n) &&& row.rwBits = w &&& row.rwBits ∧ SameRegs [0x0A0C + n] s t)

/-- LINK_LOST of a formed pair, with LOSSCNT at 4 or more, makes TWIN_LINK_LOST stand while the partner's ALIVE toggles: a PRIMARY
with no class 4 action in force becomes SOLO and keeps its device state, one in SAFE becomes ORPHAN (and one in LOCKED, where
R323 names SAFE only: the model's reading, log entry 99), a SYNCING or READY device whose partner's ALIVE toggles becomes
ORPHAN. FORMATION_TIMEOUT with no valid frame in the time of TWIN_CFG ends FORMING: SOLO where the partner's ALIVE is
undriven; else (and where it is not judged yet: the model's reading, log entry 77) TWIN_LINK_LOST stands, and the device
strapped as ROLE 1 becomes SOLO, the other ORPHAN in STANDBY. No rail moves. (R303, R317, R322, R323, R324) -/
def Obligations.LinkLossAndFormation : Prop :=
  (∀ s : State, twinOn s = true → 4 ≤ s.twin.loss → s.twin.pst ≠ .forming →
    ∃ t, exec .linkLost s = .next t ∧ (s.twin.pal = 0 → t.Stands 0xA0 0) ∧ t.rails = s.rails ∧ t.phases = s.phases ∧
      (s.twin.pst = .primary → s.fc.safe = false → t.twin.pst = .solo ∧ t.dev = s.dev) ∧
      (s.twin.pst = .primary → s.fc.safe = true → t.twin.pst = .orphan) ∧
      (s.twin.pst = .syncing ∨ s.twin.pst = .ready → s.twin.pal = 0 → t.twin.pst = .orphan) ∧
      (s.twin.pst = .syncing ∨ s.twin.pst = .ready → s.twin.pal ≠ 0 → t.twin.pst = s.twin.pst)) ∧
  (∀ s : State, twinOn s = true → s.twin.pst = .forming → s.twin.hbPrev = none →
    1000 * fld (s.reg 0x0908) 23 16 ≤ s.twin.formAge →
    ∃ t, exec .formationTimeout s = .next t ∧ ¬ t.Stands 0xA3 1 ∧ t.rails = s.rails ∧ t.phases = s.phases ∧
      (s.twin.pal = 2 → t.twin.pst = .solo ∧ t.dev = s.dev) ∧
      (s.twin.pal ≠ 2 → t.Stands 0xA0 0 ∧
        (s.dev.role = true → t.twin.pst = .solo ∧ t.dev = s.dev) ∧
        (s.dev.role = false → t.twin.pst = .orphan ∧ (s.dev.st = .idle → t.dev.st = .standby))))

/-- A TAKEOVER completes on every standby in STANDBY that pairs and has a cause of R316: LOSSCNT at 4 or more while the partner's
ALIVE is stopped or undriven (cause 0), or else the cause found at this edge; that cause 0 wins where both are found is the
model's choice (R316 gives no order, log entry 138). A READY standby becomes the driving device: ACTIVE and SOLO,
TWIN_TAKEOVER raised with the cause, TWIN_LAST the frame, a running injection ended, a DRVEN that goes high risen 200 ns after
the edge (R318 only bounds the time; the model's choice, log entry 33), every generator that goes driving from its next
boundary; nothing else moves but the reference instants of generators that have not begun, so every rail, context and register
stays as it is. A standby that is not READY goes to SOLO in IDLE with every rail in OFF and every output in high impedance. A
SWAP_EDGE that is due completes on a READY standby in STANDBY, which becomes ACTIVE and PRIMARY with cause 3 in the same way,
its DRVEN already high for 1 µs (R321 only bounds it; log entry 33); and on a PRIMARY in ACTIVE or IDLE, which begins to
leave, or enters SYNCING in STANDBY at once when none of its phases drives. (R26, R315, R316, R318, R320, R321, R322) -/
def Obligations.TakeoverAndHandover : Prop :=
  (∀ (c : Nat) (s : State), twinOn s = true → s.dev.st = .standby → s.twin.pst = .ready →
    ((4 ≤ s.twin.loss ∧ (s.twin.pal = 1 ∨ s.twin.pal = 2) ∧ c = 0) ∨
      (¬ (4 ≤ s.twin.loss ∧ (s.twin.pal = 1 ∨ s.twin.pal = 2)) ∧ s.twin.cause = some c)) →
    ∃ t, exec .takeover s = .next t ∧
      t = { s.msgs t with
        dev := { s.dev with st := .active }, phases := t.phases, doms := t.doms, cup := t.cup, capt := t.capt
        twin := { s.twin with pst := .solo, last := s.dev.frame % 4294967296, hoGot := 0, swapDue := false } } ∧
      t.Waits 0xA1 0 c ∧ t.cup.run = false ∧ (s.cup.run = false → t.cup = s.cup ∧ t.capt = s.capt) ∧
      (∀ k < 4, t.dom k = if drvHigh t k && !drvHigh s k then { s.dom k with drvRise := s.dev.frame * 400 + 80 } else s.dom k) ∧
      ∀ p < 48, t.ph p = { s.ph p with gen := { (s.ph p).gen with
          driving := (s.ph p).gen.driving && !(s.ph p).gen.going, ref := (t.ph p).gen.ref } } ∧
        ((s.ph p).gen.going = true → (t.ph p).gen.ref = (s.ph p).gen.ref)) ∧
  (∀ (c : Nat) (s : State), twinOn s = true → s.dev.st = .standby → s.twin.pst ≠ .ready →
    ((4 ≤ s.twin.loss ∧ (s.twin.pal = 1 ∨ s.twin.pal = 2)) ∨ s.twin.cause = some c) →
    ∃ t, exec .takeover s = .next t ∧ t.dev = { s.dev with st := .idle } ∧ t.twin = { s.twin with pst := .solo } ∧
      (∀ r < 16, (t.rail r).st = .off) ∧ t.Quiet) ∧
  (∀ s : State, twinOn s = true → s.twin.swapDue = true → s.twin.pst = .ready → s.dev.st = .standby →
    ∃ t, exec .swapEdge s = .next t ∧
      t = { s.msgs t with
        dev := { s.dev with st := .active }, phases := t.phases, doms := t.doms, cup := t.cup, capt := t.capt
        twin := { s.twin with pst := .primary, last := s.dev.frame % 4294967296, hoGot := 0, swapDue := false, copyDue := true
                              wrq := [], copied := none, ppst := 7 } } ∧
      t.Waits 0xA1 0 3 ∧ t.cup.run = false ∧ (s.cup.run = false → t.cup = s.cup ∧ t.capt = s.capt) ∧
      (∀ k < 4, t.dom k = if drvHigh t k && !drvHigh s k then { s.dom k with drvRise := s.dev.frame * 400 - 400 } else s.dom k) ∧
      ∀ p < 48, t.ph p = { s.ph p with gen := { (s.ph p).gen with
          driving := (s.ph p).gen.driving && !(s.ph p).gen.going, ref := (t.ph p).gen.ref } } ∧
        ((s.ph p).gen.going = true → (t.ph p).gen.ref = (s.ph p).gen.ref)) ∧
  (∀ s : State, twinOn s = true → s.twin.swapDue = true → s.twin.pst = .primary → s.dev.st = .active ∨ s.dev.st = .idle →
    (∃ p < 48, (s.ph p).gen.driving = true ∧ (s.ph p).gen.going = true ∧ counts s p = true) →
    exec .swapEdge s = .next { s.begin with
      twin := { s.twin with swapDue := false, leaving := true, wrq := [], copied := none } }) ∧
  (∀ s : State, twinOn s = true → s.twin.swapDue = true → s.twin.pst = .primary → s.dev.st = .active ∨ s.dev.st = .idle →
    (∀ p < 48, (s.ph p).gen.driving = true → (s.ph p).gen.going = true → counts s p = false) →
    ∃ t, exec .swapEdge s = .next t ∧ t.dev = { s.dev with st := .standby } ∧ t.twin.pst = .syncing ∧ t.twin.swapDue = false ∧
      t.twin.leaving = false ∧ t.twin.rpl = s.twin.rpl ∧ (∀ r, (t.rail r).st = (s.rail r).st) ∧ t.eng = s.eng ∧ t.bank = s.bank)

/-- DIGEST_COMPUTE, 1000 frames after the last and not before, sets the digest over the RW and RWL fields R313 covers, a free
function of their words (the spec does not give the CRC-32's parameters; which registers it covers and in what order is the
model's choice too, log entry 86); on a device outside a pair or without the link nothing else moves, since digests are
compared only in a pair with the link up (the model's choice, log entry 77); in a pair with the link up, a second consecutive
difference makes TWIN_CFG_MISMATCH stand at 0 and a second consecutive equality ends it. TWIN_DUTY_MISMATCH of a rail whose
duty has differed raises the source once and disarms it until the duties agree again. (R313, R324) -/
def Obligations.DigestsAndDuties : Prop :=
  (∀ s : State, s.twin.digAge < 1000 → exec .digestCompute s = .next s.begin) ∧
  (∀ s : State, s.Works → 1000 ≤ s.twin.digAge → (paired s && linkUp s) = false →
    exec .digestCompute s = .next { s.begin with
      twin := { s.twin with digAge := 0, digest := Config.digestOf (covered.map (coveredWord s)) } }) ∧
  (∀ (d : Word) (s : State), s.Works → 1000 ≤ s.twin.digAge → (paired s && linkUp s) = true → d = Config.digestOf (covered.map (coveredWord s)) →
    ∃ t, exec .digestCompute s = .next t ∧ t = { s.conds t with twin := t.twin } ∧ t.twin.digest = d ∧ t.twin.digAge = 0 ∧ t.twin.pst = s.twin.pst ∧
      (d ≠ s.twin.pdigest → t.twin.diffRun = satInc 2 s.twin.diffRun ∧ t.twin.sameRun = 0 ∧
        (1 ≤ s.twin.diffRun → s.twin.diffRun ≤ 2 → t.Stands 0xA3 0)) ∧
      (d = s.twin.pdigest → t.twin.sameRun = satInc 2 s.twin.sameRun ∧ t.twin.diffRun = 0 ∧
        (1 ≤ s.twin.sameRun → s.twin.sameRun ≤ 2 → ¬ t.Stands 0xA3 0))) ∧
  (∀ (r : Fin 16) (s : State), twinOn s = true → s.twin.dutyHit.getD r false = true →
    ∃ t, exec (.twinDutyMismatch r) s = .next t ∧ t.Waits 0xA2 0 r ∧
      t = { s.msgs t with twin := { s.twin with dutyHit := s.twin.dutyHit.set r false
                                                dutyArmed := s.twin.dutyArmed.set r false } }) ∧
  (∀ (r : Fin 16) (s : State), s.twin.dutyHit.getD r false = false → exec (.twinDutyMismatch r) s = .next s.begin)

/-- A leader sends at each frame whose number is a multiple of 4 a frame with that count and its four slots; the count is the own
frame number / 4 modulo 4 and STOPALL is never set (the model's choice, log entry 104). A follower takes a frame with a good
CRC: the link is up, slot states and references are the frame's, no frame is missing, the frame began at the instant given
(with a link that stood its number is on by as many frames as the two begins are apart, and 0 else), the lead phase of each
slot, where no slot stops, is held at the count it has, or by its present period's end will have had, at that instant, and a
slot that reads STOP, or STOPALL, takes its running rail to STOPPING in mode 0b10, one that reads FAULT in mode 0b00 (no other
slot of the same rail asking for the other mode), at once or, in a debug halt, when the halt ends (log entry 140); a bad CRC
is counted and ends the run of good frames, and nothing else moves. GANG_TIMEOUT after TMO gang frames missed (one for each
four of the own frames that have passed since the latest valid frame, once it can no longer come in: log entry 104) ends the
link, TWIN_LINK_LOST stands at 2, and every running slot rail goes to STOPPING as on STOP; once it has, only a run of missed
frames behind a further valid frame does so again. (R326, R327, R328, R161) -/
def Obligations.GangBusFrames : Prop :=
  (∀ s : State, gangLeads s = true → s.dev.frame % 4 = 0 →
    exec .gangFrameSend s = .next { s.begin with
      gang := { s.gang with tx := some ⟨false, s.dev.frame / 4 % 4, (List.range 4).map (slotOf s)⟩ } }) ∧
  (∀ (f : GangFrame) (b : Nat) (s : State), gangFollows s = true →
    ∃ t, exec (.gangFrameReceive f true b) s = .next t ∧ t.gang.link = true ∧ t.gang.slotSt = f.slots.map (·.1) ∧
      t.gang.slotRef = f.slots.map (·.2) ∧ t.gang.age = 0 ∧ t.gang.start = b ∧
      t.gang.n = (if s.gang.link then s.gang.n + (b - s.gang.start + 800) / 1600 else 0) ∧
      (s.gang.lost = true → fld (s.reg 0x7108) 7 0 ≤ satInc 255 s.gang.ok → t.gang.lost = false ∧ ¬ t.Stands 0xA0 2) ∧
      ∀ k < 4, slotOn s k = true → (s.rail (slotRail s k)).st ∈ [RailState.ramp, .regulate, .drip, .limit, .brake] →
        (f.stopAll = true ∨ ((f.slots.getD k (0, 0)).1 = 2 ∧
            ∀ j < 4, slotOn s j = true → slotRail s j = slotRail s k → (f.slots.getD j (0, 0)).1 ≠ 3) →
          if s.eng.haltReq then (t.rail (slotRail s k)).st = (s.rail (slotRail s k)).st ∧ (t.rail (slotRail s k)).gangPend = some 2
          else (t.rail (slotRail s k)).st = .stopping ∧ (t.rail (slotRail s k)).stopMode = 2) ∧
        (f.stopAll = false → (f.slots.getD k (0, 0)).1 = 3 →
          (∀ j < 4, slotOn s j = true → slotRail s j = slotRail s k → (f.slots.getD j (0, 0)).1 ≠ 2) →
          if s.eng.haltReq then (t.rail (slotRail s k)).st = (s.rail (slotRail s k)).st ∧ (t.rail (slotRail s k)).gangPend = some 0
          else (t.rail (slotRail s k)).st = .stopping ∧ (t.rail (slotRail s k)).stopMode = 0)) ∧
  (∀ (f : GangFrame) (b : Nat) (s : State), gangFollows s = true → s.twin.phAdj.length = 48 → f.stopAll = false →
    (∀ k < 4, (f.slots.getD k (0, 0)).1 ≠ 2 ∧ (f.slots.getD k (0, 0)).1 ≠ 3) →
    ∃ t, exec (.gangFrameReceive f true b) s = .next t ∧ t.rails = s.rails ∧ t.phases = s.phases ∧
      ∀ (k p : Nat), k < 4 → slotOn s k = true → leadOf s (slotRail s k) = some p → counts s p = true → (s.ph p).gen.going = true →
        t.twin.phAdj.getD p 0 = wrapHalf (s.ph p).gen.act.per ((b : Int) - ((s.ph p).gen.org + (s.ph p).gen.curPer : Nat) -
          ((fld (s.reg 0x710D) 15 0 + 1600 * t.gang.n) % (s.ph p).gen.act.per : Nat))) ∧
  (∀ (f : GangFrame) (b : Nat) (s : State), gangFollows s = true →
    exec (.gangFrameReceive f false b) s = .next { s.begin with
      gang := { s.gang with crcErr := satInc 255 s.gang.crcErr, ok := 0 } }) ∧
  (∀ s : State, gangFollows s = true → s.gang.lost = true → s.gang.link = false → exec .gangTimeout s = .next s.begin) ∧
  (∀ s : State, gangFollows s = true → s.gang.lost = false ∨ s.gang.link = true → fld (s.reg 0x7108) 7 0 ≤ (s.gang.age - 2) / 4 →
    ∃ t, exec .gangTimeout s = .next t ∧ t.gang = { s.gang with link := false, lost := true, ok := 0 } ∧ t.Stands 0xA0 2 ∧
      ∀ k < 4, slotOn s k = true → (s.rail (slotRail s k)).st ∈ [RailState.ramp, .regulate, .drip, .limit, .brake] →
        (if s.eng.haltReq then (t.rail (slotRail s k)).st = (s.rail (slotRail s k)).st ∧ (t.rail (slotRail s k)).gangPend = some 2
         else (t.rail (slotRail s k)).st = .stopping))

/-- The operation served first is, of those queued whose sector is not protected (that the others wait is the model's choice, log
entry 117), one of the first level in R339's list, and within the level the one queued first. With the array free and no
power-fail save, NV_OPERATION_START takes it: an erase or a page program occupies the array with its sector or bytes; an
append whose record can be placed is programmed where it is placed, one operation with the SECT of a sector opened for it (log
entry 79), and one that cannot is dropped, counted, and NV_FULL stands. The array itself changes only at DONE (the model's
choice, log entry 79): a program clears bits and sets none, an append joins the index and NV_RSEQ names it, an erase leaves
its sector 0xFF, drops its records from the index whether it fails or not, counts its wear and changes no other byte; the
erase count of a sector that compaction erased is programmed next; a program that fails sets no bit either (to what values it
clears bits is free, log entries 79 and 81). A failed host operation ends with HRES 1 and NV_PROG_FAIL at the sector. A
TALLY_BIT_DONE brings the tally to the count its page shows; TALLY_INCREMENT queues one bit for each unit due. (R329, R336,
R339, R340, R341, R342, R348, R349, R350, R356) -/
def Obligations.FlashOperations : Prop :=
  (∀ (o : NvOp) (rest : List NvOp) (s : State), nvPick s = some (o, rest) →
    ∃ i, s.nv.queue[i]? = some o ∧ rest = s.nv.queue.eraseIdx i ∧ o.shut s = false ∧
      ∀ (j : Nat) (x : NvOp), s.nv.queue[j]? = some x → x.shut s = false → o.level < x.level ∨ (o.level = x.level ∧ i ≤ j)) ∧
  (∀ (n k : Nat) (l a : List Nat) (f : Bool) (b : Option (Nat × Nat)),
    ([NvOp.lstate l].map NvOp.level = [1] ∧ [NvOp.bases l a, .basesP l a, .lastFault f l a].map NvOp.level = [2, 2, 2]) ∧
    [NvOp.tallyBit n b, .tbase n, .topen n].map NvOp.level = [3, 3, 3] ∧
    [NvOp.prog n k l, .erase n, .append n k l].map NvOp.level = [4, 4, 4] ∧
    [NvOp.compCopy n, .compErase n].map NvOp.level = [5, 5]) ∧
  (∀ (n : Nat) (rest : List NvOp) (s : State), s.Works → s.nv.cur = none → s.nv.saved = false →
    nvPick s = some (.erase n, rest) →
    ∃ t, exec .nvOperationStart s = .next t ∧
      t = { s.begin with perf := t.perf
                         nv := { s.nv with queue := rest, cur := some ⟨.erase n, [], n, true, 0, 0, 0⟩ } }) ∧
  (∀ (n k : Nat) (data : List Nat) (rest : List NvOp) (s : State), s.Works → s.nv.cur = none → s.nv.saved = false →
    nvPick s = some (.prog n k data, rest) →
    ∃ t, exec .nvOperationStart s = .next t ∧
      t = { s.begin with perf := t.perf, nv := { s.nv with queue := rest, cur := t.nv.cur } } ∧
      ∃ c, t.nv.cur = some c ∧ c.op = .prog n k data ∧ c.bytes = bytesAt (n * 4096 + k * 256) data ∧ c.erase = false ∧
        c.sector = n + k / 16) ∧
  (∀ (id len : Nat) (body : List Nat) (rest : List NvOp) (s : State), s.Works → s.nv.cur = none → s.nv.saved = false →
    nvPick s = some (.append id len body, rest) →
    ∃ t, exec .nvOperationStart s = .next t ∧ t.nv.flash = s.nv.flash ∧ t.nv.queue = rest ∧
      match place s (recSize len) 0 false with
      | none => t.nv.cur = none ∧ t.nv.drop = satInc 4294967295 s.nv.drop ∧ t.nv.hbusy = false ∧ t.nv.hres = 4 ∧ t.Stands 0x92 0
      | some (a, open_) => ∃ c pre, t.nv.cur = some c ∧ c.op = .append id len body ∧ c.recAddr = a ∧
          c.bytes = pre ++ bytesAt a (recBytes id len 0 c.recSeq body) ∧
          (open_ = none → pre = [] ∧ c.recSeq = nextSeq s) ∧ (open_ ≠ none → c.recSeq = nextSeq s + 1)) ∧
  (∀ (c : NvCur) (n k : Nat) (data : List Nat) (s : State), s.Runs → s.StoresWf → s.nv.cur = some c → c.erase = false → c.op = .prog n k data →
    c.recSize = 0 →
    ∃ t u, exec (.pageProgramDone true) s = .next t ∧ exec (.pageProgramDone false) s = .next u ∧
      t.nv = { s.nv with flash := (progBytes c.bytes s).nv.flash, cur := none, hbusy := false, hres := 0 } ∧
      u.nv.cur = none ∧ u.nv.hbusy = false ∧ u.nv.hres = 1 ∧ u.Waits 0x90 0 c.sector ∧
      ∀ a, nvByte t a &&& nvByte s a = nvByte t a ∧ nvByte u a &&& nvByte s a = nvByte u a) ∧
  (∀ (c : NvCur) (id len : Nat) (body : List Nat) (s : State), s.Runs → s.StoresWf → s.nv.cur = some c → c.erase = false →
    c.op = .append id len body →
    ∃ t, exec (.pageProgramDone true) s = .next t ∧ t.nv.cur = none ∧ t.nv.hbusy = false ∧ t.nv.hres = 0 ∧
      ⟨c.recAddr, c.recSize, id, c.recSeq, true⟩ ∈ t.nv.recs ∧ t.reg 0x060D = BitVec.ofNat 32 c.recSeq ∧
      t.nv.flash = (progBytes c.bytes s).nv.flash) ∧
  (∀ (c : NvCur) (s : State), s.Runs → s.StoresWf → s.nv.cur = some c → c.erase = true →
    ∃ t u, exec (.sectorEraseDone true) s = .next t ∧ exec (.sectorEraseDone false) s = .next u ∧
      ((∃ n, c.op = .erase n) → t.nv.cur = none) ∧
      ((∀ n, c.op ≠ .erase n) →
        ∃ d, t.nv.cur = some d ∧ d.op = .sect c.sector (t.nv.wear.getD c.sector 0) ∧ d.erase = false) ∧
      u.nv.cur = none ∧ u.Waits 0x90 0 c.sector ∧ (∀ a, sectorOf a = c.sector → nvByte t a = 0xFF) ∧
      (∀ a, sectorOf a ≠ c.sector → nvByte t a = nvByte s a ∧ nvByte u a = nvByte s a) ∧
      t.nv.wear = s.nv.wear.set c.sector (s.nv.wear.getD c.sector 0 + 1) ∧
      t.nv.recs = s.nv.recs.filter (fun r => sectorOf r.addr != c.sector) ∧ u.nv.recs = t.nv.recs ∧
      (∀ n, c.op = .erase n → t.nv.hbusy = false ∧ t.nv.hres = 0 ∧ u.nv.hbusy = false ∧ u.nv.hres = 1)) ∧
  (∀ (c : NvCur) (n : Nat) (b : Option (Nat × Nat)) (s : State), s.Runs → s.nv.cur = some c → c.op = .tallyBit n b →
    n < s.nv.tally.length →
    ∃ t, exec (.tallyBitDone true) s = .next t ∧ t.nv.cur = none ∧ t.nv.flash = (progBytes c.bytes s).nv.flash ∧
      t.nv.tally.getD n 0 = tallyValue t n) ∧
  (∀ (n : Fin 8) (s : State), s.Runs → s.nv.tdue.getD n 0 ≠ 0 →
    exec (.tallyIncrement n) s = .next { s.begin with
      nv := { s.nv with queue := s.nv.queue ++ [.tallyBit n none], tdue := s.nv.tdue.set n (s.nv.tdue.getD n 0 - 1) } })

/-- A POWER_FAIL out of BOOT with the array free holds the queue, and the last-state record is programmed where it can be placed;
while a bases or last-fault record is being written that operation is kept instead, and NV_PWRFAIL carries 1. Any other
operation in progress is abandoned: of an erase only its sector's bytes change, and its records leave the index; of a program
bits are only cleared, within its bytes, and its last byte, the COMMIT of a record, is not reached (which of the bytes are
reached is free, log entry 81). NV_PWRFAIL is raised, 0 where the record is being saved and 1 where it is not, and no rail
moves; a record that can be placed nowhere is not saved, with NV_FULL standing (log entry 85). A POWER_FAIL_RECOVER after
PWRFAILn has been high for 1000 frames releases the queue; an abandoned host operation, erase, program or append, one whose
failed record was being voided too, ends with HRES 3, and an abandoned tally bit is programmed again first. (R355, R342, R344,
R345, R351, R358) -/
def Obligations.PowerFailure : Prop :=
  (∀ s : State, s.Works → s.nv.saved = false → s.nv.cur = none →
    ∃ t, exec .powerFail s = .next t ∧ t.nv.saved = true ∧ t.nv.flash = s.nv.flash ∧
      t.Waits 0x93 0 (if (place s 256 0 true).isSome then 0 else 1) ∧ t.rails = s.rails ∧
      t.phases = s.phases ∧ t.dev = s.dev ∧
      match place s 256 0 true with
      | none => t.nv.cur = none ∧ t.Stands 0x92 0
      | some (a, _) => ∃ c, t.nv.cur = some c ∧ c.op = .lstate (lstateBody s) ∧ c.recAddr = a ∧ c.recSize = 256) ∧
  (∀ (c : NvCur) (s : State), s.Works → s.nv.saved = false → s.nv.cur = some c →
    ((∃ r p, c.op = .bases r p ∨ c.op = .basesP r p) ∨ ∃ f a b, c.op = .lastFault f a b) →
    ∃ t, exec .powerFail s = .next t ∧ t.nv.saved = true ∧ t.nv.cur = some c ∧ t.nv.flash = s.nv.flash ∧ t.Waits 0x93 0 1 ∧
      t.rails = s.rails) ∧
  (∀ s : State, s.Runs → s.nv.saved = true → 1000 ≤ s.nv.pwrHigh →
    ∃ t, exec .powerFailRecover s = .next t ∧ t = { s.begin with nv := t.nv } ∧ t.nv.saved = false ∧
      t.nv.aband = none ∧ t.nv.flash = s.nv.flash ∧ t.nv.cur = s.nv.cur ∧
      (s.nv.aband = none → t.nv.queue = s.nv.queue) ∧
      (∀ o, s.nv.aband = some o →
        (∃ n, o = .erase n) ∨ (∃ n k d, o = .prog n k d) ∨ (∃ id len b, o = .append id len b) →
        t.nv.hbusy = false ∧ t.nv.hres = 3 ∧ t.nv.queue = s.nv.queue) ∧
      (∀ l id len b rest, s.nv.aband = some (.zero true l) → s.nv.queue = .append id len b :: rest →
        t.nv.hbusy = false ∧ t.nv.hres = 3 ∧ t.nv.queue = .zero false l :: rest) ∧
      (∀ n b, s.nv.aband = some (.tallyBit n b) → t.nv.queue = .tallyBit n b :: s.nv.queue)) ∧
  (∀ (c : NvCur) (s : State), s.Works → s.StoresWf → s.nv.saved = false → s.nv.cur = some c → nvExempt s = false →
    ∃ t, exec .powerFail s = .next t ∧ t.nv.saved = true ∧ t.nv.aband = some c.op ∧ t.rails = s.rails ∧ t.phases = s.phases ∧
      (t.nv.cur = none ∨ ∃ d, t.nv.cur = some d ∧ d.op = .lstate (lstateBody s.begin)) ∧
      (t.Waits 0x93 0 (if t.nv.cur = none then 1 else 0)) ∧
      (c.erase = true → (∀ a, sectorOf a ≠ c.sector → nvByte t a = nvByte s a) ∧
        t.nv.recs = s.nv.recs.filter (fun r => sectorOf r.addr != c.sector)) ∧
      (c.erase = false → (∀ a, nvByte t a &&& nvByte s a = nvByte t a) ∧
        ∀ a, a ∉ (if c.recSize = 1 then c.bytes else c.bytes.dropLast).map (·.1) → nvByte t a = nvByte s a))

/-- SPI_FRAME_BEGIN on an idle port opens a frame with its header, served where the port is served. SPI_WORD in the data phase of
a served frame with nothing rejected so far is one access of the port's host at the address R363 gives: a write is applied
when the checks accept it, and else rejected with its code, which the frame keeps; after a rejected word the later ones change
nothing but the word count and the bytes counted. SPI_FRAME_END closes the frame, keeps its code for the next one's status,
records a cut write as PARTIAL (R362 says so of any frame; that a read frame that ends inside a data word keeps the code of
that read, which was presented before it was shifted out, is the model's reading, log entry 88) and raises HOST_FRAME for a
cut byte. (R359, R360, R361, R363, R364, R365, R378) -/
def Obligations.SpiTraffic : Prop :=
  (∀ (k : Fin 2) (m : Bool) (hdr : List Byte) (s : State), s.dev.rst = false → s.ports.spi.length = 2 → (spiOf s k).sel = false →
    ∃ t, exec (.spiFrameBegin k m hdr) s = .next t ∧
      t = { s.begin with perf := t.perf, ports := { s.ports with spi := t.ports.spi } } ∧
      spiOf t k = { spiOf s k with sel := true, serve := served s, mode3 := m, hdr := hdr, done := 0, code := 0 } ∧
      ∀ j, j ≠ k.val → spiOf t j = spiOf s j) ∧
  (∀ (k : Fin 2) (w : Word) (s : State) (h : Fin 3) (a : Nat), s.Works → s.ports.spi.length = 2 → (spiOf s k).sel = true →
    (spiOf s k).serve = true → (spiOf s k).inData = true → (spiOf s k).code = 0 → (spiOf s k).rd = false →
    h = (if k = 0 then 0 else 1) → a = (spiOf s k).addr →
    ∃ t u, exec (.spiWord k w) s = .next t ∧
      u = (if writeCode s h a w = Err.OK then acceptWrite h a w (bytes k 4 (s.begin h)) else reject h a (writeCode s h a w) (bytes k 4 (s.begin h))) ∧
      (u.dev.rst = true → t = u) ∧
      (u.dev.rst = false → t = { u with ports := { u.ports with spi := t.ports.spi } } ∧
        spiOf t k = { spiOf u k with done := (spiOf s k).done + 1, code := writeCode s h a w })) ∧
  (∀ (k : Fin 2) (w : Word) (s : State), s.Works → s.ports.spi.length = 2 → (spiOf s k).sel = true →
    (spiOf s k).serve = true → (spiOf s k).inData = true → (spiOf s k).code ≠ 0 →
    ∃ t, exec (.spiWord k w) s = .next t ∧
      t = { s.begin with perf := t.perf, ports := { s.ports with spi := t.ports.spi } } ∧
      spiOf t k = { spiOf s k with done := (spiOf s k).done + 1 }) ∧
  (∀ (k : Fin 2) (n : Nat) (s : State) (cut : Bool), s.ports.spi.length = 2 → (spiOf s k).sel = true → s.Works →
    (spiOf s k).serve = true →
    cut = (!(spiOf s k).rd && (spiOf s k).inData && decide (0 < n) && (spiOf s k).code == 0) →
    ∃ t, exec (.spiFrameEnd k n) s = .next t ∧ (spiOf t k).sel = false ∧
      (spiOf t k).prev = (if cut then Err.PARTIAL
        else if (spiOf s k).rd && (spiOf s k).inData && decide (0 < n) && (spiOf s k).code == 0 then
          readCode s (if k = 0 then 0 else 1) (spiOf s k).addr
        else (spiOf s k).code) ∧
      (n % 8 ≠ 0 → t.Waits 0x82 0 (if k = 0 then 0 else 1024)) ∧ t.rails = s.rails ∧ t.phases = s.phases)

/-- HPC_POINTER_SET begins a transfer with the pointer it carries. HPC_REGISTER_WRITE in a writing transfer: without PEC it is one
write of HOSTC at the register the pointer names, after which an accepted write has moved the pointer on and a rejected one is
not acknowledged; with PEC a write the checks accept is held. HPC_PEC_BYTE rejects the held write with PEC and raises HOST_PEC
when the PEC does not match, in LOCKED too (log entry 90), and else applies it out of LOCKED. HPC_REGISTER_READ moves the
pointer on when the register has been transmitted whole, and the PEC byte the device then has to send is the CRC-8 over the
transfer's bytes. HPC_TRANSFER_END, and HPC_SCL_TIMEOUT where the time-out is enabled, end the transfer and keep the pointer;
with no pointer byte received yet an end inside that byte is a HOST_FRAME of HOSTC and nothing else (log entry 89). (R366,
R367, R368, R369, R370, R372) -/
def Obligations.TwoWireTraffic : Prop :=
  (∀ (b : Byte) (s : State), s.Works → s.StoresWf →
    ∃ t, exec (.hpcPointerSet b) s = .next t ∧ t.ports.hpc =
      { Hpc.init with ptr := b.toNat, busy := true, serve := true, bytes := [BitVec.ofNat 8 (2 * hpcAddr s), b]
                      before := if s.ports.hpc.busy && s.ports.hpc.serve then s.ports.hpc.before ++ s.ports.hpc.bytes else []
                      cfg := s.reg 0x0209 } ∧ t.rails = s.rails ∧ t.phases = s.phases) ∧
  (∀ (w : Word) (s : State), s.Works → s.ports.hpc.busy = true → s.ports.hpc.serve = true → s.ports.hpc.rd = false →
    s.ports.hpc.nacked = false → s.ports.hpc.pecDone = false → s.ports.hpc.held = none → s.ports.hpc.pec = false →
    ∃ t u, exec (.hpcRegisterWrite w) s = .next t ∧
      u = (if writeCode s 2 (hpcReg s) w = Err.OK then acceptWrite 2 (hpcReg s) w (bytes 2 4 (s.begin (some 2)))
           else reject 2 (hpcReg s) (writeCode s 2 (hpcReg s) w) (bytes 2 4 (s.begin (some 2)))) ∧
      (u.dev.rst = true → t = u) ∧
      (u.dev.rst = false → t = { u with ports := { u.ports with hpc := t.ports.hpc } } ∧
        t.ports.hpc = (if writeCode s 2 (hpcReg s) w = Err.OK then { u.ports.hpc with ptr := nextOff u.ports.hpc.ptr }
                       else { u.ports.hpc with nacked := true }))) ∧
  (∀ (w : Word) (s : State), s.Works → s.ports.hpc.busy = true → s.ports.hpc.serve = true → s.ports.hpc.rd = false →
    s.ports.hpc.nacked = false → s.ports.hpc.pecDone = false → s.ports.hpc.held = none → s.ports.hpc.pec = true →
    writeCode s 2 (hpcReg s) w = Err.OK →
    ∃ t, exec (.hpcRegisterWrite w) s = .next t ∧
      t = { s.begin (some 2) with perf := t.perf, ports := { s.ports with hpc := t.ports.hpc } } ∧
      t.ports.hpc.held = some w ∧ t.ports.hpc.ptr = s.ports.hpc.ptr) ∧
  (∀ (b : Byte) (w : Word) (s : State), s.Works → s.ports.hpc.busy = true → s.ports.hpc.serve = true →
    s.ports.hpc.rd = false → s.ports.hpc.nacked = false → s.ports.hpc.pecDone = false → s.ports.hpc.pec = true →
    s.ports.hpc.held = some w →
    ∃ t, exec (.hpcPecByte b) s = .next t ∧
      (crc8 s.ports.hpc.bytes ≠ b → t.Waits 0x81 0 2048 ∧ t.ports.hpc.held = none ∧ t.ports.hpc.ptr = s.ports.hpc.ptr ∧
        t.ports.err = s.ports.err.set 2 ⟨Err.PEC, satInc 255 (s.ports.err.getD 2 ⟨0, 0, 0⟩).cnt, hpcReg s⟩ ∧ t.rails = s.rails) ∧
      (crc8 s.ports.hpc.bytes = b → s.dev.st ≠ .locked → ∃ u, u = acceptWrite 2 (hpcReg s) w
          (setHpc { s.ports.hpc with held := none, pecDone := true } (bytes 2 1 (s.begin (some 2)))) ∧
        (u.dev.rst = true → t = u) ∧
        (u.dev.rst = false → t = { u with ports := { u.ports with hpc := { u.ports.hpc with ptr := nextOff u.ports.hpc.ptr } } }))) ∧
  (∀ (b q : Bool) (s : State), s.Works → s.ports.hpc.busy = true → s.ports.hpc.rd = true → s.ports.hpc.serve = true →
    s.ports.hpc.pecDone = false →
    ∃ t, exec (.hpcRegisterRead b q) s = .next t ∧
      (b = true → readCode s 2 (hpcReg s) = Err.OK → t.ports.hpc.pecDone = s.ports.hpc.pec ∧
        t.ports.hpc.pecOut = crc8 (s.ports.hpc.before ++ s.ports.hpc.bytes ++
          (wordBytesLE (readReg (s.begin (some 2)) 2 (hpcReg s))).map (BitVec.ofNat 8))) ∧
      t.ports.hpc.ptr = (if b then nextOff s.ports.hpc.ptr else s.ports.hpc.ptr) ∧ t.rails = s.rails ∧ t.phases = s.phases) ∧
  (∀ (n : Nat) (cut : Bool) (s : State), s.ports.hpc.busy = true →
    ∃ t, exec (.hpcTransferEnd n cut) s = .next t ∧ t.ports.hpc = { Hpc.init with ptr := s.ports.hpc.ptr } ∧
      (s.Works → s.ports.hpc.serve = true → cut = true → t.Waits 0x82 0 2048) ∧ t.rails = s.rails ∧ t.phases = s.phases) ∧
  (∀ (n : Nat) (s : State), s.ports.hpc.busy = true → bit s.ports.hpc.cfg 30 = true →
    ∃ t, exec (.hpcSclTimeout n) s = .next t ∧ t.ports.hpc = { Hpc.init with ptr := s.ports.hpc.ptr } ∧
      (s.Works → s.ports.hpc.serve = true → t.Waits 0x82 0 2048) ∧ t.rails = s.rails ∧ t.phases = s.phases) ∧
  (∀ (n : Nat) (c : Instr) (s : State), s.Works → s.ports.hpc.busy = false →
    c = .hpcTransferEnd n true ∨ (c = .hpcSclTimeout n ∧ bit (s.reg 0x0209) 30 = true) →
    ∃ t, exec c s = .next t ∧ t.Waits 0x82 0 2048 ∧
      t = { s.begin with perf := t.perf, fc := { s.fc with pend := t.fc.pend }
                         ports := { s.ports with frm := s.ports.frm.set 2 (satInc 255 (s.ports.frm.getD 2 0)) } }) ∧
  (∀ (n : Nat) (s : State), s.ports.hpc.busy = false → exec (.hpcTransferEnd n false) s = .next s.begin)

/-- The item started next is one that lost arbitration, then a pending host transaction of a device that is no standby, then, of
the enabled entries that are due, the one with the oldest due time and of these the lowest index. A line's level behind the
filter of FILT samples is the new one once the latest FILT samples show it (the latest one where FILT is 0), and shorter runs
do not change it. While the controller works: POLL_DUE after the period in force makes an enabled entry wait and puts the
entry's own period in force, counts it as late, once, when it still waits, and fails it on a stuck bus.
STAGE_BUS_TRANSFER_START on a free bus carries out a recovery that is due, and else starts the next item with the bytes the
controller sends for it, a low SDA asking for a recovery instead. POLL_COMPLETE of a good poll of an entry not written
meanwhile updates its mailbox; of one written meanwhile the result is discarded; a bad one counts, and SB_NACK is raised and
the mailbox is stale when the failures reach the limit. SB_ARBLOST, with SDA low behind the filter, puts the item first again,
but ends a host transaction of a standby with HRES 4 (R391 speaks of a replicated command; that one that lost arbitration ends
so too is the model's choice, log entry 167); where the poll's entry has fallen due once more meanwhile the two are one poll,
counted as late once. BUS_RECOVERY and, after 10,000 frames, STUCK_RECOVERY_RETRY end with SB_STUCK standing exactly for a
line that is still low. SB_HOST_TRANSACTION_DONE ends the transaction with its result. (R385, R386, R387, R388, R389, R390,
R392, R393) -/
def Obligations.StageBusRuns : Prop :=
  (∀ s : State,
    (∀ i, s.sb.again = some i → nextItem s = some i) ∧
    (s.sb.again = none → s.sb.hostPend = true → isStandby s = false → nextItem s = some .host) ∧
    (s.sb.again = none → s.sb.hostPend = false ∨ isStandby s = true →
      match nextItem s with
      | none => ∀ m < 64, (sbEnt s m).due = false ∨ bit (pollCfg s m) 31 = false
      | some .host => False
      | some (.poll n c) => c = pollCfg s n ∧ n < 64 ∧ (sbEnt s n).due = true ∧ bit (pollCfg s n) 31 = true ∧
        ∀ m < 64, (sbEnt s m).due = true → bit (pollCfg s m) 31 = true →
          (sbEnt s n).since < (sbEnt s m).since ∨ ((sbEnt s n).since = (sbEnt s m).since ∧ n ≤ m))) ∧
  (∀ (x y : Bool) (l : List Bool) (a b k : Nat) (s : State), max 1 (fld (s.reg 0x0808) 27 24) ≤ k →
    a < max 1 (fld (s.reg 0x0808) 27 24) → b < max 1 (fld (s.reg 0x0808) 27 24) →
    lineLevel s x (l ++ List.replicate k y) = y ∧ lineLevel s x [] = x ∧
    lineLevel s x (List.replicate a (!x) ++ x :: List.replicate b (!x)) = x) ∧
  (∀ (n : Fin 64) (s : State), sbWorks s = true → s.sb.ent.length = 64 → bit (s.reg (0x0840 + n.val)) 31 = true →
    (sbEnt s n).dueAt + 100 * (sbEnt s n).per ≤ s.dev.frame →
    ∃ t, exec (.pollDue n) s = .next t ∧ t = { s.msgs t with sb := t.sb } ∧ (sbEnt t n).dueAt = s.dev.frame ∧
      (sbEnt t n).per = fld (s.reg (0x0840 + n.val)) 7 0 ∧ (s.sb.stuck = false → t.sb.fail = s.sb.fail) ∧
      (s.sb.stuck = false → pollWaits s n = false →
        (sbEnt t n).due = true ∧ (sbEnt t n).since = s.dev.frame ∧ (sbEnt t n).lateSeen = false ∧ t.sb.late = s.sb.late) ∧
      (s.sb.stuck = false → pollWaits s n = true → (sbEnt t n).due = (sbEnt s n).due ∧ (sbEnt t n).since = (sbEnt s n).since ∧
        (sbEnt t n).lateSeen = true ∧ t.sb.late = (if (sbEnt s n).lateSeen then s.sb.late else satInc 65535 s.sb.late)) ∧
      (s.sb.stuck = true → t.sb.fail = satInc 65535 s.sb.fail ∧ (sbEnt t n).fails = (sbEnt s n).fails + 1) ∧
      ∀ m, m ≠ n.val → sbEnt t m = sbEnt s m) ∧
  (∀ (low : Bool) (l : List Bool) (i : SbItem) (s : State), sbWorks s = true → s.sb.cur = none → s.sb.recov = false → s.sb.stuck = false →
    s.sb.needRecov = false → nextItem s = some i →
    ∃ t, exec (.stageBusTransferStart low l) s = .next t ∧ t = { s.begin with sb := t.sb } ∧
      (lineLevel s (!low) l = false → t.sb = { s.sb with recov := true }) ∧
      (lineLevel s (!low) l = true → t.sb.cur = some i ∧ t.sb.again = none ∧ (i = .host → t.sb.hostPend = false ∧ t.sb.out = hostSends s) ∧
        ∀ n c, i = .poll n c → t.sb.out = readHead c ∧
          (n < s.sb.ent.length → s.sb.again = none → (sbEnt t n).due = false ∧ (sbEnt t n).touched = false))) ∧
  (∀ (low : Bool) (l : List Bool) (s : State), sbWorks s = true → s.sb.cur = none → s.sb.recov = false → s.sb.stuck = false →
    s.sb.needRecov = true →
    exec (.stageBusTransferStart low l) s = .next { s.begin with sb := { s.sb with needRecov := false, recov := true } }) ∧
  (∀ (n k : Nat) (cfg : Word) (ack : Bool) (data : List Byte) (pec : Byte) (s : State), sbWorks s = true →
    s.sb.cur = some (.poll n cfg) → ((sbEnt s n).touched = true ∨ pollCfg s n ≠ cfg) →
    ∃ t, exec (.pollComplete ack data pec k) s = .next t ∧
      t = { s.begin with perf := t.perf, sb := { s.sb with cur := none, out := [] } }) ∧
  (∀ (n k : Nat) (cfg : Word) (data : List Byte) (pec : Byte) (s : State), sbWorks s = true → s.sb.ent.length = 64 → n < 64 →
    s.sb.cur = some (.poll n cfg) → pollCfg s n = cfg → (sbEnt s n).touched = false → data.length = fld cfg 15 14 + 1 →
    (bit cfg 12 = false ∨ crc8 (readBytes cfg data) = pec) →
    ∃ t, exec (.pollComplete true data pec k) s = .next t ∧ t = { s.begin with perf := t.perf, sb := t.sb } ∧
      t.sb.cur = none ∧ sbEnt t n = { sbEnt s n with val := pollValue cfg data, valid := true, stale := false
                                                     lastOk := s.dev.frame, fails := 0, nackArmed := true } ∧
      ∀ m, m ≠ n → sbEnt t m = sbEnt s m) ∧
  (∀ (n k : Nat) (cfg : Word) (data : List Byte) (pec : Byte) (s : State), sbWorks s = true → s.sb.ent.length = 64 → n < 64 →
    s.sb.cur = some (.poll n cfg) → pollCfg s n = cfg → (sbEnt s n).touched = false →
    ∃ t, exec (.pollComplete false data pec k) s = .next t ∧ t.sb.cur = none ∧ t.sb.fail = satInc 65535 s.sb.fail ∧
      (sbEnt t n).fails = (sbEnt s n).fails + 1 ∧ (sbEnt t n).val = (sbEnt s n).val ∧
      ((sbEnt s n).nackArmed = true → fld (s.reg 0x0808) 23 16 ≤ (sbEnt s n).fails + 1 →
        t.Waits 0x85 0 n ∧ (sbEnt t n).stale = true ∧ (sbEnt t n).nackArmed = false)) ∧
  (∀ (k : Nat) (l : List Bool) (s : State), lineLevel s true l = true → exec (.sbArblost k l) s = .next s.begin) ∧
  (∀ (k : Nat) (l : List Bool) (s : State), sbWorks s = true → s.sb.cur = some .host → s.sb.hbusy = true → isStandby s = true →
    lineLevel s true l = false →
    ∃ t, exec (.sbArblost k l) s = .next t ∧ t.Waits 0x86 0 0x40 ∧ t.sb = { s.sb with
        cur := none, out := [], again := none, arbLost := satInc 65535 s.sb.arbLost, hbusy := false, hostPend := false, hres := 4 }) ∧
  (∀ (i : SbItem) (k : Nat) (l : List Bool) (s : State), sbWorks s = true → s.sb.cur = some i → isStandby s = false →
    lineLevel s true l = false →
    ∃ t, exec (.sbArblost k l) s = .next t ∧ t.sb = { s.sb with
        cur := none, out := [], again := some i, arbLost := satInc 65535 s.sb.arbLost, ent := t.sb.ent, late := t.sb.late } ∧
      (i = .host → t.sb.ent = s.sb.ent ∧ t.sb.late = s.sb.late) ∧
      (∀ n c, i = .poll n c → (∀ m, m ≠ n → sbEnt t m = sbEnt s m) ∧
        t.sb.late = (if (sbEnt s n).due && !((sbEnt s n).curLate || (sbEnt s n).lateSeen) then satInc 65535 s.sb.late else s.sb.late) ∧
        (n < s.sb.ent.length → sbEnt t n = { sbEnt s n with
          due := false, lateSeen := (sbEnt s n).curLate || (sbEnt s n).lateSeen || (sbEnt s n).due })) ∧
      t.Waits 0x86 0 (match i with | .poll n _ => n | .host => 0x40)) ∧
  (∀ (da cl sda scl : Bool) (x y : List Bool) (c : Instr) (s : State), sda = lineLevel s da x → scl = lineLevel s cl y →
    (c = .busRecovery da cl x y ∧ (s.sb.recov = true ∨ s.sb.needRecov = true)) ∨
      (c = .stuckRecoveryRetry da cl x y ∧ s.sb.stuck = true ∧ s.sb.lastTry + 10000 ≤ s.dev.frame) → sbWorks s = true →
    ∃ t, exec c s = .next t ∧ t.sb.recov = false ∧ t.sb.needRecov = false ∧ t.sb.stuck = !(sda && scl) ∧
      t.sb.lastTry = s.dev.frame ∧ (sda = false → t.Stands 0x84 0) ∧ (scl = false → t.Stands 0x84 1) ∧
      (sda = true → scl = true → ¬ t.Stands 0x84 0 ∧ ¬ t.Stands 0x84 1)) ∧
  (∀ (ack : Bool) (data : List Byte) (pec : Byte) (k : Nat) (s : State), sbWorks s = true → s.StoresWf → s.sb.cur = some .host →
    ∃ t, exec (.sbHostTransactionDone ack data pec k) s = .next t ∧ t.sb.cur = none ∧ t.sb.hbusy = false ∧
      (ack = false → t.sb.hres = 1) ∧
      (ack = true → bit (s.reg 0x080B) 31 = false → t.sb.hres = 0) ∧
      (ack = true → bit (s.reg 0x080B) 31 = true →
        t.reg 0x080C = BitVec.ofNat 32 (le ((data.take (fld (s.reg 0x080B) 15 13)).map (·.toNat)))))

/-- A PERF_WRAP of a counter that has wrapped sets its bit of PERF_OVF and bit 0 of the page's PG_EVT and changes no counter. A
BANDWIDTH_WINDOW_END at the window's end publishes the bytes counted (saturated at 32 bits), starts counting from 0, advances
the window number, loads the window's length and sets bit 1 of PG_EVT. Where no wrap is open, or the window has not ended,
nothing happens. A running counter of the messages that wait in the collector (event 0x41) adds at a FRAME_TICK one for each
CKB cycle of the frame that has not yet passed (of 100; in which cycle each command of the frame falls is the model's free
number, log entry 72) where more of them wait than its THR, and nothing where no more do. (R398, R401, R404, R405, R427) -/
def Obligations.CounterWraps : Prop :=
  (∀ (n : Fin 32) (s : State), s.Runs → s.StoresWf → s.begin.perf.wrapped.getD n false = true →
    ∃ t, exec (.perfWrap n) s = .next t ∧ t = { s.begin with bank := t.bank
                                                             perf := { s.begin.perf with wrapped := s.begin.perf.wrapped.set n false } } ∧
      SameRegs [0x050A, 0x0503] s t ∧ t.reg 0x050A = (s.reg 0x050A ||| BitVec.ofNat 32 (2 ^ n.val)) ∧
      t.reg 0x0503 = (s.reg 0x0503 ||| 1)) ∧
  (∀ s : State, s.Runs → s.StoresWf → s.perf.bwLeft = 0 →
    ∃ t, exec .bandwidthWindowEnd s = .next t ∧ SameRegs [0x0503] s t ∧ t.reg 0x0503 = (s.reg 0x0503 ||| 2) ∧
      t = { s.begin with bank := t.bank
                         perf := { s.begin.perf with bw := s.perf.bwAcc.map (min 4294967295), bwAcc := List.replicate 6 0
                                                     bwSeq := (s.perf.bwSeq + 1) % 65536, bwLeft := fld (s.reg 0x050C) 15 0 } }) ∧
  (∀ (n : Fin 32) (s : State), s.begin.perf.wrapped.getD n false = false → exec (.perfWrap n) s = .next s.begin) ∧
  (∀ s : State, s.perf.bwLeft ≠ 0 → exec .bandwidthWindowEnd s = .next s.begin) ∧
  (∀ (a : List (BitVec 14)) (m : List Bool) (q : Pal) (x : List Pal) (b : Bool) (w : List Nat) (n : Fin 32) (s : State), s.Works →
    s.dev.pllUp = true → s.dev.fresh = false → n.val < s.perf.ctr.length → bit (s.reg 0x0508) n = true →
    bit (s.reg (0x0540 + n.val)) 31 = false → fld (s.reg (0x0540 + n.val)) 30 24 = 0x41 →
    ∃ t, exec (.frameTick a m q x b w) s = .next t ∧
      (s.perf.skip.testBit n = false → fld (s.reg (0x0540 + n.val)) 15 0 < s.fc.pend.length →
        t.perf.ctr.getD n 0 = (s.perf.ctr.getD n 0 + (100 - s.perf.at_)) % 4294967296) ∧
      (s.fc.pend.length ≤ fld (s.reg (0x0540 + n.val)) 15 0 →
        t.perf.ctr.getD n 0 = s.perf.ctr.getD n 0))

/-- RESET_RELEASE of an asserted reset with TESTEN low begins BOOT. Where the PLL kept running or locks it goes on past step 1, a
first CKF edge still to come exactly where it had kept running; where it does not lock the device stays in step 1 with ALIVE
low and no derived clock, until PLL_RELOCK takes it on in the same way (that the lock found is an operand of the release, and
the later lock is PLL_RELOCK, is the model's choice, log entry 12). After a power-on reset the straps are taken at its
release, whether the PLL locks or not, after any other kept (log entry 156). A failed trim check makes SENSE_TRIM stand, a
failed collector check sets SELF, a failed flash check makes NV_BOOT_FAIL stand at 3. BOOT_END ends in IDLE, SAFE or LOCKED:
in LOCKED where BOOT must end so, in IDLE only with no class 4 action in force, BOOTTIME takes the ticks, and PWRFAILn low at
its end counts as a fall. BOUNDARY_SCAN moves nothing but the test port: IDCODE is selected on TRST, with TESTEN low BYPASS
runs in place of EXTEST, CLAMP and HIGHZ, and in place of every instruction the port does not accept in any case; that TRST
selects IDCODE, that BYPASS captures one 0 and that the captured bits leave first is taken from IEEE 1149.1 (PRESUMED, log
entry 16); a scan of as many bits shifts out first the word IDCODE (version 1, part 0x4816, bit 0 one) or BYPASS's zero, and
only SAMPLE and EXTEST move the boundary register. (R411, R413, R416, R419, R452) -/
def Obligations.BootRunsToItsState : Prop :=
  (∀ (x : Straps) (a b c l : Bool) (s : State), s.dev.rst = true → s.dev.testen = false → s.dev.clkStop = false → s.dev.st = .boot →
    s.dev.pllUp = true ∨ l = true →
    ∃ t, exec (.resetRelease x a b c l) s = .next t ∧ t.dev.rst = false ∧ t.dev.st = .boot ∧ t.dev.pllUp = true ∧ t.dev.fresh = s.dev.pllUp ∧
      t.dev.alive = .low ∧ (s.dev.cause = 0 → (⟨t.dev.clksel, t.dev.role, t.dev.ownsel, t.dev.addr0, t.dev.addr1⟩ : Straps) = x) ∧
      (s.dev.cause ≠ 0 → t.dev.role = s.dev.role ∧ t.dev.clksel = s.dev.clksel ∧ t.dev.ownsel = s.dev.ownsel) ∧
      (a = false → t.Stands 0x79 0) ∧ (b = false → t.fc.self = true) ∧ (c = false → t.Stands 0x95 3) ∧ t.nv.flash = s.nv.flash) ∧
  (∀ (x : Straps) (a b c : Bool) (s : State), s.dev.rst = true → s.dev.testen = false → s.dev.pllUp = false →
    exec (.resetRelease x a b c false) s = .next { s.begin with
      dev := { (if s.dev.cause = 0 then { s.dev with clksel := x.clksel, role := x.role, ownsel := x.ownsel, addr0 := x.addr0, addr1 := x.addr1 }
               else s.dev) with rst := false, alive := .low, clkStop := true, step1 := some ⟨a, b, c⟩ } }) ∧
  (∀ (x : BootFinds) (s : State), s.dev.rst = false → s.dev.clkStop = true → s.dev.pllUp = false → s.dev.st = .boot → s.dev.step1 = some x →
    ∃ t, exec .pllRelock s = .next t ∧ t.dev.pllUp = true ∧ t.dev.clkStop = false ∧ t.dev.fresh = false ∧ t.dev.step1 = none ∧ t.dev.st = .boot ∧
      t.dev.alive = s.dev.alive ∧
      (⟨t.dev.clksel, t.dev.role, t.dev.ownsel, t.dev.addr0, t.dev.addr1⟩ : Straps) =
        ⟨s.dev.clksel, s.dev.role, s.dev.ownsel, s.dev.addr0, s.dev.addr1⟩ ∧
      (x.trimOk = false → t.Stands 0x79 0) ∧ (x.collectorOk = false → t.fc.self = true) ∧ (x.flashOk = false → t.Stands 0x95 3)) ∧
  (∀ (n : Nat) (b : Bool) (s : State), s.Runs → s.dev.st = .boot → s.dev.pllUp = true →
    ∃ t, exec (.bootEnd n b) s = .next t ∧ (b = true → t.nv.saved = true) ∧ (t.dev.st = .idle ∨ t.dev.st = .safe ∨ t.dev.st = .locked) ∧
      (s.dev.lockAtEnd = true → t.dev.st = .locked) ∧ (t.dev.st = .idle → t.fc.safe = false) ∧ t.dev.bootTime = n % 4294967296) ∧
  (fld idcode 31 28 = 1 ∧ fld idcode 27 12 = 0x4816 ∧ bit idcode 0 = true) ∧
  (∀ s : State, exec (.boundaryScan .trst) s = .next { s.begin with dev := { s.dev with tap := .idcode } }) ∧
  (∀ (j : TapInstr) (s : State), exec (.boundaryScan (.load j)) s = .next { s.begin with
      dev := { s.dev with tap := if (s.dev.testen = false ∧ (j = .extest ∨ j = .clamp ∨ j = .highz)) ∨ j = .other then .bypass else j } }) ∧
  (∀ (l : List Bool) (s : State), ∃ t, exec (.boundaryScan (.scan l)) s = .next t ∧
    t = { s.begin with dev := { s.dev with tdo := t.dev.tdo, cells := t.dev.cells } } ∧ t.dev.tdo.length = l.length ∧
    (s.dev.tap ≠ .sample → s.dev.tap ≠ .extest → t.dev.cells = s.dev.cells) ∧
    (s.dev.tap = .bypass → t.dev.tdo = (false :: l).take l.length) ∧
    (s.dev.tap = .idcode → t.dev.tdo = ((List.range 32).map (bit idcode) ++ l).take l.length))
end

