-- ==== Sys2Proof/Laws/State.lean ====
section
/-! SUPPORT. Laws/State.lean: what the updates of Machine/Ops.lean do to each field of the state, and how the accessors of
registers, phases, rails and domains see them. No later proof unfolds a record update. -/

-- One declaration at a time: the package as one text would else hold too many threads at once.
set_option Elab.async false

namespace Sys2Proof.Machine

/-! ### Each field after each update -/

section
variable (s : State) (p : Nat) (f : Phase → Phase)
@[simp] theorem modPh_pending : (s.modPh p f).pending = s.pending := rfl
@[simp] theorem modPh_cyc : (s.modPh p f).cyc = s.cyc := rfl
@[simp] theorem modPh_clk : (s.modPh p f).clk = s.clk := rfl
@[simp] theorem modPh_bank : (s.modPh p f).bank = s.bank := rfl
@[simp] theorem modPh_dev : (s.modPh p f).dev = s.dev := rfl
@[simp] theorem modPh_fc : (s.modPh p f).fc = s.fc := rfl
@[simp] theorem modPh_ports : (s.modPh p f).ports = s.ports := rfl
@[simp] theorem modPh_phases : (s.modPh p f).phases = s.phases.setIfInBounds p (f (s.ph p)) := rfl
@[simp] theorem modPh_rails : (s.modPh p f).rails = s.rails := rfl
@[simp] theorem modPh_doms : (s.modPh p f).doms = s.doms := rfl
@[simp] theorem modPh_eng : (s.modPh p f).eng = s.eng := rfl
@[simp] theorem modPh_tripLatch : (s.modPh p f).tripLatch = s.tripLatch := rfl
@[simp] theorem modPh_tripRaw : (s.modPh p f).tripRaw = s.tripRaw := rfl
@[simp] theorem modPh_tripCnt : (s.modPh p f).tripCnt = s.tripCnt := rfl
@[simp] theorem modPh_aux : (s.modPh p f).aux = s.aux := rfl
@[simp] theorem modPh_spa : (s.modPh p f).spa = s.spa := rfl
@[simp] theorem modPh_spp : (s.modPh p f).spp = s.spp := rfl
@[simp] theorem modPh_grid : (s.modPh p f).grid = s.grid := rfl
@[simp] theorem modPh_capt : (s.modPh p f).capt = s.capt := rfl
@[simp] theorem modPh_cup : (s.modPh p f).cup = s.cup := rfl
@[simp] theorem modPh_sb : (s.modPh p f).sb = s.sb := rfl
@[simp] theorem modPh_perf : (s.modPh p f).perf = s.perf := rfl
@[simp] theorem modPh_nv : (s.modPh p f).nv = s.nv := rfl
@[simp] theorem modPh_twin : (s.modPh p f).twin = s.twin := rfl
@[simp] theorem modPh_gang : (s.modPh p f).gang = s.gang := rfl
end

section
variable (s : State) (p : Nat) (f : Gen → Gen)
@[simp] theorem modGen_pending : (s.modGen p f).pending = s.pending := rfl
@[simp] theorem modGen_cyc : (s.modGen p f).cyc = s.cyc := rfl
@[simp] theorem modGen_clk : (s.modGen p f).clk = s.clk := rfl
@[simp] theorem modGen_bank : (s.modGen p f).bank = s.bank := rfl
@[simp] theorem modGen_dev : (s.modGen p f).dev = s.dev := rfl
@[simp] theorem modGen_fc : (s.modGen p f).fc = s.fc := rfl
@[simp] theorem modGen_ports : (s.modGen p f).ports = s.ports := rfl
@[simp] theorem modGen_phases : (s.modGen p f).phases = s.phases.setIfInBounds p { s.ph p with gen := f (s.ph p).gen } := rfl
@[simp] theorem modGen_rails : (s.modGen p f).rails = s.rails := rfl
@[simp] theorem modGen_doms : (s.modGen p f).doms = s.doms := rfl
@[simp] theorem modGen_eng : (s.modGen p f).eng = s.eng := rfl
@[simp] theorem modGen_tripLatch : (s.modGen p f).tripLatch = s.tripLatch := rfl
@[simp] theorem modGen_tripRaw : (s.modGen p f).tripRaw = s.tripRaw := rfl
@[simp] theorem modGen_tripCnt : (s.modGen p f).tripCnt = s.tripCnt := rfl
@[simp] theorem modGen_aux : (s.modGen p f).aux = s.aux := rfl
@[simp] theorem modGen_spa : (s.modGen p f).spa = s.spa := rfl
@[simp] theorem modGen_spp : (s.modGen p f).spp = s.spp := rfl
@[simp] theorem modGen_grid : (s.modGen p f).grid = s.grid := rfl
@[simp] theorem modGen_capt : (s.modGen p f).capt = s.capt := rfl
@[simp] theorem modGen_cup : (s.modGen p f).cup = s.cup := rfl
@[simp] theorem modGen_sb : (s.modGen p f).sb = s.sb := rfl
@[simp] theorem modGen_perf : (s.modGen p f).perf = s.perf := rfl
@[simp] theorem modGen_nv : (s.modGen p f).nv = s.nv := rfl
@[simp] theorem modGen_twin : (s.modGen p f).twin = s.twin := rfl
@[simp] theorem modGen_gang : (s.modGen p f).gang = s.gang := rfl
end

section
variable (s : State) (r : Nat) (f : Rail → Rail)
@[simp] theorem modRail_pending : (s.modRail r f).pending = s.pending := rfl
@[simp] theorem modRail_cyc : (s.modRail r f).cyc = s.cyc := rfl
@[simp] theorem modRail_clk : (s.modRail r f).clk = s.clk := rfl
@[simp] theorem modRail_bank : (s.modRail r f).bank = s.bank := rfl
@[simp] theorem modRail_dev : (s.modRail r f).dev = s.dev := rfl
@[simp] theorem modRail_fc : (s.modRail r f).fc = s.fc := rfl
@[simp] theorem modRail_ports : (s.modRail r f).ports = s.ports := rfl
@[simp] theorem modRail_phases : (s.modRail r f).phases = s.phases := rfl
@[simp] theorem modRail_rails : (s.modRail r f).rails = s.rails.setIfInBounds r (f (s.rail r)) := rfl
@[simp] theorem modRail_doms : (s.modRail r f).doms = s.doms := rfl
@[simp] theorem modRail_eng : (s.modRail r f).eng = s.eng := rfl
@[simp] theorem modRail_tripLatch : (s.modRail r f).tripLatch = s.tripLatch := rfl
@[simp] theorem modRail_tripRaw : (s.modRail r f).tripRaw = s.tripRaw := rfl
@[simp] theorem modRail_tripCnt : (s.modRail r f).tripCnt = s.tripCnt := rfl
@[simp] theorem modRail_aux : (s.modRail r f).aux = s.aux := rfl
@[simp] theorem modRail_spa : (s.modRail r f).spa = s.spa := rfl
@[simp] theorem modRail_spp : (s.modRail r f).spp = s.spp := rfl
@[simp] theorem modRail_grid : (s.modRail r f).grid = s.grid := rfl
@[simp] theorem modRail_capt : (s.modRail r f).capt = s.capt := rfl
@[simp] theorem modRail_cup : (s.modRail r f).cup = s.cup := rfl
@[simp] theorem modRail_sb : (s.modRail r f).sb = s.sb := rfl
@[simp] theorem modRail_perf : (s.modRail r f).perf = s.perf := rfl
@[simp] theorem modRail_nv : (s.modRail r f).nv = s.nv := rfl
@[simp] theorem modRail_twin : (s.modRail r f).twin = s.twin := rfl
@[simp] theorem modRail_gang : (s.modRail r f).gang = s.gang := rfl
end

section
variable (s : State) (k : Nat) (f : Dom → Dom)
@[simp] theorem modDom_pending : (s.modDom k f).pending = s.pending := rfl
@[simp] theorem modDom_cyc : (s.modDom k f).cyc = s.cyc := rfl
@[simp] theorem modDom_clk : (s.modDom k f).clk = s.clk := rfl
@[simp] theorem modDom_bank : (s.modDom k f).bank = s.bank := rfl
@[simp] theorem modDom_dev : (s.modDom k f).dev = s.dev := rfl
@[simp] theorem modDom_fc : (s.modDom k f).fc = s.fc := rfl
@[simp] theorem modDom_ports : (s.modDom k f).ports = s.ports := rfl
@[simp] theorem modDom_phases : (s.modDom k f).phases = s.phases := rfl
@[simp] theorem modDom_rails : (s.modDom k f).rails = s.rails := rfl
@[simp] theorem modDom_doms : (s.modDom k f).doms = s.doms.setIfInBounds k (f (s.dom k)) := rfl
@[simp] theorem modDom_eng : (s.modDom k f).eng = s.eng := rfl
@[simp] theorem modDom_tripLatch : (s.modDom k f).tripLatch = s.tripLatch := rfl
@[simp] theorem modDom_tripRaw : (s.modDom k f).tripRaw = s.tripRaw := rfl
@[simp] theorem modDom_tripCnt : (s.modDom k f).tripCnt = s.tripCnt := rfl
@[simp] theorem modDom_aux : (s.modDom k f).aux = s.aux := rfl
@[simp] theorem modDom_spa : (s.modDom k f).spa = s.spa := rfl
@[simp] theorem modDom_spp : (s.modDom k f).spp = s.spp := rfl
@[simp] theorem modDom_grid : (s.modDom k f).grid = s.grid := rfl
@[simp] theorem modDom_capt : (s.modDom k f).capt = s.capt := rfl
@[simp] theorem modDom_cup : (s.modDom k f).cup = s.cup := rfl
@[simp] theorem modDom_sb : (s.modDom k f).sb = s.sb := rfl
@[simp] theorem modDom_perf : (s.modDom k f).perf = s.perf := rfl
@[simp] theorem modDom_nv : (s.modDom k f).nv = s.nv := rfl
@[simp] theorem modDom_twin : (s.modDom k f).twin = s.twin := rfl
@[simp] theorem modDom_gang : (s.modDom k f).gang = s.gang := rfl
end

section
variable (s : State) (f : Perf → Perf)
@[simp] theorem modPerf_pending : (s.modPerf f).pending = s.pending := rfl
@[simp] theorem modPerf_cyc : (s.modPerf f).cyc = s.cyc := rfl
@[simp] theorem modPerf_clk : (s.modPerf f).clk = s.clk := rfl
@[simp] theorem modPerf_bank : (s.modPerf f).bank = s.bank := rfl
@[simp] theorem modPerf_dev : (s.modPerf f).dev = s.dev := rfl
@[simp] theorem modPerf_fc : (s.modPerf f).fc = s.fc := rfl
@[simp] theorem modPerf_ports : (s.modPerf f).ports = s.ports := rfl
@[simp] theorem modPerf_phases : (s.modPerf f).phases = s.phases := rfl
@[simp] theorem modPerf_rails : (s.modPerf f).rails = s.rails := rfl
@[simp] theorem modPerf_doms : (s.modPerf f).doms = s.doms := rfl
@[simp] theorem modPerf_eng : (s.modPerf f).eng = s.eng := rfl
@[simp] theorem modPerf_tripLatch : (s.modPerf f).tripLatch = s.tripLatch := rfl
@[simp] theorem modPerf_tripRaw : (s.modPerf f).tripRaw = s.tripRaw := rfl
@[simp] theorem modPerf_tripCnt : (s.modPerf f).tripCnt = s.tripCnt := rfl
@[simp] theorem modPerf_aux : (s.modPerf f).aux = s.aux := rfl
@[simp] theorem modPerf_spa : (s.modPerf f).spa = s.spa := rfl
@[simp] theorem modPerf_spp : (s.modPerf f).spp = s.spp := rfl
@[simp] theorem modPerf_grid : (s.modPerf f).grid = s.grid := rfl
@[simp] theorem modPerf_capt : (s.modPerf f).capt = s.capt := rfl
@[simp] theorem modPerf_cup : (s.modPerf f).cup = s.cup := rfl
@[simp] theorem modPerf_sb : (s.modPerf f).sb = s.sb := rfl
@[simp] theorem modPerf_perf : (s.modPerf f).perf = f s.perf := rfl
@[simp] theorem modPerf_nv : (s.modPerf f).nv = s.nv := rfl
@[simp] theorem modPerf_twin : (s.modPerf f).twin = s.twin := rfl
@[simp] theorem modPerf_gang : (s.modPerf f).gang = s.gang := rfl
end

section
variable (s : State) (k : Nat) (v : Word)
@[simp] theorem setReg_pending : (s.setReg k v).pending = s.pending := rfl
@[simp] theorem setReg_cyc : (s.setReg k v).cyc = s.cyc := rfl
@[simp] theorem setReg_clk : (s.setReg k v).clk = s.clk := rfl
@[simp] theorem setReg_bank : (s.setReg k v).bank = sset defaultWord s.bank k v := rfl
@[simp] theorem setReg_dev : (s.setReg k v).dev = s.dev := rfl
@[simp] theorem setReg_fc : (s.setReg k v).fc = s.fc := rfl
@[simp] theorem setReg_ports : (s.setReg k v).ports = s.ports := rfl
@[simp] theorem setReg_phases : (s.setReg k v).phases = s.phases := rfl
@[simp] theorem setReg_rails : (s.setReg k v).rails = s.rails := rfl
@[simp] theorem setReg_doms : (s.setReg k v).doms = s.doms := rfl
@[simp] theorem setReg_eng : (s.setReg k v).eng = s.eng := rfl
@[simp] theorem setReg_tripLatch : (s.setReg k v).tripLatch = s.tripLatch := rfl
@[simp] theorem setReg_tripRaw : (s.setReg k v).tripRaw = s.tripRaw := rfl
@[simp] theorem setReg_tripCnt : (s.setReg k v).tripCnt = s.tripCnt := rfl
@[simp] theorem setReg_aux : (s.setReg k v).aux = s.aux := rfl
@[simp] theorem setReg_spa : (s.setReg k v).spa = s.spa := rfl
@[simp] theorem setReg_spp : (s.setReg k v).spp = s.spp := rfl
@[simp] theorem setReg_grid : (s.setReg k v).grid = s.grid := rfl
@[simp] theorem setReg_capt : (s.setReg k v).capt = s.capt := rfl
@[simp] theorem setReg_cup : (s.setReg k v).cup = s.cup := rfl
@[simp] theorem setReg_sb : (s.setReg k v).sb = s.sb := rfl
@[simp] theorem setReg_perf : (s.setReg k v).perf = s.perf := rfl
@[simp] theorem setReg_nv : (s.setReg k v).nv = s.nv := rfl
@[simp] theorem setReg_twin : (s.setReg k v).twin = s.twin := rfl
@[simp] theorem setReg_gang : (s.setReg k v).gang = s.gang := rfl
end

section
variable (s : State) (c : Nat) (bs : List Block)
@[simp] theorem setCtx_pending : (s.setCtx c bs).pending = s.pending := rfl
@[simp] theorem setCtx_cyc : (s.setCtx c bs).cyc = s.cyc := rfl
@[simp] theorem setCtx_clk : (s.setCtx c bs).clk = s.clk := rfl
@[simp] theorem setCtx_bank : (s.setCtx c bs).bank = s.bank := rfl
@[simp] theorem setCtx_dev : (s.setCtx c bs).dev = s.dev := rfl
@[simp] theorem setCtx_fc : (s.setCtx c bs).fc = s.fc := rfl
@[simp] theorem setCtx_ports : (s.setCtx c bs).ports = s.ports := rfl
@[simp] theorem setCtx_phases : (s.setCtx c bs).phases = s.phases := rfl
@[simp] theorem setCtx_rails : (s.setCtx c bs).rails = s.rails := rfl
@[simp] theorem setCtx_doms : (s.setCtx c bs).doms = s.doms := rfl
@[simp] theorem setCtx_tripLatch : (s.setCtx c bs).tripLatch = s.tripLatch := rfl
@[simp] theorem setCtx_tripRaw : (s.setCtx c bs).tripRaw = s.tripRaw := rfl
@[simp] theorem setCtx_tripCnt : (s.setCtx c bs).tripCnt = s.tripCnt := rfl
@[simp] theorem setCtx_aux : (s.setCtx c bs).aux = s.aux := rfl
@[simp] theorem setCtx_spa : (s.setCtx c bs).spa = s.spa := rfl
@[simp] theorem setCtx_spp : (s.setCtx c bs).spp = s.spp := rfl
@[simp] theorem setCtx_grid : (s.setCtx c bs).grid = s.grid := rfl
@[simp] theorem setCtx_capt : (s.setCtx c bs).capt = s.capt := rfl
@[simp] theorem setCtx_cup : (s.setCtx c bs).cup = s.cup := rfl
@[simp] theorem setCtx_sb : (s.setCtx c bs).sb = s.sb := rfl
@[simp] theorem setCtx_perf : (s.setCtx c bs).perf = s.perf := rfl
@[simp] theorem setCtx_nv : (s.setCtx c bs).nv = s.nv := rfl
@[simp] theorem setCtx_twin : (s.setCtx c bs).twin = s.twin := rfl
@[simp] theorem setCtx_gang : (s.setCtx c bs).gang = s.gang := rfl
end

section
variable (s : State) (c : Option (Fin 3)) (d : Option Nat) (m : Bool)
@[simp] theorem begin_pending : (s.begin c d m).pending = s.pending := rfl
@[simp] theorem begin_cyc : (s.begin c d m).cyc = s.cyc + 1 := rfl
@[simp] theorem begin_clk : (s.begin c d m).clk = s.clk + s.gap c d m := rfl
@[simp] theorem begin_bank : (s.begin c d m).bank = s.bank := rfl
@[simp] theorem begin_dev : (s.begin c d m).dev = s.dev := rfl
@[simp] theorem begin_fc : (s.begin c d m).fc = s.fc := rfl
@[simp] theorem begin_ports : (s.begin c d m).ports = s.ports := rfl
@[simp] theorem begin_phases : (s.begin c d m).phases = s.phases := rfl
@[simp] theorem begin_rails : (s.begin c d m).rails = s.rails := rfl
@[simp] theorem begin_doms : (s.begin c d m).doms = s.doms := rfl
@[simp] theorem begin_eng : (s.begin c d m).eng = s.eng := rfl
@[simp] theorem begin_tripLatch : (s.begin c d m).tripLatch = s.tripLatch := rfl
@[simp] theorem begin_tripRaw : (s.begin c d m).tripRaw = s.tripRaw := rfl
@[simp] theorem begin_tripCnt : (s.begin c d m).tripCnt = s.tripCnt := rfl
@[simp] theorem begin_aux : (s.begin c d m).aux = s.aux := rfl
@[simp] theorem begin_spa : (s.begin c d m).spa = s.spa := rfl
@[simp] theorem begin_spp : (s.begin c d m).spp = s.spp := rfl
@[simp] theorem begin_grid : (s.begin c d m).grid = s.grid := rfl
@[simp] theorem begin_capt : (s.begin c d m).capt = s.capt := rfl
@[simp] theorem begin_cup : (s.begin c d m).cup = s.cup := rfl
@[simp] theorem begin_sb : (s.begin c d m).sb = s.sb := rfl
@[simp] theorem begin_perf : (s.begin c d m).perf =
    { s.passed c (s.gap c d m) with acc := c.isSome && served s, head := c.isSome && served s } := rfl
@[simp] theorem begin_nv : (s.begin c d m).nv = s.nv := rfl
@[simp] theorem begin_twin : (s.begin c d m).twin = s.twin := rfl
@[simp] theorem begin_gang : (s.begin c d m).gang = s.gang := rfl
end

section
variable (s : State) (c : Option (Fin 3)) (n : Nat)
@[simp] theorem pass_pending : (s.pass c n).pending = s.pending := rfl
@[simp] theorem pass_cyc : (s.pass c n).cyc = s.cyc := rfl
@[simp] theorem pass_bank : (s.pass c n).bank = s.bank := rfl
@[simp] theorem pass_dev : (s.pass c n).dev = s.dev := rfl
@[simp] theorem pass_fc : (s.pass c n).fc = s.fc := rfl
@[simp] theorem pass_ports : (s.pass c n).ports = s.ports := rfl
@[simp] theorem pass_phases : (s.pass c n).phases = s.phases := rfl
@[simp] theorem pass_rails : (s.pass c n).rails = s.rails := rfl
@[simp] theorem pass_doms : (s.pass c n).doms = s.doms := rfl
@[simp] theorem pass_eng : (s.pass c n).eng = s.eng := rfl
@[simp] theorem pass_tripLatch : (s.pass c n).tripLatch = s.tripLatch := rfl
@[simp] theorem pass_tripRaw : (s.pass c n).tripRaw = s.tripRaw := rfl
@[simp] theorem pass_tripCnt : (s.pass c n).tripCnt = s.tripCnt := rfl
@[simp] theorem pass_aux : (s.pass c n).aux = s.aux := rfl
@[simp] theorem pass_spa : (s.pass c n).spa = s.spa := rfl
@[simp] theorem pass_spp : (s.pass c n).spp = s.spp := rfl
@[simp] theorem pass_grid : (s.pass c n).grid = s.grid := rfl
@[simp] theorem pass_capt : (s.pass c n).capt = s.capt := rfl
@[simp] theorem pass_cup : (s.pass c n).cup = s.cup := rfl
@[simp] theorem pass_sb : (s.pass c n).sb = s.sb := rfl
@[simp] theorem pass_nv : (s.pass c n).nv = s.nv := rfl
@[simp] theorem pass_twin : (s.pass c n).twin = s.twin := rfl
@[simp] theorem pass_gang : (s.pass c n).gang = s.gang := rfl
@[simp] theorem pass_clk : (s.pass c n).clk = s.clk + n := rfl
@[simp] theorem pass_perf : (s.pass c n).perf = s.passed c n := rfl
end

/-! ### Accessors after updates of other parts -/

@[simp] theorem reg_modPh_of (s : State) (p : Nat) (f : Phase → Phase) (k' : Nat) : (s.modPh p f).reg k' = s.reg k' := rfl
@[simp] theorem rail_modPh_of (s : State) (p : Nat) (f : Phase → Phase) (r' : Nat) : (s.modPh p f).rail r' = s.rail r' := rfl
@[simp] theorem dom_modPh_of (s : State) (p : Nat) (f : Phase → Phase) (d' : Nat) : (s.modPh p f).dom d' = s.dom d' := rfl
@[simp] theorem reg_modGen_of (s : State) (p : Nat) (f : Gen → Gen) (k' : Nat) : (s.modGen p f).reg k' = s.reg k' := rfl
@[simp] theorem rail_modGen_of (s : State) (p : Nat) (f : Gen → Gen) (r' : Nat) : (s.modGen p f).rail r' = s.rail r' := rfl
@[simp] theorem dom_modGen_of (s : State) (p : Nat) (f : Gen → Gen) (d' : Nat) : (s.modGen p f).dom d' = s.dom d' := rfl
@[simp] theorem reg_modRail_of (s : State) (r : Nat) (f : Rail → Rail) (k' : Nat) : (s.modRail r f).reg k' = s.reg k' := rfl
@[simp] theorem ph_modRail_of (s : State) (r : Nat) (f : Rail → Rail) (p' : Nat) : (s.modRail r f).ph p' = s.ph p' := rfl
@[simp] theorem dom_modRail_of (s : State) (r : Nat) (f : Rail → Rail) (d' : Nat) : (s.modRail r f).dom d' = s.dom d' := rfl
@[simp] theorem reg_modDom_of (s : State) (k : Nat) (f : Dom → Dom) (k' : Nat) : (s.modDom k f).reg k' = s.reg k' := rfl
@[simp] theorem ph_modDom_of (s : State) (k : Nat) (f : Dom → Dom) (p' : Nat) : (s.modDom k f).ph p' = s.ph p' := rfl
@[simp] theorem rail_modDom_of (s : State) (k : Nat) (f : Dom → Dom) (r' : Nat) : (s.modDom k f).rail r' = s.rail r' := rfl
@[simp] theorem ph_setReg_of (s : State) (k : Nat) (v : Word) (p' : Nat) : (s.setReg k v).ph p' = s.ph p' := rfl
@[simp] theorem rail_setReg_of (s : State) (k : Nat) (v : Word) (r' : Nat) : (s.setReg k v).rail r' = s.rail r' := rfl
@[simp] theorem dom_setReg_of (s : State) (k : Nat) (v : Word) (d' : Nat) : (s.setReg k v).dom d' = s.dom d' := rfl
@[simp] theorem reg_setCtx_of (s : State) (c : Nat) (bs : List Block) (k' : Nat) : (s.setCtx c bs).reg k' = s.reg k' := rfl
@[simp] theorem ph_setCtx_of (s : State) (c : Nat) (bs : List Block) (p' : Nat) : (s.setCtx c bs).ph p' = s.ph p' := rfl
@[simp] theorem rail_setCtx_of (s : State) (c : Nat) (bs : List Block) (r' : Nat) : (s.setCtx c bs).rail r' = s.rail r' := rfl
@[simp] theorem dom_setCtx_of (s : State) (c : Nat) (bs : List Block) (d' : Nat) : (s.setCtx c bs).dom d' = s.dom d' := rfl
@[simp] theorem reg_begin_of (s : State) (c : Option (Fin 3)) (d : Option Nat) (m : Bool) (k' : Nat) : (s.begin c d m).reg k' = s.reg k' := rfl
@[simp] theorem ph_begin_of (s : State) (c : Option (Fin 3)) (d : Option Nat) (m : Bool) (p' : Nat) : (s.begin c d m).ph p' = s.ph p' := rfl
@[simp] theorem rail_begin_of (s : State) (c : Option (Fin 3)) (d : Option Nat) (m : Bool) (r' : Nat) : (s.begin c d m).rail r' = s.rail r' := rfl
@[simp] theorem dom_begin_of (s : State) (c : Option (Fin 3)) (d : Option Nat) (m : Bool) (d' : Nat) : (s.begin c d m).dom d' = s.dom d' := rfl

/-! ### Accessors after updates of the same part -/

/-- The phase, rail or domain that was changed, and every other one. -/
theorem ph_modPh (s : State) (p q : Nat) (f : Phase → Phase) :
    (s.modPh p f).ph q = if p = q ∧ q < 48 then f (s.ph q) else s.ph q := by
  simp only [State.ph, State.modPh, Vector.getElem?_setIfInBounds]
  grind
theorem rail_modRail (s : State) (r q : Nat) (f : Rail → Rail) :
    (s.modRail r f).rail q = if r = q ∧ q < 16 then f (s.rail q) else s.rail q := by
  simp only [State.rail, State.modRail, Vector.getElem?_setIfInBounds]
  grind
theorem dom_modDom (s : State) (k q : Nat) (f : Dom → Dom) :
    (s.modDom k f).dom q = if k = q ∧ q < 4 then f (s.dom q) else s.dom q := by
  simp only [State.dom, State.modDom, Vector.getElem?_setIfInBounds]
  grind
theorem ph_modGen (s : State) (p q : Nat) (f : Gen → Gen) :
    (s.modGen p f).ph q = if p = q ∧ q < 48 then { s.ph q with gen := f (s.ph q).gen } else s.ph q := ph_modPh s p q _

theorem ph_modPh_same (s : State) (p : Nat) (f : Phase → Phase) (h : p < 48) : (s.modPh p f).ph p = f (s.ph p) := by
  simp [ph_modPh, h]
theorem ph_modPh_ne (s : State) (p q : Nat) (f : Phase → Phase) (h : q ≠ p) : (s.modPh p f).ph q = s.ph q := by
  simp [ph_modPh, h.symm]
theorem rail_modRail_same (s : State) (r : Nat) (f : Rail → Rail) (h : r < 16) : (s.modRail r f).rail r = f (s.rail r) := by
  simp [rail_modRail, h]
theorem rail_modRail_ne (s : State) (r q : Nat) (f : Rail → Rail) (h : q ≠ r) : (s.modRail r f).rail q = s.rail q := by
  simp [rail_modRail, h.symm]
theorem dom_modDom_same (s : State) (k : Nat) (f : Dom → Dom) (h : k < 4) : (s.modDom k f).dom k = f (s.dom k) := by
  simp [dom_modDom, h]
theorem dom_modDom_ne (s : State) (k q : Nat) (f : Dom → Dom) (h : q ≠ k) : (s.modDom k f).dom q = s.dom q := by
  simp [dom_modDom, h.symm]

/-- A phase, rail or domain beyond the device's does not exist: it reads as after a reset. -/
theorem ph_beyond (s : State) (p : Nat) (h : 48 ≤ p) : s.ph p = Phase.init := by simp [State.ph, h]
theorem rail_beyond (s : State) (r : Nat) (h : 16 ≤ r) : s.rail r = Rail.init := by simp [State.rail, h]
theorem dom_beyond (s : State) (k : Nat) (h : 4 ≤ k) : s.dom k = Dom.init := by simp [State.dom, h]

/-- Two states with the same phases (rails, domains) by number have the same phases (rails, domains). -/
theorem phases_ext (s t : State) (h : ∀ p < 48, s.ph p = t.ph p) : s.phases = t.phases := by
  ext1 p hp
  simpa [State.ph, hp] using h p hp
theorem rails_ext (s t : State) (h : ∀ r < 16, s.rail r = t.rail r) : s.rails = t.rails := by
  ext1 r hr
  simpa [State.rail, hr] using h r hr

end Sys2Proof.Machine
end

