-- ==== Sys2Proof/Laws/Store.lean ====
section
/-! SUPPORT. Laws/Store.lean: the two sparse stores, registers and flash: reading after writing, other keys, the canonical
form that every operation keeps, and that two canonical stores that read alike are equal. -/

-- One declaration at a time: the package as one text would else hold too many threads at once.
set_option Elab.async false

namespace Sys2Proof.Machine

/-! ### Sparse stores -/

section
variable {α : Type} {d : Nat → α} {m m' : List (Nat × α)} {k j : Nat} {v : α}

@[simp] theorem sget_nil : sget d [] k = d k := rfl

/-- A key below every listed key reads as unlisted. -/
theorem sget_of_lt (h : ∀ e ∈ m, k < e.1) : sget d m k = d k := by
  induction m with
  | nil => rfl
  | cons e t ih =>
    have := h e (by simp)
    simp only [sget]
    rw [if_neg (by omega)]
    exact ih fun e' he' => h e' (by simp [he'])

/-- A listed entry is what its key reads. -/
theorem sget_of_mem (hm : swf d m) {e : Nat × α} (he : e ∈ m) : sget d m e.1 = e.2 := by
  induction m with
  | nil => simp at he
  | cons a t ih =>
    obtain ⟨hp, hd⟩ := hm
    rw [List.pairwise_cons] at hp
    rcases List.mem_cons.1 he with rfl | ht
    · simp [sget]
    · have := hp.1 e ht
      simp only [sget]
      rw [if_neg (by omega)]
      exact ih ⟨hp.2, fun x hx => hd x (by simp [hx])⟩ ht

section
variable [DecidableEq α]

/-- Writing leaves every other key alone. -/
theorem sget_sset_ne (h : j ≠ k) : sget d (sset d m k v) j = sget d m j := by
  induction m with
  | nil => simp only [sset]; split <;> simp [sget]; omega
  | cons e t ih =>
    obtain ⟨k', v'⟩ := e
    simp only [sset]
    split
    · simp only [sget, ih]
    · split
      · next h1 h2 => split <;> simp only [sget] <;> rw [if_neg (by omega : ¬ k' = j)]
                      rw [if_neg (by omega)]
      · split <;> simp only [sget]
        rw [if_neg (by omega)]

/-- A key read after it was written gives the value written. -/
theorem sget_sset_same (hm : swf d m) : sget d (sset d m k v) k = v := by
  induction m with
  | nil => simp only [sset]; split <;> simp_all [sget]
  | cons e t ih =>
    obtain ⟨k', v'⟩ := e
    obtain ⟨hp, hd⟩ := hm
    rw [List.pairwise_cons] at hp
    have ih := ih ⟨hp.2, fun x hx => hd x (by simp [hx])⟩
    simp only [sset]
    split
    · simp only [sget]; rw [if_neg (by omega)]; exact ih
    · split
      · next h1 h2 =>
        subst h2
        split
        · next hv => rw [hv]; exact sget_of_lt fun e he => hp.1 e he
        · simp [sget]
      · next h1 h2 =>
        split
        · next hv =>
          rw [hv]
          refine sget_of_lt fun e he => ?_
          rcases List.mem_cons.1 he with rfl | ht
          · show k < k'; omega
          · exact Nat.lt_trans (by omega : k < k') (hp.1 e ht)
        · simp [sget]

/-- The keys a written store lists. -/
theorem mem_sset {e : Nat × α} (h : e ∈ sset d m k v) : e = (k, v) ∨ e ∈ m := by
  induction m with
  | nil =>
    simp only [sset] at h
    split at h <;> simp_all
  | cons a t ih =>
    obtain ⟨k', v'⟩ := a
    simp only [sset] at h
    split at h
    · rcases List.mem_cons.1 h with rfl | h
      · simp
      · rcases ih h with h | h <;> simp [h]
    · split at h <;> split at h <;> simp at h ⊢ <;> tauto

/-- The canonical form is kept. -/
theorem swf_sset (hm : swf d m) : swf d (sset d m k v) := by
  induction m with
  | nil =>
    simp only [sset]
    split <;> simp_all [swf]
  | cons a t ih =>
    obtain ⟨k', v'⟩ := a
    obtain ⟨hp, hd⟩ := hm
    rw [List.pairwise_cons] at hp
    have ht : swf d t := ⟨hp.2, fun x hx => hd x (by simp [hx])⟩
    have hv' : v' ≠ d k' := hd (k', v') (by simp)
    simp only [sset]
    split
    · next hlt =>
      refine ⟨List.pairwise_cons.2 ⟨fun e he => ?_, (ih ht).1⟩, fun e he => ?_⟩
      · rcases mem_sset he with rfl | he
        · exact hlt
        · exact hp.1 e he
      · rcases List.mem_cons.1 he with rfl | he
        · exact hv'
        · exact (ih ht).2 e he
    · split
      · next h1 h2 =>
        subst h2
        split
        · exact ht
        · next hv =>
          refine ⟨List.pairwise_cons.2 ⟨hp.1, hp.2⟩, fun e he => ?_⟩
          rcases List.mem_cons.1 he with rfl | he
          · exact hv
          · exact ht.2 e he
      · next h1 h2 =>
        have hw : swf d ((k', v') :: t) := ⟨List.pairwise_cons.2 hp, hd⟩
        split
        · exact hw
        · next hv =>
          refine ⟨List.pairwise_cons.2 ⟨fun e he => ?_, hw.1⟩, fun e he => ?_⟩
          · rcases List.mem_cons.1 he with rfl | he
            · show k < k'; omega
            · exact Nat.lt_trans (by omega : k < k') (hp.1 e he)
          · rcases List.mem_cons.1 he with rfl | he
            · exact hv
            · exact hw.2 e he

end

/-- A part of a canonical store is canonical. -/
theorem swf_filter (f : Nat × α → Bool) (hm : swf d m) : swf d (m.filter f) :=
  ⟨hm.1.filter f, fun e he => hm.2 e (List.mem_filter.1 he).1⟩

/-- What a key reads of a part chosen by key. -/
theorem sget_filter (f : Nat → Bool) : sget d (m.filter fun e => f e.1) k = if f k then sget d m k else d k := by
  induction m with
  | nil => simp
  | cons a t ih =>
    obtain ⟨k', v'⟩ := a
    by_cases hf : f k' = true
    · rw [List.filter_cons_of_pos (by simpa using hf)]
      simp only [sget, ih]
      by_cases hk : k' = k
      · subst hk; simp [hf]
      · simp [hk]
    · rw [List.filter_cons_of_neg (by simpa using hf), ih]
      by_cases hk : k' = k
      · subst hk; simp [hf]
      · simp [sget, hk]

/-- Two canonical stores that read alike are equal. -/
theorem swf_ext (hm : swf d m) (hm' : swf d m') (h : ∀ k, sget d m k = sget d m' k) : m = m' := by
  induction m generalizing m' with
  | nil =>
    cases m' with
    | nil => rfl
    | cons a t => exact absurd (sget_of_mem hm' (e := a) (by simp)) (by rw [← h]; exact fun e => hm'.2 a (by simp) e.symm)
  | cons a t ih =>
    cases m' with
    | nil => exact absurd (sget_of_mem hm (e := a) (by simp)) (by rw [h]; exact fun e => hm.2 a (by simp) e.symm)
    | cons b t' =>
      have hpa := (List.pairwise_cons.1 hm.1)
      have hpb := (List.pairwise_cons.1 hm'.1)
      have hta : swf d t := ⟨hpa.2, fun x hx => hm.2 x (by simp [hx])⟩
      have htb : swf d t' := ⟨hpb.2, fun x hx => hm'.2 x (by simp [hx])⟩
      have hab : a.1 = b.1 := by
        rcases Nat.lt_trichotomy a.1 b.1 with hlt | heq | hgt
        · refine absurd (sget_of_mem hm (e := a) (by simp)) ?_
          rw [h, sget_of_lt (m := b :: t')]
          · exact fun e => hm.2 a (by simp) e.symm
          · intro e he
            rcases List.mem_cons.1 he with rfl | he
            · exact hlt
            · exact Nat.lt_trans hlt (hpb.1 e he)
        · exact heq
        · refine absurd (sget_of_mem hm' (e := b) (by simp)) ?_
          rw [← h, sget_of_lt (m := a :: t)]
          · exact fun e => hm'.2 b (by simp) e.symm
          · intro e he
            rcases List.mem_cons.1 he with rfl | he
            · exact hgt
            · exact Nat.lt_trans hgt (hpa.1 e he)
      have hv : a.2 = b.2 := by
        rw [← sget_of_mem hm (e := a) (by simp), ← sget_of_mem hm' (e := b) (by simp), h, hab]
      have he : a = b := Prod.ext hab hv
      subst he
      refine congrArg _ (ih hta htb fun k => ?_)
      by_cases hk : a.1 = k
      · subst hk
        rw [sget_of_lt fun e he => hpa.1 e he, sget_of_lt fun e he => hpb.1 e he]
      · simpa [sget, hk] using h k

/-- Writing what a key already reads changes nothing. -/
theorem sset_sget [DecidableEq α] (hm : swf d m) : sset d m k (sget d m k) = m := by
  refine swf_ext (swf_sset hm) hm fun j => ?_
  by_cases h : j = k
  · subst h; exact sget_sset_same hm
  · exact sget_sset_ne h

end

/-! ### Registers -/

theorem reg_setReg_same {s : State} {k : Nat} {v : Word} (h : swf defaultWord s.bank) : (s.setReg k v).reg k = v :=
  sget_sset_same h

theorem reg_setReg_ne {s : State} {k j : Nat} {v : Word} (h : j ≠ k) : (s.setReg k v).reg j = s.reg j := sget_sset_ne h

theorem setReg_reg {s : State} {k : Nat} (h : swf defaultWord s.bank) : s.setReg k (s.reg k) = s := by
  simp only [State.setReg, State.reg, sset_sget h]

theorem setReg_swf {s : State} {k : Nat} {v : Word} (h : swf defaultWord s.bank) : swf defaultWord (s.setReg k v).bank :=
  swf_sset h

/-! ### Flash (R329) -/

/-- Programming clears bits and sets none. -/
theorem progByte_same {s : State} {a v : Nat} (h : swf erasedByte s.nv.flash) :
    sget erasedByte (progByte a v s).nv.flash a = sget erasedByte s.nv.flash a &&& BitVec.ofNat 8 v := sget_sset_same h

theorem progByte_ne {s : State} {a b v : Nat} (h : b ≠ a) :
    sget erasedByte (progByte a v s).nv.flash b = sget erasedByte s.nv.flash b := sget_sset_ne h

theorem progByte_swf {s : State} {a v : Nat} (h : swf erasedByte s.nv.flash) : swf erasedByte (progByte a v s).nv.flash :=
  swf_sset h

theorem putByte_same {s : State} {a : Nat} {v : Byte} (h : swf erasedByte s.nv.flash) :
    sget erasedByte (putByte a v s).nv.flash a = v := sget_sset_same h

theorem putByte_ne {s : State} {a b : Nat} {v : Byte} (h : b ≠ a) :
    sget erasedByte (putByte a v s).nv.flash b = sget erasedByte s.nv.flash b := sget_sset_ne h

theorem putByte_swf {s : State} {a : Nat} {v : Byte} (h : swf erasedByte s.nv.flash) :
    swf erasedByte (putByte a v s).nv.flash := swf_sset h

/-- An erased sector reads erased; the other sectors keep their bytes. -/
theorem eraseSector_get {s : State} {n a : Nat} :
    sget erasedByte (eraseSector n s).nv.flash a = if sectorOf a = n then 0xFF else sget erasedByte s.nv.flash a := by
  show sget erasedByte (s.nv.flash.filter fun c => sectorOf c.1 != n) a = _
  rw [sget_filter fun a => sectorOf a != n]
  by_cases h : sectorOf a = n <;> simp [h, erasedByte]

theorem eraseSector_swf {s : State} {n : Nat} (h : swf erasedByte s.nv.flash) : swf erasedByte (eraseSector n s).nv.flash :=
  swf_filter _ h

/-- A property kept by each step of a fold is kept by the fold. -/
theorem foldl_keeps {α β : Type} {P : β → Prop} {f : β → α → β} (hf : ∀ b a, P b → P (f b a)) (l : List α) {b : β} (h : P b) :
    P (l.foldl f b) := by
  induction l generalizing b with
  | nil => exact h
  | cons a t ih => exact ih (hf b a h)

theorem progBytes_swf {s : State} {l : List (Nat × Nat)} (h : swf erasedByte s.nv.flash) :
    swf erasedByte (progBytes l s).nv.flash :=
  foldl_keeps (P := fun s : State => swf erasedByte s.nv.flash) (fun _ _ h => progByte_swf h) l h

theorem spoilSector_swf {s : State} {f : Nat → Byte} {n : Nat} (h : swf erasedByte s.nv.flash) :
    swf erasedByte (spoilSector f n s).nv.flash :=
  foldl_keeps (P := fun s : State => swf erasedByte s.nv.flash) (fun _ _ h => putByte_swf h) _ h

/-- Only the sector spoilt may change. -/
theorem spoilSector_get_ne {s : State} {f : Nat → Byte} {n a : Nat} (h : sectorOf a ≠ n) :
    sget erasedByte (spoilSector f n s).nv.flash a = sget erasedByte s.nv.flash a := by
  have key : ∀ (l : List (Nat × Byte)) (t : State), (∀ c ∈ l, sectorOf c.1 = n) →
      sget erasedByte (l.foldl (fun s c => putByte c.1 (f c.1) s) t).nv.flash a = sget erasedByte t.nv.flash a := by
    intro l
    induction l with
    | nil => intros; rfl
    | cons c l ih =>
      intro t hl
      rw [List.foldl_cons, ih _ fun c' hc' => hl c' (by simp [hc'])]
      exact putByte_ne fun e => h (by rw [e]; exact hl c (by simp))
  exact key _ _ fun c hc => by simpa using (List.mem_filter.1 hc).2

theorem cutErase_swf {s : State} {f : Nat → Byte} {n : Nat} (h : swf erasedByte s.nv.flash) :
    swf erasedByte (cutErase f n s).nv.flash := by
  unfold cutErase
  simp only
  split
  · exact spoilSector_swf h
  · exact putByte_swf (spoilSector_swf h)

/-- A cut-short operation keeps the canonical form (R344-R346). -/
theorem nvCut_swf {s : State} (h : swf erasedByte s.nv.flash) : swf erasedByte (nvCut s).nv.flash := by
  unfold nvCut
  split
  · exact h
  · simp only
    split
    · exact cutErase_swf h
    · unfold nvPartial
      simp only
      split
      · exact progBytes_swf h
      · exact putByte_swf (progBytes_swf h)

/-- The array after reset lists nothing. -/
theorem reset_flash_swf : swf erasedByte State.reset.nv.flash := by
  show swf erasedByte []
  simp [swf]

end Sys2Proof.Machine
end

