-- ==== Sys2Proof/Laws/Frame.lean ====
section
/-! SUPPORT. Laws/Frame.lean: which parts of the state each shared operation may move. `Only l s t` says that `t` differs from
`s` in the listed parts alone, the queue of commands never among them; the lemma `<operation>_only` says it of one operation,
and `only_<part>` reads an unlisted part back. -/

-- One declaration at a time: the package as one text would else hold too many threads at once.
set_option Elab.async false

namespace Sys2Proof.Machine

/-- The parts of the state. The collector is three: messages that wait, what stands, and the rest. -/
inductive Part where
  | cyc | clk | bank | dev | msgs | stand | log | ports | phases | rails | doms | eng | latch | raw | tcnt | aux | spa | spp | grid | capt
  | cup | sb | perf | nv | twin | gang
  deriving DecidableEq, Repr

/-- A part is the same in two states. -/
def Same : Part → State → State → Prop
  | .cyc, s, t => t.cyc = s.cyc
  | .clk, s, t => t.clk = s.clk
  | .bank, s, t => t.bank = s.bank
  | .dev, s, t => t.dev = s.dev
  | .msgs, s, t => t.fc.pend = s.fc.pend
  | .stand, s, t => t.fc.stand = s.fc.stand
  | .log, s, t => { t.fc with pend := s.fc.pend, stand := s.fc.stand } = s.fc
  | .ports, s, t => t.ports = s.ports
  | .phases, s, t => t.phases = s.phases
  | .rails, s, t => t.rails = s.rails
  | .doms, s, t => t.doms = s.doms
  | .eng, s, t => t.eng = s.eng
  | .latch, s, t => t.tripLatch = s.tripLatch
  | .raw, s, t => t.tripRaw = s.tripRaw
  | .tcnt, s, t => t.tripCnt = s.tripCnt
  | .aux, s, t => t.aux = s.aux
  | .spa, s, t => t.spa = s.spa
  | .spp, s, t => t.spp = s.spp
  | .grid, s, t => t.grid = s.grid
  | .capt, s, t => t.capt = s.capt
  | .cup, s, t => t.cup = s.cup
  | .sb, s, t => t.sb = s.sb
  | .perf, s, t => t.perf = s.perf
  | .nv, s, t => t.nv = s.nv
  | .twin, s, t => t.twin = s.twin
  | .gang, s, t => t.gang = s.gang

/-- Only the listed parts differ, and the queue of commands is the same. -/
def Only (l : List Part) (s t : State) : Prop := t.pending = s.pending ∧ ∀ p, p ∉ l → Same p s t

section
variable {l m n : List Part} {s t u : State}

theorem same_refl (p : Part) (s : State) : Same p s s := by cases p <;> rfl

theorem same_trans {p : Part} (h : Same p s t) (g : Same p t u) : Same p s u := by
  cases p
  case log =>
    cases s; cases t; cases u
    simp only [Same] at h g ⊢
    rw [← h, ← g]
  all_goals exact Eq.trans g h

theorem only_refl : Only l s s := ⟨rfl, fun p _ => same_refl p s⟩

theorem only_trans (h : Only l s t) (g : Only l t u) : Only l s u :=
  ⟨g.1.trans h.1, fun p hp => same_trans (h.2 p hp) (g.2 p hp)⟩

theorem only_mono (h : Only l s t) (hl : l ⊆ m := by decide) : Only m s t := ⟨h.1, fun p hp => h.2 p fun hi => hp (hl hi)⟩

/-- One operation after another. -/
theorem only_then (h : Only l s t) (g : Only m t u) (hl : l ⊆ n := by decide) (hm : m ⊆ n := by decide) : Only n s u :=
  only_trans (only_mono h hl) (only_mono g hm)

theorem only_ite {c : Prop} [Decidable c] (h : Only l s t) (g : Only l s u) : Only l s (if c then t else u) := by
  split
  · exact h
  · exact g

theorem only_foldl {α : Type} {f : State → α → State} (hf : ∀ s a, Only l s (f s a)) (xs : List α) : Only l s (xs.foldl f s) := by
  induction xs generalizing s with
  | nil => exact only_refl
  | cons a t ih => exact only_trans (hf s a) ih

theorem only_loop {f : State → Nat → State} (hf : ∀ s a, Only l s (f s a)) (n : Nat) : Only l s (loop n f s) :=
  only_foldl hf _

/-! ### Reading an unlisted part back -/

theorem only_pending (h : Only l s t) : t.pending = s.pending := h.1
theorem only_bank (h : Only l s t) (hn : .bank ∉ l := by decide) : t.bank = s.bank := h.2 .bank hn
theorem only_dev (h : Only l s t) (hn : .dev ∉ l := by decide) : t.dev = s.dev := h.2 .dev hn
theorem only_msgs (h : Only l s t) (hn : .msgs ∉ l := by decide) : t.fc.pend = s.fc.pend := h.2 .msgs hn
theorem only_stand (h : Only l s t) (hn : .stand ∉ l := by decide) : t.fc.stand = s.fc.stand := h.2 .stand hn
theorem only_fc (h : Only l s t) (h1 : .msgs ∉ l := by decide) (h2 : .stand ∉ l := by decide) (h3 : .log ∉ l := by decide) :
    t.fc = s.fc := by
  have a := h.2 .msgs h1
  have b := h.2 .stand h2
  have c := h.2 .log h3
  simp only [Same] at a b c
  rw [← a, ← b] at c
  exact c
theorem only_ports (h : Only l s t) (hn : .ports ∉ l := by decide) : t.ports = s.ports := h.2 .ports hn
theorem only_phases (h : Only l s t) (hn : .phases ∉ l := by decide) : t.phases = s.phases := h.2 .phases hn
theorem only_rails (h : Only l s t) (hn : .rails ∉ l := by decide) : t.rails = s.rails := h.2 .rails hn
theorem only_doms (h : Only l s t) (hn : .doms ∉ l := by decide) : t.doms = s.doms := h.2 .doms hn
theorem only_eng (h : Only l s t) (hn : .eng ∉ l := by decide) : t.eng = s.eng := h.2 .eng hn
theorem only_latch (h : Only l s t) (hn : .latch ∉ l := by decide) : t.tripLatch = s.tripLatch := h.2 .latch hn
theorem only_aux (h : Only l s t) (hn : .aux ∉ l := by decide) : t.aux = s.aux := h.2 .aux hn
theorem only_grid (h : Only l s t) (hn : .grid ∉ l := by decide) : t.grid = s.grid := h.2 .grid hn
theorem only_capt (h : Only l s t) (hn : .capt ∉ l := by decide) : t.capt = s.capt := h.2 .capt hn
theorem only_cup (h : Only l s t) (hn : .cup ∉ l := by decide) : t.cup = s.cup := h.2 .cup hn
theorem only_sb (h : Only l s t) (hn : .sb ∉ l := by decide) : t.sb = s.sb := h.2 .sb hn
theorem only_perf (h : Only l s t) (hn : .perf ∉ l := by decide) : t.perf = s.perf := h.2 .perf hn
theorem only_nv (h : Only l s t) (hn : .nv ∉ l := by decide) : t.nv = s.nv := h.2 .nv hn
theorem only_twin (h : Only l s t) (hn : .twin ∉ l := by decide) : t.twin = s.twin := h.2 .twin hn
theorem only_gang (h : Only l s t) (hn : .gang ∉ l := by decide) : t.gang = s.gang := h.2 .gang hn

/-- A register, a rail, a phase where its store is not among the parts that move. -/
theorem only_reg (h : Only l s t) (k : Nat) (hn : .bank ∉ l := by decide) : t.reg k = s.reg k := by
  simp only [State.reg, only_bank h hn]
theorem only_rail (h : Only l s t) (r : Nat) (hn : .rails ∉ l := by decide) : t.rail r = s.rail r := by
  simp only [State.rail, only_rails h hn]
theorem only_ph (h : Only l s t) (p : Nat) (hn : .phases ∉ l := by decide) : t.ph p = s.ph p := by
  simp only [State.ph, only_phases h hn]
theorem only_dom (h : Only l s t) (k : Nat) (hn : .doms ∉ l := by decide) : t.dom k = s.dom k := by
  simp only [State.dom, only_doms h hn]

end

/-- The canonical form of a store that does not move. -/
theorem only_bank_swf {l : List Part} {s t : State} (h : Only l s t) (hs : swf defaultWord s.bank) (hn : .bank ∉ l := by decide) :
    swf defaultWord t.bank := by rw [only_bank h hn]; exact hs
theorem only_flash_swf {l : List Part} {s t : State} (h : Only l s t) (hs : swf erasedByte s.nv.flash)
    (hn : .nv ∉ l := by decide) : swf erasedByte t.nv.flash := by rw [only_nv h hn]; exact hs

/-! ### One record update -/

section
variable (s : State)

theorem upd_cyc (x : Nat) : Only [.cyc] s { s with cyc := x } :=
  ⟨rfl, fun q hq => by cases q <;> first | rfl | simp at hq⟩
theorem upd_clk (x : Nat) : Only [.clk] s { s with clk := x } :=
  ⟨rfl, fun q hq => by cases q <;> first | rfl | simp at hq⟩
theorem upd_bank (x : List (Nat × Word)) : Only [.bank] s { s with bank := x } :=
  ⟨rfl, fun q hq => by cases q <;> first | rfl | simp at hq⟩
theorem upd_dev (x : Dev) : Only [.dev] s { s with dev := x } :=
  ⟨rfl, fun q hq => by cases q <;> first | rfl | simp at hq⟩
theorem upd_ports (x : Ports) : Only [.ports] s { s with ports := x } :=
  ⟨rfl, fun q hq => by cases q <;> first | rfl | simp at hq⟩
theorem upd_phases (x : Vector Phase 48) : Only [.phases] s { s with phases := x } :=
  ⟨rfl, fun q hq => by cases q <;> first | rfl | simp at hq⟩
theorem upd_rails (x : Vector Rail 16) : Only [.rails] s { s with rails := x } :=
  ⟨rfl, fun q hq => by cases q <;> first | rfl | simp at hq⟩
theorem upd_doms (x : Vector Dom 4) : Only [.doms] s { s with doms := x } :=
  ⟨rfl, fun q hq => by cases q <;> first | rfl | simp at hq⟩
theorem upd_eng (x : Eng) : Only [.eng] s { s with eng := x } :=
  ⟨rfl, fun q hq => by cases q <;> first | rfl | simp at hq⟩
theorem upd_tripLatch (x : Nat) : Only [.latch] s { s with tripLatch := x } :=
  ⟨rfl, fun q hq => by cases q <;> first | rfl | simp at hq⟩
theorem upd_tripRaw (x : Nat) : Only [.raw] s { s with tripRaw := x } :=
  ⟨rfl, fun q hq => by cases q <;> first | rfl | simp at hq⟩
theorem upd_tripCnt (x : List Nat) : Only [.tcnt] s { s with tripCnt := x } :=
  ⟨rfl, fun q hq => by cases q <;> first | rfl | simp at hq⟩
theorem upd_aux (x : Aux) : Only [.aux] s { s with aux := x } :=
  ⟨rfl, fun q hq => by cases q <;> first | rfl | simp at hq⟩
theorem upd_spa (x : List Spa) : Only [.spa] s { s with spa := x } :=
  ⟨rfl, fun q hq => by cases q <;> first | rfl | simp at hq⟩
theorem upd_spp (x : List Spp) : Only [.spp] s { s with spp := x } :=
  ⟨rfl, fun q hq => by cases q <;> first | rfl | simp at hq⟩
theorem upd_grid (x : Grid) : Only [.grid] s { s with grid := x } :=
  ⟨rfl, fun q hq => by cases q <;> first | rfl | simp at hq⟩
theorem upd_capt (x : Capt) : Only [.capt] s { s with capt := x } :=
  ⟨rfl, fun q hq => by cases q <;> first | rfl | simp at hq⟩
theorem upd_cup (x : Cup) : Only [.cup] s { s with cup := x } :=
  ⟨rfl, fun q hq => by cases q <;> first | rfl | simp at hq⟩
theorem upd_sb (x : Sb) : Only [.sb] s { s with sb := x } :=
  ⟨rfl, fun q hq => by cases q <;> first | rfl | simp at hq⟩
theorem upd_perf (x : Perf) : Only [.perf] s { s with perf := x } :=
  ⟨rfl, fun q hq => by cases q <;> first | rfl | simp at hq⟩
theorem upd_nv (x : Nv) : Only [.nv] s { s with nv := x } :=
  ⟨rfl, fun q hq => by cases q <;> first | rfl | simp at hq⟩
theorem upd_twin (x : Twin) : Only [.twin] s { s with twin := x } :=
  ⟨rfl, fun q hq => by cases q <;> first | rfl | simp at hq⟩
theorem upd_gang (x : Gang) : Only [.gang] s { s with gang := x } :=
  ⟨rfl, fun q hq => by cases q <;> first | rfl | simp at hq⟩
theorem upd_fc (x : Fc) : Only [.msgs, .stand, .log] s { s with fc := x } :=
  ⟨rfl, fun q hq => by cases q <;> first | rfl | simp at hq⟩
theorem upd_msgs (x : List Msg) : Only [.msgs] s { s with fc := { s.fc with pend := x } } :=
  ⟨rfl, fun q hq => by cases q <;> first | rfl | simp at hq⟩
theorem upd_stand (x : List (Nat × Nat)) : Only [.stand] s { s with fc := { s.fc with stand := x } } :=
  ⟨rfl, fun q hq => by cases q <;> first | rfl | simp at hq⟩

end

end Sys2Proof.Machine
end

