-- ==== Sys2Proof/Laws/Ops.lean ====
section
/-! SUPPORT. Laws/Ops.lean: for each shared operation, the parts of the state it may move; rails and phases it leaves alone; and
what raising, conditions and the guards of a command do exactly. -/

-- One declaration at a time: the package as one text would else hold too many threads at once.
set_option Elab.async false

namespace Sys2Proof.Machine

variable (s : State)

/-! ### Ops.lean -/

theorem modPh_only (p : Nat) (f : Phase → Phase) : Only [.phases] s (s.modPh p f) := upd_phases s _
theorem modGen_only (p : Nat) (f : Gen → Gen) : Only [.phases] s (s.modGen p f) := upd_phases s _
theorem modRail_only (r : Nat) (f : Rail → Rail) : Only [.rails] s (s.modRail r f) := upd_rails s _
theorem modDom_only (k : Nat) (f : Dom → Dom) : Only [.doms] s (s.modDom k f) := upd_doms s _
theorem setReg_only (k : Nat) (v : Word) : Only [.bank] s (s.setReg k v) := upd_bank s _
theorem modPerf_only (f : Perf → Perf) : Only [.perf] s (s.modPerf f) := upd_perf s _
theorem begin_only (c : Option (Fin 3) := none) (d : Option Nat := none) (m : Bool := false) : Only [.cyc, .clk, .perf] s (s.begin c d m) :=
  only_then (l := [.cyc]) (m := [.clk, .perf]) (upd_cyc s (s.cyc + 1))
    (only_then (l := [.clk]) (m := [.perf]) (upd_clk _ (s.begin c d m).clk) (modPerf_only _ fun _ => (s.begin c d m).perf))

/-- Cycles that pass move the count of cycles and the performance counters (R398). -/
theorem pass_only (c : Option (Fin 3)) (n : Nat) : Only [.clk, .perf] s (s.pass c n) :=
  only_then (l := [.clk]) (m := [.perf]) (upd_clk s (s.clk + n)) (modPerf_only _ fun _ => s.passed c n)

theorem raise_only (src kind addr : Nat) (inj real : Bool) : Only [.msgs] s (raise src kind addr inj real s) := by
  unfold raise
  split
  · exact only_refl
  · split
    · exact upd_msgs s _
    · exact upd_msgs s _

theorem event_only (src addr : Nat) : Only [.msgs] s (event src addr s) := raise_only s _ _ _ _ _

theorem setCond_only (src addr : Nat) (on : Bool) : Only [.msgs, .stand] s (setCond src addr on s) := by
  unfold setCond
  refine only_ite (only_ite only_refl ?_) (only_ite ?_ only_refl)
  · exact only_then (raise_only s src 1 addr false true) (upd_stand _ _)
  · exact only_then (raise_only s src 2 addr false true) (upd_stand _ _)

theorem perf_only (evt inst n : Nat) : Only [.perf] s (perf evt inst n s) := only_ite only_refl (modPerf_only s _)

theorem bytes_only (k n : Nat) : Only [.perf] s (bytes k n s) := upd_perf s _
theorem bytesHead_only (k n : Nat) : Only [.perf] s (bytesHead k n s) := upd_perf s _
theorem progress_only (k n : Nat) : Only [.perf] s (progress k n s) := upd_perf s _
theorem cutUnit_only (k : Nat) : Only [.perf] s (cutUnit k s) := modPerf_only s _

/-- The frame edge moves nothing but the count of cycles and the performance counters (R398, R406). -/
theorem perfEdge_only (wires : List Nat) : Only [.clk, .perf] s (perfEdge wires s) :=
  only_then (l := [.clk, .perf]) (m := [.perf])
    (only_then (l := [.clk, .perf]) (m := [.perf]) (only_then (pass_only s none _) (modPerf_only _ _))
      (only_loop (fun t k => only_ite (progress_only t k _) only_refl) 4))
    (only_then (l := [.perf]) (modPerf_only _ _) (perf_only _ _ _ _))

theorem freezeAll_only : Only [.phases] s (freezeAll s) := upd_phases s _

theorem restRail_only (off : Bool) (r : Nat) : Only [.phases] s (restRail off r s) := only_foldl (fun t p => modPh_only t p _) _
theorem refAll_only (f : Nat → Bool) (t : Nat) : Only [.phases] s (refAll f t s) :=
  only_loop (fun u p => only_ite (modGen_only u p _) only_refl) 48
theorem noteDrv_only (t : Nat) (before : State) : Only [.doms] s (noteDrv t before s) :=
  only_loop (fun u k => only_ite (modDom_only u k _) only_refl) 4

theorem setEvt_only (page m : Nat) : Only [.bank] s (setEvt page m s) := setReg_only s _ _
theorem clrEvt_only (page m : Nat) : Only [.bank] s (clrEvt page m s) := setReg_only s _ _

/-! ### Rail.lean -/

theorem endInjection_only (done byRail : Bool) : Only [.cup, .capt, .msgs] s (endInjection done byRail s) := by
  unfold endInjection
  refine only_then (l := [.cup, .capt]) ?_ (only_ite (event_only _ _ _) (event_only _ _ _))
  exact only_then (m := [.capt]) (upd_cup s _) (only_ite (upd_capt _ _) only_refl)

theorem endNow_only : Only [.cup, .capt, .msgs] s (endNow s) := by
  unfold endNow
  split
  · exact endInjection_only s _ _
  · exact endInjection_only s _ _
theorem cupNow_only (r : Nat) : Only [.cup, .capt, .msgs] s (cupNow r s) := only_ite (endNow_only s) only_refl
theorem endAtZero_only (byRail : Bool) : Only [.cup, .capt, .msgs] s (endAtZero byRail s) :=
  only_ite (endInjection_only s _ _) (only_ite (only_mono (upd_cup s _)) only_refl)
theorem cupAtZero_only (r : Nat) : Only [.cup, .capt, .msgs] s (cupAtZero r s) := only_ite (endAtZero_only s true) only_refl
theorem cupRestart_only : Only [.cup] s (cupRestart s) := upd_cup s _
theorem cupAgain_only : Only [.cup] s (cupAgain s) := only_ite only_refl (cupRestart_only s)

theorem switchBank_only (r : Nat) : Only [.bank, .rails, .cup, .msgs] s (switchBank r s) := by
  unfold switchBank
  refine only_then (l := [.bank, .rails, .cup]) ?_ (event_only _ _ _)
  refine only_then (l := [.bank, .rails]) (m := [.cup]) ?_ (only_ite (cupAgain_only _) only_refl)
  refine only_then (l := [.bank]) ?_ (modRail_only _ r _)
  exact only_trans (only_foldl (fun t o => setReg_only t _ _) coefOffs) (setReg_only _ _ _)

theorem switchIfPending_only (r : Nat) : Only [.bank, .rails, .cup, .msgs] s (switchIfPending r s) :=
  only_ite (only_then (modRail_only s r _) (switchBank_only _ r)) only_refl

theorem zeroCtx_only (c : Nat) : Only [.eng] s (zeroCtx c s) := upd_eng s _
theorem zeroRail_only (r : Nat) : Only [.eng] s (zeroRail r s) :=
  only_trans (only_trans (zeroCtx_only s r) (zeroCtx_only _ (16 + r)))
    (only_foldl (fun t _ => only_trans (zeroCtx_only t _) (zeroCtx_only _ _)) _)
theorem dropQueued_only (r : Nat) : Only [.eng] s (dropQueued r s) := upd_eng s _

theorem loadShadow_only (p : Nat) : Only [.phases] s (loadShadow p s) := modGen_only s p _
theorem spreadOver_only (r : Nat) (l : List Nat) : Only [.bank] s (spreadOver r l s) :=
  only_foldl (fun t _ => setReg_only t _ _) _
theorem respread_only (r : Nat) : Only [.phases] s (respread r s) := only_foldl (fun t _ => modPh_only t _ _) _
theorem loadRail_only (r : Nat) : Only [.bank, .phases] s (loadRail r s) :=
  only_then (spreadOver_only s r _) (only_foldl (fun t p => loadShadow_only t p) _)

theorem preloadStart_only (r : Nat) : Only [.rails, .phases] s (preloadStart r s) :=
  only_ite (only_then (l := [.rails]) (m := [.phases]) (modRail_only s r _) (only_foldl (fun t p => modPh_only t p _) _))
    (only_mono (modRail_only s r _))

theorem preloadDrip_only (r : Nat) : Only [.rails, .phases] s (preloadDrip r s) := by
  unfold preloadDrip
  exact only_then (l := [.rails]) (m := [.phases]) (modRail_only s r _) (only_ite (only_foldl (fun t p => modPh_only t p _) _) only_refl)

theorem dripExit_only (r : Nat) : Only [.rails, .phases] s (dripExit r s) :=
  only_ite (only_then (modRail_only s r _) (preloadDrip_only _ r)) only_refl

theorem redecimate_only (r : Nat) : Only [.rails] s (redecimate r s) := modRail_only s r _

theorem activeChanged_only (r : Nat) (f : Bool := false) : Only [.rails, .phases, .perf, .msgs] s (activeChanged r s f) := by
  unfold activeChanged
  refine only_then (l := [.rails, .phases, .perf]) (m := [.msgs]) ?_ (only_ite (event_only _ _ _) only_refl)
  refine only_then (l := [.rails, .phases]) (m := [.perf]) ?_ (only_ite (perf_only _ _ _ _) only_refl)
  refine only_then (l := [.rails, .phases]) (m := [.rails, .phases]) ?_
    (only_ite (only_mono (modRail_only _ r _)) (dripExit_only _ r))
  exact only_then (l := [.rails, .phases]) (only_then (respread_only s r) (modRail_only _ r _)) (only_ite (redecimate_only _ r) only_refl)

theorem joinPhase_only (p : Nat) : Only [.eng, .phases] s (joinPhase p s) :=
  only_then (only_trans (zeroCtx_only s (32 + p)) (zeroCtx_only _ (80 + p))) (modPh_only _ p _)

theorem failPhase_only (p : Nat) : Only [.rails, .phases, .perf, .msgs] s (failPhase p s) := by
  unfold failPhase
  split
  · exact only_refl
  · exact only_then (modPh_only s p _) (activeChanged_only _ _ true)

theorem markFailed_only (p : Nat) : Only [.phases] s (markFailed p s) := modPh_only s p _

theorem preloadFf_only (r : Nat) : Only [.rails, .phases] s (preloadFf r s) :=
  only_ite only_refl (only_ite (only_mono (only_foldl (l := [.phases]) (fun t p => modPh_only t p _) _))
    (only_ite only_refl (only_mono (modRail_only s r _))))

theorem ffLose_only : Only [.rails, .phases] s (ffLose s) :=
  only_loop (fun t r => only_ite (only_then (modRail_only t r _) (preloadFf_only _ r)) only_refl) 16
theorem ffRestore_only (f : Nat) : Only [.rails, .phases] s (ffRestore f s) :=
  only_loop (fun t r => only_ite (only_then (modRail_only t r _) (preloadFf_only _ r)) only_refl) 16

theorem obsCheckOf_only (l : List Nat) : Only [.rails, .phases, .perf, .msgs] s (obsCheckOf l s) := by
  unfold obsCheckOf
  extract_lets lost t u
  have ht : Only [.phases] s t := only_foldl (fun x p => modPh_only x p _) l
  have hu : Only [.phases, .msgs] t u :=
    only_foldl (fun x p => only_then (l := [.phases]) (m := [.msgs]) (markFailed_only x p) (event_only _ _ _)) lost
  clear_value t u lost
  exact only_then (l := [.phases, .msgs]) (only_then (l := [.phases]) (m := [.phases, .msgs]) ht hu)
    (only_loop (fun x r => only_ite (activeChanged_only x r true) only_refl) 16)

theorem obsCheck1_only (p : Nat) : Only [.rails, .phases, .perf, .msgs] s (obsCheck1 p s) := obsCheckOf_only s [p]

theorem obsCheck_only : Only [.rails, .phases, .perf, .msgs] s (obsCheck s) := obsCheckOf_only s _

theorem endPrecheck_only (r : Nat) : Only [.msgs, .stand] s (endPrecheck r s) :=
  only_trans (setCond_only s _ _ _) (only_foldl (fun t _ => only_trans (setCond_only t _ _ _) (setCond_only _ _ _ _)) _)

theorem endUv_only (r : Nat) : Only [.rails, .msgs, .stand] s (endUv r s) :=
  only_then (modRail_only s r _) (setCond_only _ _ _ _)
theorem endXuv_only (r : Nat) : Only [.rails, .msgs, .stand] s (endXuv r s) :=
  only_then (modRail_only s r _) (setCond_only _ _ _ _)
theorem endFollow_only (r : Nat) : Only [.rails, .msgs, .stand] s (endFollow r s) :=
  only_then (modRail_only s r _) (setCond_only _ _ _ _)

/-- What the entry to OFF, FAULTED and LOCKED may move. -/
abbrev stopParts : List Part := [.bank, .rails, .phases, .eng, .cup, .capt, .msgs, .stand]

theorem stopCommon_only (st : RailState) (r : Nat) : Only stopParts s (stopCommon st r s) := by
  unfold stopCommon
  refine only_then (l := stopParts) ?_ (modRail_only _ r _)
  refine only_then (l := stopParts) ?_ (endFollow_only _ r)
  refine only_then (l := stopParts) ?_ (endXuv_only _ r)
  refine only_then (l := stopParts) ?_ (endUv_only _ r)
  refine only_then (l := stopParts) ?_ (switchIfPending_only _ r)
  refine only_then (l := stopParts) ?_ (restRail_only _ _ r)
  refine only_then (l := stopParts) ?_ (dropQueued_only _ r)
  refine only_then (l := stopParts) ?_ (cupNow_only _ r)
  exact only_ite (only_mono (endPrecheck_only s r)) only_refl

theorem toOff_only (r : Nat) : Only stopParts s (toOff r s) := by
  unfold toOff
  exact only_then (stopCommon_only s .off r) (modRail_only _ r _)
theorem enterFaulted_only (src addr r : Nat) : Only stopParts s (enterFaulted src addr r s) := by
  unfold enterFaulted
  exact only_then (stopCommon_only s .faulted r) (modRail_only _ r _)
theorem toFaulted_only (src addr r : Nat) : Only stopParts s (toFaulted src addr r s) := by
  unfold toFaulted
  split
  · exact only_refl
  · exact only_refl
  · exact only_mono (modRail_only s r _)
  · exact enterFaulted_only s src addr r

theorem toLocked_only (r : Nat) : Only stopParts s (toLocked r s) := by
  unfold toLocked
  refine only_then (l := stopParts) ?_ (modRail_only _ r _)
  refine only_then (l := stopParts) ?_ (setCond_only _ _ _ _)
  refine only_then (l := stopParts) ?_ (setCond_only _ _ _ _)
  refine only_then (l := stopParts) ?_ (setCond_only _ _ _ _)
  exact only_then (stopCommon_only s .locked r) (setCond_only _ _ _ _)

theorem reraise_only (r : Nat) : Only [.msgs] s (reraise r s) :=
  only_foldl (fun t _ => only_ite (raise_only t _ _ _ _ _) only_refl) _

theorem leaveOff_only (r : Nat) : Only [.rails, .phases, .eng] s (leaveOff r s) := by
  unfold leaveOff
  refine only_then (l := [.phases, .eng]) (m := [.rails]) ?_ (modRail_only _ r _)
  exact only_then (m := [.phases]) (zeroRail_only s r) (only_foldl (fun t p => modPh_only t p _) _)

theorem toPrecheck_only (r : Nat) : Only [.bank, .rails, .phases, .eng, .msgs, .stand] s (toPrecheck r s) := by
  unfold toPrecheck
  refine only_then (l := [.bank, .rails, .phases, .eng, .msgs]) (m := [.msgs, .stand]) ?_ (only_ite (setCond_only _ _ _ _) only_refl)
  refine only_then (l := [.bank, .rails, .phases, .eng]) ?_ (reraise_only _ r)
  refine only_then (l := [.bank, .rails, .phases, .eng]) ?_ (refAll_only _ _ _)
  refine only_then (l := [.rails, .phases, .eng]) ?_ (loadRail_only _ r)
  exact only_then (l := [.rails, .phases, .eng]) (leaveOff_only s r) (modRail_only _ r _)

theorem toPrebias_only (r : Nat) : Only [.rails, .msgs, .stand] s (toPrebias r s) :=
  only_then (endPrecheck_only s r) (modRail_only _ r _)

theorem sampleTarget_only (r : Nat) : Only [.rails] s (sampleTarget r s) :=
  only_ite (modRail_only s r _) (only_ite only_refl (modRail_only s r _))

theorem startDerate_only (r : Nat) : Only [.rails] s (startDerate r s) :=
  only_trans (modRail_only s r _) (only_ite (modRail_only _ r _) only_refl)
theorem computeBounds_only (r : Nat) : Only [.rails] s (computeBounds r s) := modRail_only s r _

theorem toRamp_only (r : Nat) : Only [.rails, .phases, .msgs] s (toRamp r s) := by
  unfold toRamp
  extract_lets x avg p avail t u
  have h : Only [.phases] s t := only_foldl (fun t q => modPh_only t q _) _
  have g : Only [.phases, .msgs] s u := only_then (m := [.msgs]) h (only_ite (event_only _ _ _) only_refl)
  clear_value u
  refine only_then (l := [.rails, .phases, .msgs]) ?_ (preloadStart_only _ r)
  refine only_then (l := [.rails, .phases, .msgs]) ?_ (computeBounds_only _ r)
  exact only_then (l := [.rails, .phases, .msgs]) (only_then g (modRail_only u r _)) (respread_only _ r)

theorem toStoppingIn_only (mode r : Nat) : Only [.rails, .phases, .cup, .capt, .msgs, .stand] s (toStoppingIn mode r s) := by
  unfold toStoppingIn
  refine only_then (l := [.rails, .phases, .cup, .capt, .msgs, .stand]) ?_ (modRail_only _ r _)
  refine only_then (l := [.rails, .phases, .msgs, .stand]) ?_ (cupAtZero_only _ r)
  refine only_then (l := [.rails, .phases, .msgs, .stand]) ?_ (endFollow_only _ r)
  refine only_then (l := [.rails, .phases]) ?_ (endUv_only _ r)
  exact only_ite (preloadDrip_only s r) (only_ite (preloadStart_only s r)
    (only_ite (only_mono (modRail_only s r _)) only_refl))

theorem toStopping_only (r : Nat) : Only [.rails, .phases, .cup, .capt, .msgs, .stand] s (toStopping r s) := toStoppingIn_only s _ r

theorem toLimit_only (side r : Nat) : Only [.rails, .cup, .capt, .msgs] s (toLimit side r s) := by
  unfold toLimit
  refine only_then (l := [.rails, .cup, .capt, .msgs]) (m := [.msgs]) ?_ (only_ite (event_only _ _ _) only_refl)
  refine only_then (l := [.rails, .cup, .capt, .msgs]) ?_ (event_only _ _ _)
  exact only_then (cupNow_only s r) (modRail_only _ r _)

theorem rampAgain_only (n r : Nat) : Only [.rails, .phases, .eng, .perf, .msgs] s (rampAgain n r s) := by
  unfold rampAgain
  extract_lets t
  have h : Only [.rails] s t := modRail_only s r _
  clear_value t
  split
  · exact only_mono h
  · refine only_then (l := [.rails, .phases, .eng]) ?_ (activeChanged_only _ r)
    exact only_then h (only_foldl (fun t p => joinPhase_only t p) _)

theorem limitExit_only (r : Nat) : Only [.rails, .phases, .eng, .perf, .msgs] s (limitExit r s) :=
  only_ite (only_mono (modRail_only s r _)) (only_then (l := [.rails]) (modRail_only s r _) (rampAgain_only _ 0 r))

theorem toBrake_only (r : Nat) : Only [.rails, .phases, .cup, .capt, .msgs] s (toBrake r s) := by
  unfold toBrake
  refine only_then (l := [.rails, .phases, .cup, .capt, .msgs]) ?_ (event_only _ _ _)
  refine only_then (l := [.phases, .cup, .capt, .msgs]) ?_ (modRail_only _ r _)
  exact only_then (m := [.phases]) (cupNow_only s r) (only_foldl (fun t p => modPh_only t p _) _)

theorem brakeExit_only (r : Nat) : Only [.rails, .phases] s (brakeExit r s) :=
  only_then (modRail_only s r _) (preloadStart_only _ r)

theorem toDrip_only (r : Nat) : Only [.rails, .phases] s (toDrip r s) :=
  only_then (l := [.phases]) (only_foldl (fun t p => modPh_only t p _) _) (modRail_only _ r _)

theorem acceptStart_only (host : Bool) (group r : Nat) : Only [.rails] s (acceptStart host group r s) := modRail_only s r _

theorem stopCmd_only (r : Nat) : Only stopParts s (stopCmd r s) := by
  unfold stopCmd
  split
  · exact only_mono (modRail_only s r _)
  · exact only_refl
  · exact only_refl
  · exact only_then (l := [.rails]) (m := stopParts) (modRail_only s r _) (only_ite only_refl (toOff_only _ r))
  · exact only_mono (modRail_only s r _)

theorem clrCmd_only (r : Nat) : Only stopParts s (clrCmd r s) := only_then (toOff_only s r) (modRail_only _ r _)

theorem leaveActive_only : Only [.rails, .doms, .cup, .capt, .msgs] s (leaveActive s) := by
  unfold leaveActive
  refine only_then (l := [.rails, .doms]) (m := [.cup, .capt, .msgs]) ?_ (only_ite (endNow_only _) only_refl)
  exact only_then (l := [.rails]) (m := [.doms]) (only_loop (fun t r => modRail_only t r _) 16)
    (only_loop (fun t k => modDom_only t k _) 4)

/-! ### Nv.lean -/

theorem progByte_only (a v : Nat) : Only [.nv] s (progByte a v s) := upd_nv s _
theorem putByte_only (a : Nat) (v : Byte) : Only [.nv] s (putByte a v s) := upd_nv s _
theorem progBytes_only (l : List (Nat × Nat)) : Only [.nv] s (progBytes l s) := only_foldl (fun t _ => progByte_only t _ _) _
theorem eraseSector_only (n : Nat) : Only [.nv] s (eraseSector n s) := upd_nv s _
theorem spoilSector_only (f : Nat → Byte) (n : Nat) : Only [.nv] s (spoilSector f n s) :=
  only_foldl (fun t _ => putByte_only t _ _) _
theorem cutErase_only (f : Nat → Byte) (n : Nat) : Only [.nv] s (cutErase f n s) :=
  only_ite (spoilSector_only s f n) (only_then (spoilSector_only s f n) (putByte_only _ _ _))
theorem nvQueue_only (o : NvOp) : Only [.nv] s (nvQueue o s) := upd_nv s _
theorem queueBases_only : Only [.nv] s (queueBases s) := only_ite (nvQueue_only s _) only_refl
theorem tallyAdd_only (n k : Nat) : Only [.nv] s (tallyAdd n k s) := upd_nv s _

theorem nvCut_only : Only [.nv] s (nvCut s) := by
  unfold nvCut
  split
  · exact only_refl
  · refine only_trans (upd_nv s { s.nv with cur := none }) (only_ite (cutErase_only _ _ _) ?_)
    unfold nvPartial
    simp only
    split
    · exact progBytes_only _ _
    · exact only_trans (progBytes_only _ _) (putByte_only _ _ _)

theorem handFault_only (msg cls : Nat) (capped : Bool) (rail : Option Nat) (before : State) :
    Only [.nv, .msgs, .log] s (handFault msg cls capped rail before s) := by
  unfold handFault
  refine only_ite ?_ ?_
  · refine only_then (l := [.log]) ?_ (event_only _ _ _)
    exact ⟨rfl, fun q hq => by cases q <;> first | rfl | simp at hq⟩
  · refine only_mono (l := [.nv]) ?_
    exact only_trans (only_trans (queueBases_only s) (upd_nv _ _)) (nvQueue_only _ _)

/-! ### Fault.lean: no message moves the converters, the ports, the stage bus or the gang unit -/

/-- What a class action may move. -/
abbrev actParts : List Part := [.bank, .dev, .msgs, .stand, .log, .phases, .rails, .doms, .eng, .cup, .capt, .perf, .twin]

theorem upd_safe (x : Bool) : Only [.log] s { s with fc := { s.fc with safe := x } } :=
  ⟨rfl, fun q hq => by cases q <;> first | rfl | simp at hq⟩

theorem endForming_only : Only [.twin] s (endForming s) := only_ite (upd_twin s _) only_refl

theorem safeAction_only (src addr : Nat) : Only actParts s (safeAction src addr s) := by
  unfold safeAction
  refine only_ite only_refl (only_ite (only_then (l := [.log]) (upd_safe s true) (setEvt_only _ _ _)) ?_)
  refine only_then (l := actParts) ?_ (setEvt_only _ _ _)
  refine only_then (l := actParts) ?_ (endForming_only _)
  refine only_then (l := actParts) (m := stopParts) ?_ (only_foldl (fun t r => toFaulted_only t _ _ r) _)
  refine only_then (l := [.dev, .log, .phases]) ?_ (leaveActive_only _)
  refine only_then (m := [.dev, .log]) (freezeAll_only s) ?_
  exact ⟨rfl, fun q hq => by cases q <;> first | rfl | simp at hq⟩

theorem lockPages_only : Only [.bank] s (lockPages s) := only_loop (fun t _ => setReg_only t _ _) 0x72

theorem enterLocked_only : Only actParts s (enterLocked s) := by
  unfold enterLocked
  extract_lets t
  have h : Only stopParts s t := only_loop (fun t r => toLocked_only t r) 16
  clear_value t
  refine only_then (l := actParts) ?_ (lockPages_only _)
  refine only_then (l := actParts) (only_then (m := [.dev, .log]) h ?_) (endForming_only _)
  exact ⟨rfl, fun q hq => by cases q <;> first | rfl | simp at hq⟩

theorem lockAction_only (src addr : Nat) : Only actParts s (lockAction src addr s) := by
  unfold lockAction
  refine only_trans (safeAction_only s src addr) (only_ite (only_mono (l := [.log]) ?_) (enterLocked_only _))
  exact ⟨rfl, fun q hq => by cases q <;> first | rfl | simp at hq⟩

theorem class2_only (src addr : Nat) : Only actParts s (class2 src addr s) := by
  unfold class2
  refine only_ite (only_ite (only_mono (failPhase_only s addr)) only_refl) ?_
  refine only_ite (only_ite only_refl (only_ite (only_mono (modPh_only s addr _))
    (only_then (failPhase_only s addr) (event_only _ _ _)))) ?_
  refine only_ite (only_ite (only_mono (modGen_only s addr _)) only_refl) ?_
  exact only_ite (only_ite (only_mono (startDerate_only s addr)) only_refl) only_refl

theorem classAction_only (app src addr : Nat) (hit : List Nat) : Only actParts s (classAction app src addr hit s) := by
  unfold classAction
  refine only_ite (only_ite only_refl (class2_only s src addr)) ?_
  refine only_ite (only_ite only_refl (only_mono (only_foldl (fun t r => toFaulted_only t _ _ r) hit))) ?_
  exact only_ite (safeAction_only s src addr) (only_ite (only_ite only_refl (lockAction_only s src addr)) only_refl)

theorem captureCheck_only (cls : Nat) (hi lo ts : Word) : Only [.log, .bank] s (captureCheck cls hi lo ts s) := by
  unfold captureCheck
  refine only_ite only_refl (only_ite (only_mono (l := [.log]) ?_) (only_then (l := [.log]) ?_ (setEvt_only _ _ _)))
  · exact ⟨rfl, fun q hq => by cases q <;> first | rfl | simp at hq⟩
  · exact ⟨rfl, fun q hq => by cases q <;> first | rfl | simp at hq⟩

/-- What the acceptance of a message may move: not the ports, converters, latches of the trip inputs, stage bus, gang unit. -/
abbrev acceptParts : List Part :=
  [.bank, .dev, .msgs, .stand, .log, .phases, .rails, .doms, .eng, .cup, .capt, .perf, .nv, .twin]

theorem accept_only (m : Msg) : Only acceptParts s (accept m s) := by
  unfold accept
  extract_lets -merge cls seq capped hit app0 app hi lo ts old x0 s1 x1 s2 s3 s4 s5 s6 s7 s8 x2 s9 s10
  have h1 : Only acceptParts s s1 := only_mono (l := [.log]) ⟨rfl, fun q hq => by cases q <;> first | rfl | simp at hq⟩
  have h2 : Only acceptParts s s2 := only_then (m := [.capt]) h1 (only_ite (upd_capt _ _) only_refl)
  have h3 : Only acceptParts s s3 := only_then h2 (perf_only _ _ _ _)
  have h4 : Only acceptParts s s4 := only_then h3 (setReg_only _ _ _)
  have h5 : Only acceptParts s s5 := only_then h4 (captureCheck_only _ _ _ _ _)
  have h6 : Only acceptParts s s6 := only_then h5 (setEvt_only _ _ _)
  have h7 : Only acceptParts s s7 := by
    refine only_then (m := [.bank]) h6 ?_
    show Only [.bank] s6 (match evtPlace m.src m.addr with | some (p, b) => setEvt p (2 ^ b) s6 | none => s6)
    split
    · exact setEvt_only _ _ _
    · exact only_refl
  have h8 : Only acceptParts s s8 := only_then h7 (tallyAdd_only _ _ _)
  have h9 : Only acceptParts s s9 := only_then h8 (upd_twin _ _)
  have h10 : Only acceptParts s s10 := only_then h9 (classAction_only _ _ _ _ _)
  clear_value s10 s9 s8 s7 s6 s5 s4 s3 s2
  refine only_ite h2 (only_ite h5 (only_ite (only_then h7 (classAction_only _ _ _ _ _)) ?_))
  exact only_then h10 (handFault_only _ _ _ _ _ _)

theorem faultAccept_only : Only acceptParts s (faultAccept s) := by
  unfold faultAccept
  refine only_ite only_refl ?_
  split
  · exact only_refl
  · exact only_then (upd_msgs s _) (accept_only _ _)

/-! ### Write.lean: accesses of a host -/

theorem store_only (h a : Nat) (w : Word) : Only [.bank] s (store h a w s) := by
  unfold store
  simp only
  split
  · exact setReg_only _ _ _
  · exact clrEvt_only _ _ _
  · exact setReg_only _ _ _
  · exact only_refl
  · exact setReg_only _ _ _
  · exact setReg_only _ _ _
  · refine only_ite (setReg_only _ _ _) ?_
    split
    · exact setReg_only _ _ _
    · exact only_refl

theorem reject_only (h a code : Nat) : Only [.bank, .ports, .msgs, .perf] s (reject h a code s) := by
  unfold reject
  refine only_then (l := [.bank, .ports, .msgs]) ?_ (perf_only _ _ _ _)
  refine only_then (l := [.bank, .ports]) ?_ (event_only _ _ _)
  exact only_then (upd_ports s _) (setEvt_only _ _ _)

theorem clearCtrs_only (w : Word) : Only [.perf] s (clearCtrs w s) := modPerf_only s _
theorem skipNamed_only (a : Nat) (w : Word) : Only [.perf] s (skipNamed a w s) :=
  only_ite (modPerf_only s _) (only_ite (modPerf_only s _) only_refl)

/-- No counter runs, and the counters stand as in `s`. -/
def IdleAs (s t : State) : Prop := t.pg Pg.PERF Reg.PERF_RUN = 0 ∧ t.perf.ctr = s.perf.ctr ∧ t.perf.wrapped = s.perf.wrapped

theorem IdleAs.perf {s t : State} (e i n : Nat) (h : IdleAs s t) : IdleAs s (Machine.perf e i n t) := by
  unfold Machine.perf
  rw [if_pos h.1]
  exact h

/-- Taking lanes moves no counter (R140). -/
theorem serveLanes_ctr (s : State) (n : Nat) (x : Perf) (d : Nat) :
    (serveLanes s n x d).1.ctr = x.ctr ∧ (serveLanes s n x d).1.wrapped = x.wrapped := by
  have take : ∀ (x : Perf) q k, (x.take s q k).ctr = x.ctr ∧ (x.take s q k).wrapped = x.wrapped := fun x q k => by
    unfold Perf.take
    split <;> exact ⟨rfl, rfl⟩
  induction n generalizing x d with
  | zero => exact ⟨rfl, rfl⟩
  | succ n ih =>
    unfold serveLanes
    split
    · exact ⟨rfl, rfl⟩
    · split
      · exact ⟨(ih ..).1.trans (take ..).1, (ih ..).2.trans (take ..).2⟩
      · split
        · exact ⟨rfl, rfl⟩
        · exact ⟨(ih ..).1.trans (take ..).1, (ih ..).2.trans (take ..).2⟩

/-- A CKB cycle moves the engine's lanes, but no counter that does not run (R140, R398). -/
theorem IdleAs.cycle {s t : State} (c : Option (Fin 3)) (h : IdleAs s t) : IdleAs s (ckbCycle c t) := by
  have lane : ∀ u, IdleAs s u → IdleAs s (laneCycle u) := fun u hu => by
    unfold laneCycle
    extract_lets z y z' v w
    have hy : ∀ n x d, (serveLanes u n x d).1.ctr = x.ctr ∧ (serveLanes u n x d).1.wrapped = x.wrapped := serveLanes_ctr u
    have hv : IdleAs s v := ⟨hu.1, ((hy _ _ _).1.trans hu.2.1), ((hy _ _ _).2.trans hu.2.2)⟩
    have hw : IdleAs s w := by
      show IdleAs s (if _ then _ else _)
      split
      · exact hv
      · exact hv.perf ..
    clear_value w
    generalize List.filterMap _ _ = l
    induction l generalizing w with
    | nil => exact hw
    | cons k t ih => exact ih _ (hw.perf ..)
  unfold ckbCycle
  extract_lets k a b
  have ha : IdleAs s a := by
    show IdleAs s (if _ then _ else _)
    rw [if_pos h.1]
    exact h
  have hb : IdleAs s b := by
    show IdleAs s (loop _ _ a)
    unfold loop
    generalize List.range _ = l
    clear_value a
    induction l generalizing a with
    | nil => exact ha
    | cons k t ih => exact ih _ (lane a ha)
  exact hb

/-- With no counter running the counters hold while a command begins (R398). -/
theorem passed_idle (c : Option (Fin 3)) (n : Nat) (h : s.pg Pg.PERF Reg.PERF_RUN = 0) :
    (s.passed c n).ctr = s.perf.ctr ∧ (s.passed c n).wrapped = s.perf.wrapped := by
  have many : ∀ (l : List Nat) (t : State), IdleAs s t → IdleAs s (l.foldl (fun s _ => ckbCycle c s) t) := fun l => by
    induction l with
    | nil => exact fun _ ht => ht
    | cons k l ih => exact fun t ht => ih _ (ht.cycle c)
  unfold State.passed
  split
  · exact ⟨rfl, rfl⟩
  · split
    · exact (many _ s ⟨h, rfl, rfl⟩).2
    · exact ⟨rfl, rfl⟩

theorem readNoted_only (h : Fin 3) (a : Nat) : Only [.perf, .ports] s (readNoted h a s) :=
  only_then (perf_only s _ _ _) (upd_ports _ _)

theorem readEffect_only (h : Fin 3) (a : Nat) : Only [.bank] s (readEffect h a s) :=
  only_ite (setReg_only s _ _) (only_ite (setReg_only s _ _) (only_ite (setReg_only s _ _) only_refl))

/-- A read moves its port's records, performance counters, and one register; a rejected one raises HOST_REJECT (R376-R379). -/
theorem hostRead_only (h : Fin 3) (a : Nat) : Only [.bank, .ports, .msgs, .perf] s (hostRead h a s).1 := by
  unfold hostRead
  simp only
  split
  · exact only_then (readEffect_only s h a) (readNoted_only _ h a)
  · exact reject_only s h a _

theorem readCmd_only (h : Fin 3) (a : Nat) : Only [.bank, .ports, .msgs, .perf] s (readCmd h a s) :=
  only_ite (hostRead_only s h a) only_refl

/-! ### Rails and phases that an operation on one rail leaves alone -/

variable {s}

theorem modRail_other {r q : Nat} {f : Rail → Rail} (h : q ≠ r) : (s.modRail r f).rail q = s.rail q := rail_modRail_ne s r q f h

/-- Changing one rail after changing one rail. -/
theorem stopCommon_other {st : RailState} {r q : Nat} (h : q ≠ r) : (stopCommon st r s).rail q = s.rail q := by
  unfold stopCommon
  simp only [modRail_other h]
  have e1 : ∀ t, (endFollow r t).rail q = t.rail q := fun t =>
    (only_rail (setCond_only _ _ _ _) q).trans (modRail_other h)
  have e2 : ∀ t, (endXuv r t).rail q = t.rail q := fun t =>
    (only_rail (setCond_only _ _ _ _) q).trans (modRail_other h)
  have e3 : ∀ t, (endUv r t).rail q = t.rail q := fun t =>
    (only_rail (setCond_only _ _ _ _) q).trans (modRail_other h)
  have e4 : ∀ t, (switchBank r t).rail q = t.rail q := fun t => by
    unfold switchBank
    rw [only_rail (event_only _ _ _) q]
    refine (only_rail (l := [.cup]) (only_ite (cupAgain_only _) only_refl) q).trans ?_
    rw [modRail_other h]
    refine (only_rail (setReg_only _ _ _) q).trans ?_
    exact only_rail (l := [.bank]) (only_foldl (fun t o => setReg_only t _ _) coefOffs) q
  have e5 : ∀ t, (switchIfPending r t).rail q = t.rail q := fun t => by
    unfold switchIfPending
    split
    · rw [e4, modRail_other h]
    · rfl
  rw [e1, e2, e3, e5, only_rail (restRail_only _ _ r) q, only_rail (dropQueued_only _ r) q, only_rail (cupNow_only _ r) q]
  exact only_rail (l := [.msgs, .stand]) (only_ite (endPrecheck_only s r) only_refl) q

theorem toOff_other {r q : Nat} (h : q ≠ r) : (toOff r s).rail q = s.rail q := by
  unfold toOff
  rw [modRail_other h, stopCommon_other h]

theorem enterFaulted_other {src addr r q : Nat} (h : q ≠ r) : (enterFaulted src addr r s).rail q = s.rail q := by
  unfold enterFaulted
  simp only
  rw [modRail_other h, stopCommon_other h]

theorem toFaulted_other {src addr r q : Nat} (h : q ≠ r) : (toFaulted src addr r s).rail q = s.rail q := by
  unfold toFaulted
  split
  · rfl
  · rfl
  · exact modRail_other h
  · exact enterFaulted_other h

/-- A class 3 action takes a rail that runs to FAULTED (R182). -/
theorem enterFaulted_st {src addr r : Nat} (h : r < 16) : ((enterFaulted src addr r s).rail r).st = .faulted := by
  unfold enterFaulted
  rw [rail_modRail_same _ _ _ h]
  unfold stopCommon
  rw [rail_modRail_same _ _ _ h]

theorem toOff_st {r : Nat} (h : r < 16) : ((toOff r s).rail r).st = .off := by
  unfold toOff
  rw [rail_modRail_same _ _ _ h]
  unfold stopCommon
  rw [rail_modRail_same _ _ _ h]

/-! ### Messages and conditions exactly (R272-R276) -/

theorem raise_stopped {src kind addr : Nat} {inj real : Bool} (h : s.dev.clkStop = true) :
    raise src kind addr inj real s = s := by simp [raise, h]

/-- A merged message keeps its key and becomes real when the raise is. -/
theorem mergeRev_mem {clk src kind addr : Nat} {inj real : Bool} {l l' : List Msg} (h : mergeRev clk src kind addr inj real l = some l') :
    ∃ m ∈ l', m.src = src ∧ m.kind = kind ∧ m.addr = addr ∧ (real = true → m.real = true) := by
  induction l generalizing l' with
  | nil => simp [mergeRev] at h
  | cons a t ih =>
    simp only [mergeRev] at h
    split at h
    · next hk =>
      split at h
      · next hk' =>
        cases h
        exact ⟨_, List.mem_cons_self, hk.1, hk', hk.2, fun hr => by simp [hr]⟩
      · cases h
    · obtain ⟨l'', hl, rfl⟩ := Option.map_eq_some_iff.1 h
      obtain ⟨m, hm, hx⟩ := ih hl
      exact ⟨m, by simp [hm], hx⟩

/-- After a real raise its message waits (R271, R274). -/
theorem raise_waits {src kind addr : Nat} {inj : Bool} (h : s.dev.clkStop = false) :
    ∃ m ∈ (raise src kind addr inj true s).fc.pend, m.src = src ∧ m.kind = kind ∧ m.addr = addr ∧ m.real = true := by
  unfold raise
  rw [if_neg (by simp [h])]
  split
  · next l hl =>
    obtain ⟨m, hm, h1, h2, h3, h4⟩ := mergeRev_mem hl
    exact ⟨m, by simpa using hm, h1, h2, h3, h4 rfl⟩
  · exact ⟨⟨src, kind, addr, inj, true, false, s.clk, none⟩, by simp, rfl, rfl, rfl, rfl⟩

theorem setCond_on_stand {src addr : Nat} : (src, addr) ∈ (setCond src addr true s).fc.stand := by
  unfold setCond
  simp only [if_true]
  split
  · next h => simpa [standsAt] using h
  · simp

theorem setCond_off_stand {src addr : Nat} : (src, addr) ∉ (setCond src addr false s).fc.stand := by
  unfold setCond
  simp only [Bool.false_eq_true, if_false]
  split
  · simp
  · next h => simpa [standsAt] using h

/-- A condition that does not change raises nothing (R272). -/
theorem setCond_same {src addr : Nat} {on : Bool} (h : standsAt s src addr = on) : setCond src addr on s = s := by
  subst h
  unfold setCond
  split <;> simp_all

/-! ### The guards of a command -/

theorem clocked_runs {f : State → State} (h1 : s.dev.rst = false) (h2 : s.dev.clkStop = false) : clocked f s = f s := by
  simp [clocked, h1, h2]

theorem clocked_stopped {f : State → State} (h : s.dev.rst = true ∨ s.dev.clkStop = true) : clocked f s = s := by
  rcases h with h | h <;> simp [clocked, h]

theorem served_iff : served s = true ↔ s.dev.rst = false ∧ s.dev.clkStop = false ∧ s.dev.st ≠ .boot := by
  simp [served, and_assoc]

theorem writeCmd_accepted {h : Fin 3} {a : Nat} {w : Word} (hs : served s = true) (hc : writeCode s h a w = Err.OK) :
    writeCmd h a w s = acceptWrite h a w s := by simp [writeCmd, hostWrite, hs, hc]

theorem writeCmd_rejected {h : Fin 3} {a : Nat} {w : Word} (hs : served s = true) (hc : writeCode s h a w ≠ Err.OK) :
    writeCmd h a w s = reject h a (writeCode s h a w) s := by simp [writeCmd, hostWrite, hs, hc]

theorem readCmd_accepted {h : Fin 3} {a : Nat} (hs : served s = true) (hc : readCode s h a = Err.OK) :
    readCmd h a s = readNoted h a (readEffect h a s) := by simp [readCmd, hostRead, hs, hc]

theorem readCmd_rejected {h : Fin 3} {a : Nat} (hs : served s = true) (hc : readCode s h a ≠ Err.OK) :
    readCmd h a s = reject h a (readCode s h a) s := by simp [readCmd, hostRead, hs, hc]

end Sys2Proof.Machine
end

