-- ==== Sys2Proof/WellFormed.lean ====
section
/-! DEFINITION. WellFormed.lean: the shape of a command's operands where their type does not fix it: a list has the length the
spec gives it, a time lies inside its frame. A command that fails a check describes nothing the outside can do. -/

namespace Sys2Proof

/-- A correction item carries what R311 gives it: a stage block has eight mantissas, a ripple slice four entries. -/
def Corr.wf : Corr → Bool
  | .stage _ m => m.length == 8
  | .rtab es => es.length == 4
  | _ => true

/-- A deskmate frame has 4 duties, 16 rail states and at most 4 write slots (R306). -/
def LinkFrame.wf (f : LinkFrame) : Bool :=
  f.dutyd.length == 4 && f.rstate.length == 16 && decide (f.wr.length ≤ 4) && f.corr.wf

/-- A gang frame has four slots (R326). -/
def GangFrame.wf (f : GangFrame) : Bool := f.slots.length == 4

/-- The well-formed commands. -/
def Instr.wf : Instr → Bool
  | .frameTick abs cm _ trips _ wires => abs.length == 16 && cm.length == 16 && trips.length == 8 && decide (wires.length ≤ 4)
  | .controlConversionStart _ count => decide (count < 65536)
  | .offsetMeasurement _ codes => codes.length == 256
  | .gridzcEdge _ cnt high => decide (cnt < 400) && decide (0 < high)
  | .sppLoss _ levels => levels.all fun x => decide (0 < x.2)
  | .sppPeriodMeasured _ high rest => decide (0 < high) && rest.all fun x => decide (0 < x.2)
  | .tripAccept n (.pin _) => decide (n.val < 8)
  | .tripAccept n (.comp old vs) => decide (8 ≤ n.val) && decide (old ≤ vs.length)
  | .shortCheckResult _ nodes => nodes.all fun l => l.length == 256
  | .boundaryScan (.scan bits) => decide (0 < bits.length)
  | .deskmateFrameReceive f _ _ _ _ => f.wf
  | .gangFrameReceive f _ _ => f.wf
  | .spiFrameBegin _ _ hdr => decide (hdr.length ≤ 3)
  | .spiFrameEnd _ bits => decide (bits < 32)
  | .hpcTransferEnd bytes _ => decide (bytes < 4)
  | .hpcSclTimeout bytes => decide (bytes < 4)
  | _ => true

end Sys2Proof
end

