-- ==== Sys2Proof/Tests/Slice0.lean ====
section
/-! SUPPORT. Tests/Slice0.lean: the model's own tests. First small states; then the terms WellFormed refuses; then worked
examples of the spec, each with its file; then, for every statement of Certificates/Slice0/Obligations.lean with hypotheses,
a state and operands that meet them, clause by clause. -/

-- One declaration at a time: the package as one text would else hold too many threads at once.
set_option Elab.async false

namespace Sys2Proof.Tests

open Sys2Proof Sys2Proof.Machine

/-! ### Small states -/

/-- A device in IDLE out of reset, with every register at its reset value. -/
def idle : State :=
  { State.reset with cyc := 7, dev := { State.reset.dev with st := .idle, rst := false, pllUp := true, fresh := false, alive := .low, frame := 8 } }

/-- The same in ACTIVE, LOCKED, SAFE, and in BOOT before its end. -/
def active : State := { idle with dev := { idle.dev with st := .active } }
def lockedDev : State := { idle with dev := { idle.dev with st := .locked }, fc := { idle.fc with safe := true, locked := true } }
def safeDev : State := { idle with dev := { idle.dev with st := .safe }, fc := { idle.fc with safe := true } }
def booting : State := { idle with dev := { idle.dev with st := .boot } }

/-- A state with registers written. -/
def withRegs (l : List (Nat × Word)) (s : State) : State := l.foldl (fun s x => s.setReg x.1 x.2) s

/-- The state after a command. -/
def outOf (c : Instr) (s : State) : State :=
  match exec c s with
  | .next t => t
  | _ => s

/-- Phase 5 enabled on rail 3, everything in OFF. -/
def ready : State := withRegs [(0x2508, 3), (0x2518, 1)] active

/-- Rail 3 in a state, its phase ACTIVE with a generator that counts. -/
def inState (x : RailState) : State :=
  (ready.modRail 3 fun y => { y with st := x, lead := some 5 }).modPh 5 fun y => { y with pst := .active, gen := { y.gen with going := true } }

/-- Rail 3, phase 5 changed. -/
def onRail (f : Rail → Rail) : State := ready.modRail 3 f
def onPhase (f : Phase → Phase) : State := ready.modPh 5 f

/-- The state at a later frame. -/
def atFrame (n : Nat) (s : State) : State := { s with dev := { s.dev with frame := n } }

/-- A device of a pair. -/
def twinDev (d : DevState) (p : TwinPst) (f : Twin → Twin) : State :=
  withRegs [(0x0908, 0x80FF0000)] { idle with dev := { idle.dev with st := d }, twin := f { idle.twin with pst := p } }
def pairedDev : State := twinDev .active .primary fun t => { t with hbPrev := some 0, diffRun := 1, sameRun := 1, digAge := 1000 }

/-- A deskmate frame of a SOLO device in ACTIVE with every rail in OFF. -/
def frame0 : LinkFrame :=
  ⟨false, 0, 0, false, 3, 0, 0, [0, 0, 0, 0], false, false, 2, false, false, 0, 0, List.replicate 16 0, 0, [], .nothing⟩

/-- A gang follower whose slot 0 is rail 3 in REGULATE. -/
def gangFollower : State := withRegs [(0x7108, 0xC0000004), (0x7109, 0x83000000)] (inState .regulate)

/-- A device whose stage bus is enabled. -/
def sbDev (f : Sb → Sb) : State := withRegs [(0x0808, 0xA3030000)] { idle with sb := f idle.sb }

/-- HOSTB's port in a write frame whose earlier words left a code; the two-wire port in a writing transfer. -/
def spiDev (code : Nat) : State :=
  { idle with ports := { idle.ports with spi := [Spi.init, { Spi.init with sel := true, serve := true, hdr := [0x02, 0x25, 0x1B], code := code }] } }
def hpcDev (f : Hpc → Hpc) : State :=
  { idle with ports := { idle.ports with hpc := f { Hpc.init with busy := true, serve := true, ptr := 0x09, bytes := [0x20, 0x09] } } }

/-- RAIL3 with 24 phases, PH0 to PH23. -/
def crowded : State := withRegs ((List.range 24).map fun q => ((0x20 + q) * 256 + 8, 3)) idle

/-- Rail 3 in a state and changed, an update of a context waiting. -/
def serving (c : Nat) (x : RailState) (f : Rail → Rail) : State :=
  { (inState x).modRail 3 f with eng := { idle.eng with queue := [⟨c, 0⟩] } }

/-- Phase 5 with both dead times adapted. -/
def adapted : State :=
  (withRegs [(0x2521, 0xC0000000), (0x251F, 0x00640064), (0x2520, 0x3FFF3FFF)] (atFrame 10 (inState .regulate))).modGen 5 fun g =>
    { g with adH := true, adL := true, dth := 640, dtl := 640, dthNow := 640, dtlNow := 640, dtMin := 0x00640064, dtMax := 0x3FFF3FFF, dtCfg := 0xC0000000
             hpin := .pulse (some 640) (some 128000), lpin := .pulse (some 128640) none, whole := true }

/-- A device in step 1 of BOOT. -/
def stepOne : State :=
  { State.reset with dev := { State.reset.dev with rst := false, clkStop := true, step1 := some ⟨false, false, false⟩ } }

/-- Every counter has an unflagged wrap. -/
def wrapped : State := { idle with perf := { idle.perf with wrapped := List.replicate 32 true } }
theorem begin_wrapped (s : State) (h : s.pg Pg.PERF Reg.PERF_RUN = 0) (q : s.eng.queue.isEmpty = true) :
    s.begin.perf.wrapped = s.perf.wrapped := by
  show (State.passed s none (State.gap s none none false)).wrapped = _
  unfold State.passed
  simp only [h, q, if_true]
  split <;> rfl
/-! ### WellFormed refuses an ill-formed term of each check -/

theorem wf_frame_tick : (Instr.frameTick [] [] .low [] false).wf = false := by decide
theorem wf_conversion_start : (Instr.controlConversionStart 0 65536).wf = false := by decide
theorem wf_offset_measurement : (Instr.offsetMeasurement 0 [0]).wf = false := by decide
theorem wf_grid_edge : (Instr.gridzcEdge 0 400).wf = false := by decide
theorem wf_pulse_period : (Instr.sppPeriodMeasured 0 1 [(false, 0)]).wf = false := by decide
theorem wf_trip_wave : (Instr.tripAccept 8 (.pin [])).wf = false ∧ (Instr.tripAccept 7 (.comp 0 [])).wf = false ∧
    (Instr.tripAccept 8 (.comp 1 [])).wf = false := by decide
theorem wf_short_check : (Instr.shortCheckResult 0 [[]]).wf = false := by decide
theorem wf_boundary_scan : (Instr.boundaryScan (.scan [])).wf = false := by decide
theorem wf_link_frame : (Instr.deskmateFrameReceive { frame0 with dutyd := [] } true true 0).wf = false ∧
    (Instr.deskmateFrameReceive { frame0 with rstate := [] } true true 0).wf = false ∧
    (Instr.deskmateFrameReceive { frame0 with wr := List.replicate 5 (0, 0) } true true 0).wf = false ∧
    (Instr.deskmateFrameReceive { frame0 with corr := .stage 0 [] } true true 0).wf = false ∧
    (Instr.deskmateFrameReceive { frame0 with corr := .rtab [] } true true 0).wf = false := by decide
theorem wf_gang_frame : (Instr.gangFrameReceive ⟨false, 0, []⟩ true 0).wf = false := by decide
theorem wf_spi_header : (Instr.spiFrameBegin 0 false [0, 0, 0, 0]).wf = false := by decide
theorem wf_spi_bits : (Instr.spiFrameEnd 0 32).wf = false := by decide
theorem wf_two_wire_end : (Instr.hpcTransferEnd 4 false).wf = false ∧ (Instr.hpcSclTimeout 4).wf = false := by decide
theorem wf_accepts : (Instr.deskmateFrameReceive frame0 true true 0).wf = true ∧ (Instr.devGo 0).wf = true := by decide

/-! ### Worked examples of the spec -/

/-- Register `o` of rail `r`, of phase `p`. -/
def rg (r o : Nat) : Nat := (0x10 + r) * 256 + o
def pg_ (p o : Nat) : Nat := (0x20 + p) * 256 + o

/-- RAIL5 of the reference design with PH24 to PH29 at 100 kHz (R8 to R42). -/
def rail5 : State :=
  withRegs ([24, 25, 26, 27, 28, 29].flatMap (fun p => [(pg_ p 8, (5 : Word)), (pg_ p 9, 5000), (pg_ p 0x0A, 0x51EBBB),
    (pg_ p 0x18, 0x04000001), (pg_ p 0x1C, 0x06000400)]) ++ [(rg 5 6, 4), (rg 5 8, 0x3F04), (rg 5 0x0C, 0x400001),
    (rg 5 0x0D, 30000), (rg 5 0x10, 0x010F0F80)]) active

/-- The same in REGULATE at 1.0 pu. -/
def rail5On : State :=
  [24, 25, 26, 27, 28, 29].foldl (fun s p => s.modPh p fun y => { y with pst := .active, gen := { y.gen with going := true } })
    (atFrame 20 rail5 |>.modRail 5 fun x => { x with st := .regulate, lead := some 24, vdac := 0xA000, ref := 0x4000 * 65536, target := 0x4000 })

/-- Codes of R47's table. -/
theorem test_bf24_values : bf 0x400001 = 1 ∧ bf 0x600000 = 3 / 4 ∧ bf 0x800000 = -1 ∧ bf 0x00003F = 0 := by decide +kernel
theorem test_bf24_codes : [toBF (8 / 10), toBF (5 / 100), toBF (2 / 100), toBF (-1), toBF (-5000001 / 10000000)] =
    [0x666680, 0x6666BC, 0x51EBBB, 0x800000, 0x80003F] := by decide +kernel

/-- The renormalised block of file 02. -/
theorem test_renormalise : renorm [⟨44040192, 3⟩, ⟨-10485761, 3⟩] = ⟨4, [22020096, -5242881, 0, 0, 0, 0, 0, 0]⟩ := by decide +kernel

/-- File 03: the time HOSTB reads, and CLK_STS and CLK_LASTLOSS after the clock loss. -/
def timed (n : Nat) : State := withRegs [(0x0106, 4)] { active with dev := { active.dev with frame := n } }
theorem test_read_time : readReg (timed 97235663936) 1 0x010A = 0xA3B27C40 ∧ readReg (timed 97235663936) 1 0x010C = 0x17BD3 ∧
    readReg (outOf (.clkFrameLoRead 1) (timed 97235663936)) 1 0x010B = 0x16 := by decide
theorem test_clock_loss_and_return : readReg (outOf .pllRelock (outOf .referenceLoss (timed 97235664336))) 0 0x0108 = 0x89 ∧
    readReg (outOf .pllRelock (outOf .referenceLoss (timed 97235664336))) 0 0x010D = 0xA3B27DD0 := by decide

/-- File 04: VLOOP of sixteen conversions at code +46, PH24's sample target, and its current. -/
theorem test_window_code_511_is_outside : ((outOf (.windowConversion 5 511) rail5On).rail 5).oow = true ∧
    ((outOf (.windowConversion 5 510) rail5On).rail 5).oow = false := by decide +kernel
theorem test_voltage_measurement :
    ((outOf (.voltageMeasurementEnd 5) (rail5On.modRail 5 fun x =>
      { x with win := List.replicate 16 ⟨false, winVolts 0xA000 46, 0⟩ })).rail 5).vloop = 0x402F := by decide +kernel
theorem test_sample_target :
    sampleTargetOf { Phase.init with smode := 1, gen := { Gen.init with curCmp := 182864 } } = some 3428 := by decide
theorem test_phase_current :
    ((outOf (.controlConversionEnd 24 1472) (rail5On.modPh 24 fun x => { x with iofs := -3, converting := true })).ph 24).isamp
      = 0x5C30 := by decide +kernel

/-- File 05: the offsets of six phases, PH24's edges, an omitted pulse, and PH40's writes. -/
theorem test_offsets_spread : [24, 25, 26, 27, 28, 29].map (fun p => ((respread 5 rail5On).ph p).newOfs) =
    [some 0, some 0x29B, some 0x535, some 0x7D0, some 0xA6B, some 0xD05] := by decide +kernel
def ph24 (c : Nat) : State :=
  outOf (.periodBoundary 24 [] []) (rail5On.modGen 24 fun g =>
    { g with dth := 1536, dtl := 1024, dlok := true, lpin := .pulse none none, eset := some ⟨4000, c, 1536, 1024, 0⟩ })
theorem test_edges_of_a_period : pins (ph24 182864) 24 = (.pulse (some 1536) (some 182864), .pulse (some 183888) none) := by
  decide +kernel
theorem test_short_pulse_is_omitted : (pins (ph24 1791) 24).1 = .low ∧ (pins (ph24 1792) 24).1 ≠ .low := by decide +kernel
def ph40 : State := withRegs [(pg_ 40 6, 0x30), (pg_ 40 0x18, 0x04000001), (pg_ 40 0x1B, 0xFA00)] active
theorem test_manual_period_below_compare : writeCode ph40 2 (pg_ 40 0x1A) 0x320 = Err.RANGE ∧
    writeCode ph40 2 (pg_ 40 0x1B) 0x7D00 = Err.OK := by decide
theorem test_shadow_busy_while_load_pends :
    writeCode (ph40.modGen 40 fun g => { g with ldpend := true, going := true }) 2 (pg_ 40 0x1C) 0x04000400 = Err.BUSY := by decide
theorem test_trip_clear_of_an_active_input :
    writeCode { rail5On with tripLatch := 0x20, tripRaw := 0x20 } 0 0x0F3A 0x20 = Err.TRIP_ACTIVE := by decide

/-- File 06: one voltage update of RAIL5 after the load step, without the gain table: 21 × 0.0351563 + 0.6 and the biquad. -/
def comp5 (l : List (Nat × Word)) (s : State) : State := l.foldl (fun s x => s.setReg (bankKey (0x5500 + x.1)) x.2) s
def loop5 : State :=
  comp5 [(0x10, 0x31), (0x11, 0x540005), (0x12, 0x6C177B), (0x16, 0x60000000), (0x17, 3), (0x18, 0x40003E), (0x19, 0x40003E),
    (0x1B, 0xA00000)] { (rail5On.setCtx 5 [⟨0, [20132659, 0, 0, 0, 0, 0, 0, 0]⟩, ⟨0, [20132659, 0, 20132659, 0, 0, 0, 0, 0]⟩,
      Block.init, Block.init, Block.init, Block.init]).modRail 5 (fun x => { x with vloop := 0x3DC0, uRef := 0x4000, hi := 3 / 2, lo := 0 }) with
      eng := { (rail5On.setCtx 5 [⟨0, [20132659, 0, 0, 0, 0, 0, 0, 0]⟩, ⟨0, [20132659, 0, 20132659, 0, 0, 0, 0, 0]⟩,
        Block.init, Block.init, Block.init, Block.init]).eng with queue := [⟨5, 0⟩] } }
theorem test_stage_costs : (outOf (.engineUpdate 21 false) loop5).eng.macs = 9 := by decide +kernel
theorem test_integrator_of_a_pi : (blocksOf (outOf (.engineUpdate 21 false) loop5) 5).head? =
    some ⟨0, [20163789, 0, 0, 0, 0, 0, 0, 0]⟩ := by decide +kernel

/-- File 08: T[70] after one learning step of 1.6 codes, and the accumulator's step at 50 Hz. -/
def rail4 : State :=
  let s := (withRegs [(0x6488, 0x80040000), (0x6400 + Reg.RTAB_MU, 0x6666BC), (0x6400 + Reg.RTAB_BND, 0x0666F99A),
    (0x6400 + Reg.RTAB_LCTL, 1), (0x642B, 0x212)] active).modRail 4 fun x =>
      { x with st := .regulate, w := 160000, vloop := 0x3CAD, ref := 0x3CCD * 65536, target := 0x3CCD, uAng := 0x4A37 }
  { s with grid := { s.grid with acc := 0x4A37 * 16777216, lock := true } }
theorem test_learning_step : tabIndex rail4 4 = 74 ∧ tabEntry (learnStep 4 0x20 rail4) 4 70 = 530 * 256 + 410 ∧
    (learnStep 4 0x20 rail4).reg 0x642B = 0x214 := by decide +kernel
theorem test_grid_edge_bounds :
    let s : State := { idle with grid := { idle.grid with ref := some 0 } }
    (outOf (.gridzcEdge 14285 285) s).grid.rej = 1 ∧ (outOf (.gridzcEdge 14285 286) s).grid.valid = true ∧
      (outOf (.gridzcEdge 25000 0) s).grid.valid = true ∧ (outOf (.gridzcEdge 25000 1) s).grid.valid = false := by decide +kernel

/-- File 10: the threshold code of the short check of RAIL4. -/
theorem test_short_check_code :
    scCode (((withRegs [(rg 4 8, 0x0506), (rg 4 0x4F, 0x8A000666), (rg 4 0x50, 0x555541), (bankKey (0x5400 + Reg.RCOMP_FFK), 0x433341)]
      active).modRail 4 fun x => { x with vabs := 0x3852, vabsValid := true }).modRail 5 fun x =>
        { x with vabs := 0x3CF4, vabsValid := true }) 4 = 50 := by decide +kernel

/-- File 11: the margin and the crossover of the sweep of RAIL4, from points 4, 5, 7 and 8. -/
def swept : State := sweepResult { idle with cup := { idle.cup with pts :=
  [(sweepFreq idle 4, toBF (131 / 100), 0xA4FA), (sweepFreq idle 5, toBF (70 / 100), 0x9BBC),
   (sweepFreq idle 7, toBF (21 / 100), 0x8666), (sweepFreq idle 8, toBF (10 / 100), 0x749F)] } }
theorem test_sweep_margin : swept.cup.pm = 0x20FF ∧ (bf swept.cup.xo - 2563 / 10) ^ 2 < 1 / 100 := by decide +kernel

/-- File 12: PH_CBC may not have class 3, PH_OPEN may; the reset word of FCSEV_CLS6. -/
theorem test_class_ranges : writeCode idle 0 0x040E 0x32250 = Err.RANGE ∧ writeCode idle 0 0x040E 0x2350 = Err.OK ∧
    readReg idle 0 0x040E = 0x2250 := by decide
theorem test_accept_overvoltage_faults_the_rail :
    let s : State := { rail5On with fc := { rail5On.fc with pend := [⟨0x13, 1, 5, false, true, false, 5, none⟩], seq := 0x3A9 } }
    ((outOf .faultAccept s).rail 5).st = .faulted ∧ (outOf .faultAccept s).fc.seq = 0x3AA ∧
      (outOf .faultAccept s).reg 0x0320 = 0x80000 := by decide +kernel

/-- File 13: delay and frame offset of the alignment example. -/
theorem test_alignment_angle : linkDelay 3420 3100 = 3260 ∧ thetaOf 3420 3100 = 160 := by decide

/-- File 13: with err = +5 PH24's next three periods last 4002, 4002 and 4001 CNT. -/
theorem test_alignment_periods :
    let s0 : State := { atFrame 40 rail5On with twin := { rail5On.twin with phAdj := rail5On.twin.phAdj.set 24 5 } }
    let s1 := outOf (.periodBoundary 24 [] []) s0
    let s2 := outOf (.periodBoundary 24 [] []) s1
    let s3 := outOf (.periodBoundary 24 [] []) s2
    [s1, s2, s3].map (fun s => (s.ph 24).gen.curPer) = [4002, 4002, 4001] := by decide +kernel

/-- Check values of the two CRCs over the ASCII digits 1 to 9 (R335: 0x1021 from 0xFFFF; R369: CRC-8). -/
theorem test_crc16 : crc16 [0x31, 0x32, 0x33, 0x34, 0x35, 0x36, 0x37, 0x38, 0x39] = 0x29B1 := by decide +kernel
theorem test_crc8 : crc8 [0x31, 0x32, 0x33, 0x34, 0x35, 0x36, 0x37, 0x38, 0x39] = 0xF4 := by decide +kernel

/-- File 15: HOSTB's write is DENIED, and HOSTC's HPC transfers 1 to 3. -/
theorem test_denied_write :
    let s := outOf (.spiWord 1 0x4000) (outOf (.spiFrameBegin 1 false [0x00, 0x15, 0x20]) rail5On)
    readReg s 0 0x020B = 0x04011520 ∧ readReg s 0 0x0203 = 2 ∧ s.fc.pend.map (fun m => (m.src, m.addr)) = [(0x80, 0x404)] ∧
      (spiOf s 1).code = 4 := by decide
theorem test_two_wire_page_select :
    let s := outOf (.hpcRegisterWrite 0x48) (outOf (.hpcPointerSet 0xFF) ph40)
    s.ports.hpc.ptr = 0 ∧ hpcReg s = 0x4800 := by decide
theorem test_two_wire_reject :
    let s := outOf (.hpcRegisterWrite 0x320) (outOf (.hpcPointerSet 0x1A) (withRegs [(hostKey 2 0xFF, 0x48)] ph40))
    s.ports.hpc.ptr = 0x1A ∧ s.ports.hpc.nacked = true ∧ readReg s 0 0x020C = 0x0501481A := by decide

/-- File 16: the mailbox value at 85 °C and at −10 °C. -/
theorem test_mailbox_value : pollValue 0xC800610A [0x55, 0] = 0x2A80 ∧ c16 (pollValue 0xC800610A [0xF6, 0]) = 0xFB00 := by decide

/-- File 17: counter 1 counts the wraps of counter 0. -/
theorem test_chained_counters :
    let s := withRegs [(0x0508, 3), (0x0540, 0x11FF0000), (0x0541, 0x80000000)]
      { idle with perf := { idle.perf with ctr := List.replicate 32 0xFFFFFFFF } }
    (Sys2Proof.Machine.perf 0x11 0 2 s).perf.ctr.take 2 = [1, 0] := by decide +kernel

/-- File 19: the accesses that lock and unlock the DC-link page. -/
theorem test_page_id : readReg rail5On 1 0x1500 = 0x10050135 := by decide
theorem test_lock_sequence :
    let s := outOf (.pageLock 0 0x15) rail5On
    writeCode rail5On 1 0x1501 0x80000001 = Err.DENIED ∧ writeCode s 0 0x1508 0x1025 = Err.LOCKED ∧
      writeCode s 0 0x1520 0x14000 = Err.RANGE ∧ writeCode s 0 0x1520 0x4000 = Err.OK ∧ writeCode s 0 0x1501 1 = Err.SEQ := by decide

/-- File 01: PH36 joins RAIL5 only while the rail is in OFF. -/
theorem test_assign_a_phase : readReg (outOf (.phCfgWrite 0 36 5) rail5) 0 (rg 5 0x0A) = 0x07000010 ∧
    writeCode rail5On 0 (pg_ 36 8) 5 = Err.STATE := by decide

/-- File 18: DEV_STS after GO. -/
theorem test_go : fld (readReg (outOf (.devGo 0) idle) 0 0x0008) 2 0 = 2 := by decide

/-! ### Witnesses of the statements -/

theorem witness_step_takes_the_front :
    (∃ (s : State), (s.pending = [])) :=
  ⟨idle, by decide⟩

theorem witness_stores_stay_canonical :
    (∃ (s : State) (t : State), (s.StoresWf) ∧ (step s = .next t)) :=
  ⟨{ idle with pending := [.devGo 0] }, outOf (.devGo 0) idle, by decide, rfl⟩

theorem witness_only_a_power_cycle_leaves_locked :
    (∃ (c : Instr) (s : State) (t : State), (s.Locking) ∧ (c ≠ .powerOnReset true) ∧ (exec c s = .next t)) ∧
    (∃ (s : State) (t : State), (s.dev.st = .locked) ∧ (exec .resetn s = .next t)) ∧
    (∃ (s : State) (t : State), (s.dev.st = .locked) ∧ (exec .twinCommandedReset s = .next t)) ∧
    (∃ (h : Fin 3) (k : BitVec 8) (s : State) (t : State), (s.dev.st = .locked) ∧ (exec (.devSoftReset h k) s = .next t)) :=
  ⟨⟨.resetn, lockedDev, outOf .resetn lockedDev, by decide, by decide, rfl⟩,
     ⟨lockedDev, outOf .resetn lockedDev, by decide, rfl⟩,
     ⟨lockedDev, outOf .twinCommandedReset lockedDev, by decide, rfl⟩,
     ⟨0, 0x5A, lockedDev, outOf (.devSoftReset 0 0x5A) lockedDev, by decide, rfl⟩⟩

theorem witness_nothing_drives_outside_active :
    (∃ (s : State), (s.dev.rst = true ∨ s.dev.clkStop = true ∨ s.dev.st ≠ .active)) ∧
    (∃ (s : State), (s.dev.testen = true) ∧ (s.dev.tap = .extest ∨ s.dev.tap = .clamp)) ∧
    (∃ (s : State), (s.dev.testen = true) ∧ (s.dev.tap = .highz)) :=
  ⟨⟨idle, by decide⟩,
     ⟨{ active with dev := { active.dev with testen := true, tap := .extest } }, by decide⟩,
     ⟨{ active with dev := { active.dev with testen := true, tap := .highz } }, by decide⟩⟩

theorem witness_host_rows_are_accesses :
    (∃ (c : Instr) (h : Fin 3) (a : Nat) (w : Word), (c.asWrite = some (h, a, w))) :=
  ⟨.devGo 0, 0, 0x0009, 1, by decide⟩

theorem witness_rejected_write_is_only_recorded :
    (∃ (c : Instr) (h : Fin 3) (a : Nat) (w : Word) (e : Nat) (s : State), (c.asWrite = some (h, a, w)) ∧ (s.StoresWf) ∧
      (s.Works) ∧ (writeCode s h a w = e) ∧ (e ≠ Err.OK)) :=
  ⟨.devIdle 0, 0, 0x0009, 2, writeCode idle 0 0x0009 2, idle, by decide⟩

theorem witness_accepted_fields_read_as_written :
    (∃ (c : Instr) (h : Fin 3) (a : Nat) (w : Word) (row : RegRow) (s : State), (c.asWrite = some (h, a, w)) ∧
      (c.FieldsOnly s) ∧ (regRow a = some row) ∧ (s.StoresWf) ∧ (s.Takes h a w)) :=
  ⟨.phCmpWrite 0 5 0x64, 0, 0x251B, 0x64, (regRow 0x251B).getD ⟨0, 0, 0, 0, 0, 0, 0, 0, 0⟩, idle, rfl, trivial, rfl, by decide⟩

theorem witness_assignment_is_guarded :
    (∃ (h : Fin 3) (p : Fin 48) (w : Word) (s : State), (s.Takes h ((0x20 + p.val) * 256 + 0x08) w)) ∧
    (∃ (h : Fin 3) (p : Fin 48) (w : Word) (s : State), (s.StoresWf) ∧ (s.Asks h ((0x20 + p.val) * 256 + 0x08) w) ∧
      (fld w 4 0 < 16 ∨ fld w 4 0 = 31) ∧ (¬ s.MayAssign p (fld w 4 0)) ∧ (¬ s.FullFor p (fld w 4 0))) ∧
    (∃ (h : Fin 3) (p : Fin 48) (w : Word) (s : State), (s.StoresWf) ∧ (s.Asks h ((0x20 + p.val) * 256 + 0x08) w) ∧
      (s.MayAssign p (fld w 4 0)) ∧ (s.FullFor p (fld w 4 0))) ∧
    (∃ (h : Fin 3) (p : Fin 48) (w : Word) (s : State), (s.StoresWf) ∧ (s.Asks h ((0x20 + p.val) * 256 + 0x08) w) ∧
      (fld w 4 0 < 16 ∨ fld w 4 0 = 31) ∧ (s.MayAssign p (fld w 4 0)) ∧ (¬ s.FullFor p (fld w 4 0))) ∧
    (∃ (h : Fin 3) (p : Fin 48) (w : Word) (s : State), (s.StoresWf) ∧ (s.Works) ∧
      (writeCode s h ((0x20 + p.val) * 256 + 0x08) w ≠ Err.OK)) :=
  ⟨⟨0, 5, 0x3, idle, by decide⟩,
     ⟨0, 5, 0x4, ready, by decide⟩,
     ⟨0, 24, 0x3, crowded, by decide⟩,
     ⟨0, 5, 0x1F, withRegs [(0x2508, 3)] idle, by decide⟩,
     ⟨0, 5, 0x4, ready, by decide⟩⟩

theorem witness_acting_register_writes :
    (∃ (h : Fin 3) (p : Fin 48) (w : Word) (s : State), (s.StoresWf) ∧ (s.Takes h ((0x20 + p.val) * 256 + 0x08) w)) ∧
    (∃ (h : Fin 3) (r : Fin 16) (w : Word) (s : State), (s.StoresWf) ∧ (s.Takes h ((0x10 + r.val) * 256 + 0x08) w)) ∧
    (∃ (h : Fin 3) (p : Fin 48) (r : Nat) (w : Word) (s : State), (s.StoresWf) ∧
      (s.Takes h ((0x20 + p.val) * 256 + 0x1A) w) ∧ (railOf s p = some r) ∧ (outOfOff s r = true)) ∧
    (∃ (h : Fin 3) (r : Fin 16) (w : Word) (s : State), (s.StoresWf) ∧ (s.Takes h ((0x10 + r.val) * 256 + 0x10) w)) ∧
    (∃ (h : Fin 3) (r : Fin 16) (x : Bool) (w : Word) (s : State), (s.StoresWf) ∧
      (s.Takes h ((0x10 + r.val) * 256 + if x then 0x4A else 0x49) w)) ∧
    (∃ (h : Fin 3) (r : Fin 16) (w : Word) (s : State), (s.StoresWf) ∧ (s.Takes h ((0x10 + r.val) * 256 + 0x4C) w)) ∧
    (∃ (h : Fin 3) (w : Word) (s : State), (s.StoresWf) ∧ (s.Takes h 0x0908 w)) ∧
    (∃ (h : Fin 3) (a : BitVec 16) (w : Word) (s : State), (s.StoresWf) ∧ (a = 0x0C0E ∨ a = 0x0C0F) ∧ (s.Takes h a.toNat w)) ∧
    (∃ (h : Fin 3) (w : Word) (s : State), (s.StoresWf) ∧ (s.Takes h 0x7108 w)) ∧
    (∃ (h : Fin 3) (a : BitVec 16) (w : Word) (s : State), (s.StoresWf) ∧ (a = 0x0313 ∨ a.toNat % 256 = 4) ∧
      (s.Takes h a.toNat w)) ∧
    (∃ (h : Fin 3) (r : Fin 16) (a : BitVec 16) (w : Word) (row : RegRow) (s : State), (s.StoresWf) ∧
      ((a.toNat = (0x50 + r.val) * 256 + 0x08 ∧ bit w 0 = false) ∨ (a.toNat = (0x60 + r.val) * 256 + 0x89 ∧
      bit w 2 = false)) ∧ (regRow a.toNat = some row) ∧ (s.Takes h a.toNat w)) :=
  ⟨⟨0, 5, 0x3, idle, by decide⟩,
     ⟨0, 3, 0x3F04, idle, by decide⟩,
     ⟨0, 5, 3, 0xFA0, inState .regulate, by decide⟩,
     ⟨0, 3, (inState .regulate).reg 0x1310, inState .regulate, by decide⟩,
     ⟨0, 15, true, 0xFFFF0000, idle, by decide⟩,
     ⟨0, 15, 0, idle, by decide⟩,
     ⟨0, 0x00FF0100, twinDev .idle .forming id, by decide⟩,
     ⟨0, 0x0C0E, (idle.reg 0x0C0E), idle, by decide +kernel⟩,
     ⟨0, 4, withRegs [(0x7108, 0xC0000004)] idle, by decide⟩,
     ⟨0, 0x0313, 0x3F, idle, by decide⟩,
     ⟨0, 15, 0x6F89, 1, (regRow 0x6F89).getD ⟨0, 0, 0, 0, 0, 0, 0, 0, 0⟩, idle, by decide⟩⟩

theorem witness_page_register_writes :
    (∃ (h : Fin 3) (pg : BitVec 8) (w : Word) (s : State), (s.StoresWf) ∧ (s.Takes h (pg.toNat * 256 + 0x06) w)) ∧
    (∃ (h : Fin 3) (pg : BitVec 8) (w : Word) (s : State), (s.StoresWf) ∧ (s.Takes h (pg.toNat * 256 + 0xFF) w)) ∧
    (∃ (h : Fin 3) (pg : BitVec 8) (s : State), (s.StoresWf) ∧ (s.Takes h (pg.toNat * 256 + 0x01) 0x80000000)) ∧
    (∃ (h : Fin 3) (pg : BitVec 8) (s : State), (s.StoresWf) ∧ (s.Takes h (pg.toNat * 256 + 0x01) 0)) ∧
    (∃ (h : Fin 3) (pg : BitVec 8) (w : Word) (s : State), (s.StoresWf) ∧ (s.Takes h (pg.toNat * 256 + 0x03) w)) :=
  ⟨⟨0, 0x25, 0x37, idle, by decide⟩,
     ⟨1, 0x25, 0x13, idle, by decide⟩,
     ⟨0, 0x25, idle, by decide⟩,
     ⟨0, 0x25, idle, by decide⟩,
     ⟨0, 0x03, 1, idle, by decide⟩⟩

theorem witness_record_clears :
    (∃ (h : Fin 3) (k : Fin 8) (w : Word) (s : State), (s.StoresWf) ∧ (s.Takes h (0x0320 + k.val) w)) ∧
    (∃ (h : Fin 3) (w : Word) (s : State), (s.StoresWf) ∧ (s.Takes h 0x050A w)) ∧
    (∃ (h : Fin 3) (s : State), (s.StoresWf) ∧ (s.Takes h 0x030E 1)) ∧
    (∃ (h : Fin 3) (s : State), (s.StoresWf) ∧ (s.Takes h 0x020D 1)) ∧
    (∃ (h : Fin 3) (s : State), (s.StoresWf) ∧ (s.Takes h 0x0215 1)) ∧
    (∃ (h : Fin 3) (w : Word) (s : State), (s.StoresWf) ∧ (s.Takes h 0x0509 w)) :=
  ⟨⟨0, 7, 1, idle, by decide⟩,
     ⟨0, 0x80000000, idle, by decide⟩,
     ⟨0, idle, by decide⟩,
     ⟨2, idle, by decide⟩,
     ⟨0, idle, by decide⟩,
     ⟨0, 0x80000001, idle, by decide⟩⟩

theorem witness_device_state_commands :
    (∃ (h : Fin 3) (s : State), (s.StoresWf) ∧ (s.Takes h 0x0009 1)) ∧
    (∃ (h : Fin 3) (s : State), (s.StoresWf) ∧ (s.Takes h 0x0009 2)) ∧
    (∃ (h : Fin 3) (s : State), (s.StoresWf) ∧ (s.Takes h 0x030E 2)) :=
  ⟨⟨0, idle, by decide⟩,
     ⟨0, active, by decide⟩,
     ⟨0, safeDev, by decide⟩⟩

theorem witness_fault_injection :
    (∃ (h : Fin 3) (pg : BitVec 8) (w : Word) (ty : PType) (i : Nat) (b : Nat) (n : Nat) (s : State), (s.StoresWf) ∧
      (s.Takes h (pg.toNat * 256 + 0x05) w) ∧ (pageType pg.toNat = some (ty, i)) ∧ (forceBase ty = some (b, n))) :=
  ⟨0, 0x13, 0x8001, .rail, 3, 16, 32, idle, by decide⟩

theorem witness_phase_commands :
    (∃ (h : Fin 3) (p : Fin 48) (s : State), (s.StoresWf) ∧ (s.Takes h ((0x20 + p.val) * 256 + 0x1E) 1)) ∧
    (∃ (h : Fin 3) (p : Fin 48) (m : BitVec 8) (s : State), (s.StoresWf) ∧
      (s.Takes h ((0x20 + p.val) * 256 + 0x18) (BitVec.ofNat 32 (m.toNat * 16777216 + 1)))) ∧
    (∃ (h : Fin 3) (p : Fin 48) (m : BitVec 8) (s : State), (s.StoresWf) ∧
      (s.Takes h ((0x20 + p.val) * 256 + 0x18) (BitVec.ofNat 32 (m.toNat * 16777216)))) :=
  ⟨⟨0, 47, idle, by decide⟩,
     ⟨0, 47, 255, idle, by decide⟩,
     ⟨0, 47, 0, idle, by decide⟩⟩

theorem witness_trips_latch_and_clear :
    (∃ (n : Fin 24) (w : TripWave) (s : State), (s.Works) ∧ (bit (s.reg (0x0F08 + n.val)) 31 = true) ∧
      (tripFiltered s n (tripLevels s n w) = true)) ∧
    (∃ (n : Nat) (k : Nat) (s : State), (max 1 (fld (s.reg (0x0F08 + n)) 7 0) ≤ k)) ∧
    (∃ (n : Fin 24) (w : TripWave) (s : State), (tripFiltered s n (tripLevels s n w) = false)) ∧
    (∃ (h : Fin 3) (w : Word) (s : State), (s.StoresWf) ∧ (s.Takes h 0x0F3A w)) :=
  ⟨⟨7, .pin [.low, .high], withRegs [(0x0F0F, 0x80000000)] active, by decide⟩,
     ⟨7, 255, withRegs [(0x0F0F, 0x800000FF)] active, by decide⟩,
     ⟨7, .pin [], active, by decide⟩,
     ⟨0, 0x80, { active with tripLatch := 0x80 }, by decide⟩⟩

theorem witness_engine_halt_and_clears :
    (∃ (h : Fin 3) (s : State), (s.StoresWf) ∧ (s.Takes h 0x0E10 1) ∧ (s.eng.haltReq = false)) ∧
    (∃ (h : Fin 3) (s : State), (s.StoresWf) ∧ (s.Takes h 0x0E10 0) ∧ (s.eng.haltReq = true)) ∧
    (∃ (h : Fin 3) (s : State), (s.StoresWf) ∧ (s.Takes h 0x0E0F 4)) ∧
    (∃ (h : Fin 3) (s : State), (s.StoresWf) ∧ (s.Takes h 0x0E0F 2)) ∧
    (∃ (h : Fin 3) (s : State), (s.StoresWf) ∧ (s.Takes h 0x0E0F 1)) :=
  ⟨⟨0, active, by decide⟩,
     ⟨0, { idle with eng := { idle.eng with haltReq := true, halted := true } }, by decide⟩,
     ⟨0, idle, by decide⟩,
     ⟨0, idle, by decide⟩,
     ⟨0, idle, by decide⟩⟩

theorem witness_rail_commands :
    (∃ (h : Fin 3) (r : Fin 16) (s : State), (s.StoresWf) ∧ (s.Takes h ((0x10 + r.val) * 256 + 0x28) 1)) ∧
    (∃ (h : Fin 3) (r : Fin 16) (s : State), (s.StoresWf) ∧ (s.Takes h ((0x10 + r.val) * 256 + 0x28) 2)) ∧
    (∃ (h : Fin 3) (r : Fin 16) (s : State), (s.StoresWf) ∧ (s.Takes h ((0x10 + r.val) * 256 + 0x28) 4)) :=
  ⟨⟨0, 3, ready, by decide⟩,
     ⟨0, 3, inState .regulate, by decide⟩,
     ⟨0, 3, inState .faulted, by decide⟩⟩

theorem witness_domain_sequences :
    (∃ (h : Fin 3) (d : Fin 4) (s : State), (s.StoresWf) ∧ (s.Takes h 0x0710 (BitVec.ofNat 32 (2 ^ d.val))) ∧
      (takers s d ≠ [])) ∧
    (∃ (h : Fin 3) (d : Fin 4) (s : State), (s.StoresWf) ∧ (s.Takes h 0x0710 (BitVec.ofNat 32 (2 ^ (d.val + 4)))) ∧
      ((s.dom d).seq ≠ 2)) ∧
    (∃ (r : Fin 16) (s : State), (machinesRun s = true) ∧ ((s.dom (domOf s r)).seq = 1) ∧
      (r.val ∈ (s.dom (domOf s r)).todo) ∧ (rankOf s r = (s.dom (domOf s r)).rank) ∧
      (dlyOf s r * 10 ≤ (s.dom (domOf s r)).wait) ∧ (canStart s r = true)) ∧
    (∃ (r : Fin 16) (n : Nat) (s : State), (machinesRun s = true) ∧ ((s.dom (domOf s r)).seq = 2) ∧
      (r.val ∈ (s.dom (domOf s r)).todo) ∧ ((s.dom (domOf s r)).stopWait.getD r.val none = some n) ∧ (dlyOf s r * 10 ≤ n) ∧
      ((s.rail r).st.running = true) ∧ ((s.rail r).st ≠ .stopping)) ∧
    (∃ (d : Fin 4) (s : State) (r : Nat) (l : List Nat), (s.Runs) ∧ (machinesRun s = true) ∧ ((s.dom d).seq = 1) ∧
      (fld (s.reg 0x0711) 23 0 ≤ (s.dom d).age) ∧
      ((List.range 16).filter (fun r => ((s.dom d).issued.contains r || (s.dom d).todo.contains r) && rankOf s r == (s.dom d).rank) = r :: l)) ∧
    (∃ (d : Nat) (r : Nat) (todo : List Nat) (s : State), (r < 16) ∧ ((s.dom d).stopWait.getD r none = none) ∧ (r ∈ todo)) ∧
    (∃ (d : Nat) (r : Nat) (n : Nat) (s : State), (r < 16) ∧ ((s.dom d).stopWait.getD r none = some n)) :=
  ⟨⟨0, 3, withRegs [(0x1308, 0x3F30)] ready, by decide⟩,
     ⟨0, 0, inState .regulate, by decide⟩,
     ⟨3, ready.modDom 0 fun d => { d with seq := 1, todo := [3], rank := rankOf ready 3, wait := 2550 }, by decide⟩,
     ⟨3, 2550, (inState .regulate).modDom 0 fun d => { d with seq := 2, todo := [3], stopWait := List.replicate 16 (some 2550) }, by decide⟩,
     ⟨0, ready.modDom 0 fun d => { d with seq := 1, issued := [3], rank := rankOf ready 3, age := 16777216 }, 3, [], by decide⟩,
     ⟨0, 3, [3], ready, by decide⟩,
     ⟨0, 15, 1000000, ready.modDom 0 fun d => { d with stopWait := List.replicate 16 (some 1000000) }, by decide⟩⟩

theorem witness_banks_and_tables_are_written :
    (∃ (h : Fin 3) (r : Fin 16) (luten : Bool) (s : State), (s.StoresWf) ∧
      (s.Takes h ((0x50 + r.val) * 256 + 0x08) (if luten then 3 else 1)) ∧ ((s.rail r).pend = false) ∧
      ((s.rail r).st.running = false)) ∧
    (∃ (h : Fin 3) (r : Fin 16) (luten : Bool) (s : State), (s.StoresWf) ∧
      (s.Takes h ((0x50 + r.val) * 256 + 0x08) (if luten then 3 else 1)) ∧ ((s.rail r).pend = false) ∧
      ((s.rail r).st.running = true)) ∧
    (∃ (r : Fin 16) (s : State), (s.StoresWf) ∧ (s.Runs) ∧ (s.eng.haltReq = false) ∧ ((s.rail r).pend = true) ∧
      ((s.rail r).copying = false) ∧ (s.eng.queue.any (fun q => q.ctx == r.val) = true)) ∧
    (∃ (r : Fin 16) (s : State), (s.StoresWf) ∧ (s.Runs) ∧ ((s.rail r).copying = true)) ∧
    (∃ (h : Fin 3) (r : Fin 16) (j : Fin 128) (w : Word) (s : State), (s.StoresWf) ∧
      (s.Takes h ((0x60 + r.val) * 256 + 0x08 + j.val) w)) ∧
    (∃ (h : Fin 3) (r : Fin 16) (freeze : Bool) (learn : Bool) (s : State), (s.StoresWf) ∧
      (s.Takes h ((0x60 + r.val) * 256 + 0x89) (BitVec.ofNat 32 (4 + 2 * freeze.toNat + learn.toNat)))) :=
  ⟨⟨0, 15, false, idle, by decide⟩,
     ⟨0, 3, false, inState .regulate, by decide⟩,
     ⟨3, { (inState .regulate).modRail 3 fun x => { x with pend := true } with eng := { idle.eng with queue := [⟨3, 0⟩] } }, by decide⟩,
     ⟨3, onRail fun x => { x with copying := true }, by decide⟩,
     ⟨0, 15, 127, 0x7FFF8000, idle, by decide⟩,
     ⟨0, 15, true, false, idle, by decide⟩⟩

theorem witness_stages_keep_their_laws :
    (∃ (g : Stg), (g.ty = 0)) ∧
    (∃ (g : Stg), (g.ty = 1)) ∧
    (∃ (g : Stg), (g.ty = 2)) ∧
    (∃ (g : Stg), (g.ty = 3)) ∧
    (∃ (x : Sig), (x.m.natAbs ≤ 134217728)) ∧
    (∃ (x : Sig) (y : Sig) (k : Word) (l : Word), (x.m.natAbs ≤ 134217728) ∧ (y.m.natAbs ≤ 134217728) ∧ ((prod x k).1 ≠ 0) ∧
      ((prod y l).1 ≠ 0) ∧ ((prod x k).2 = (prod y l).2)) ∧
    (∃ (m : Int) (e : Int), (m.natAbs ≤ 33554432) ∧ (-32 ≤ e) ∧ (e ≤ 30)) ∧
    (∃ (g : Stg), (g.clamp = false)) ∧
    (∃ (g : Stg), (g.clamp = true) ∧ (-32768 ≤ g.lmin) ∧ (g.lmin ≤ g.lmax) ∧ (g.lmax ≤ 32767)) ∧
    (∃ (xs : List Sig), ((∀ x ∈ xs, x.m = 0))) ∧
    (∃ (xs : List Sig) (b : Block), (xs.length ≤ 8) ∧ ((∃ x ∈ xs, x.m ≠ 0)) ∧ (b = renorm xs)) ∧
    (∃ (g : Stg) (gs : List Stg) (x : Sig) (u : Rat) (q : Rat), (g.pl = true) ∧ (g.ty = 1 ∨ g.ty = 2) ∧ (g.clamp = false) ∧
      ((∀ h ∈ gs, h.ty ≠ 3)) ∧ (q = u - bf (g.coef 0) * x.val) ∧ ((sigOf q).val = q) ∧ ((sigOf u).val = u)) :=
  ⟨⟨⟨0, false, false, [], 0, 0⟩, by decide⟩,
     ⟨⟨1, true, true, [0x400001, 0x400001], -16384, 16384⟩, by decide⟩,
     ⟨⟨2, true, true, [0x400001, 0x400001], -16384, 16384⟩, by decide⟩,
     ⟨⟨3, true, false, [0x400001, 0x400001], -16384, 16384⟩, by decide⟩,
     ⟨⟨-134217728, 31⟩, by decide⟩,
     ⟨⟨134217727, 0⟩, ⟨-134217728, 0⟩, 0x400001, 0x400001, by decide +kernel⟩,
     ⟨-33554432, 30, by decide⟩,
     ⟨⟨1, false, true, [], 0, 0⟩, by decide⟩,
     ⟨⟨1, true, true, [], -32768, -32768⟩, by decide⟩,
     ⟨[Sig.zero, ⟨0, 5⟩], by decide⟩,
     ⟨[⟨134217727, 31⟩, Sig.zero], renorm [⟨134217727, 31⟩, Sig.zero], by decide, ⟨⟨134217727, 31⟩, by decide, by decide⟩, rfl⟩,
     ⟨⟨2, false, true, [0x400001], 0, 0⟩, [], ⟨16777216, 0⟩, 1, 1/2, by decide +kernel⟩⟩

theorem witness_cupping_and_capture_commands :
    (∃ (h : Fin 3) (s : State), (s.StoresWf) ∧ (s.Takes h 0x0C11 1)) ∧
    (∃ (h : Fin 3) (s : State), (s.StoresWf) ∧ (s.Takes h 0x0C11 2)) ∧
    (∃ (h : Fin 3) (s : State), (s.StoresWf) ∧ (s.Takes h 0x0C11 4)) ∧
    (∃ (h : Fin 3) (s : State), (s.StoresWf) ∧ (s.Takes h 0x0C11 8)) ∧
    (∃ (h : Fin 3) (s : State), (s.StoresWf) ∧ (s.Takes h 0x0D43 1)) ∧
    (∃ (h : Fin 3) (s : State), (s.StoresWf) ∧ (s.Takes h 0x0D43 0)) :=
  ⟨⟨0, withRegs [(0x0C08, 0x300000)] (inState .regulate), by decide +kernel⟩,
     ⟨0, idle, by decide⟩,
     ⟨0, idle, by decide⟩,
     ⟨0, idle, by decide⟩,
     ⟨0, idle, by decide⟩,
     ⟨0, withRegs [(0x0D43, 1)] { idle with capt := { idle.capt with owner := 1, st := 1 } }, by decide⟩⟩

theorem witness_twin_commands :
    (∃ (h : Fin 3) (s : State), (s.StoresWf) ∧ (s.Takes h 0x090B 1)) ∧
    (∃ (h : Fin 3) (s : State), (s.StoresWf) ∧ (s.Takes h 0x090B 2)) ∧
    (∃ (h : Fin 3) (s : State), (s.StoresWf) ∧ (s.Takes h 0x090B 4)) :=
  ⟨⟨0, twinDev .active .primary fun t => { t with ppst := 4, hbPrev := some 1 }, by decide⟩,
     ⟨0, twinDev .active .solo id, by decide⟩,
     ⟨0, twinDev .safe .orphan fun t => { t with hbPrev := some 1, ppst := 0 }, by decide⟩⟩

theorem witness_gradebook_commands :
    (∃ (h : Fin 3) (s : State), (s.StoresWf) ∧ (s.Takes h 0x060A 1)) ∧
    (∃ (h : Fin 3) (s : State), (s.StoresWf) ∧ (s.Takes h 0x060A 2)) ∧
    (∃ (h : Fin 3) (s : State), (s.StoresWf) ∧ (s.Takes h 0x060A 3)) ∧
    (∃ (h : Fin 3) (s : State), (s.StoresWf) ∧ (s.Takes h 0x060A 4)) ∧
    (∃ (h : Fin 3) (s : State) (c : Instr) (k : Nat), ((c = .nvFind h ∧ k = 5) ∨ (c = .nvFindseq h ∧ k = 6)) ∧ (s.StoresWf) ∧
      (s.Takes h 0x060A (BitVec.ofNat 32 k))) :=
  ⟨⟨0, idle, by decide⟩,
     ⟨0, withRegs [(0x0609, 0), (0x060B, 0x1FF)] idle, by decide⟩,
     ⟨0, withRegs [(0x0609, 0), (0x060B, 0x1FF)] idle, by decide⟩,
     ⟨0, withRegs [(0x060C, 0x01000000)] idle, by decide⟩,
     ⟨0, withRegs [(0x060C, 0x01000000)] idle, .nvFind 0, 5, by decide +kernel⟩⟩

theorem witness_stage_bus_commands :
    (∃ (h : Fin 3) (w : Word) (s : State), (s.StoresWf) ∧ (s.Takes h 0x080B w)) ∧
    (∃ (h : Fin 3) (n : Fin 64) (w : Word) (s : State), (s.StoresWf) ∧ (s.sb.ent.length = 64) ∧
      (s.Takes h (0x0840 + n.val) w)) ∧
    (∃ (h : Fin 3) (w : Word) (s : State), (s.StoresWf) ∧ (s.Takes h 0x0808 (setFld w 31 31 1))) ∧
    (∃ (h : Fin 3) (w : Word) (s : State), (s.StoresWf) ∧ (s.Takes h 0x0808 (setFld w 31 31 0)) ∧
      (bit (s.reg 0x0808) 31 = true)) :=
  ⟨⟨0, 0, sbDev id, by decide⟩,
     ⟨0, 63, 1, idle, by decide⟩,
     ⟨0, 0x23030000, idle, by decide⟩,
     ⟨0, 0x23030000, sbDev id, by decide⟩⟩

theorem witness_resets_restore_the_registers :
    (∃ (s : State), (s.dev.st ≠ .locked) ∧ (s.dev.rst = false)) ∧
    (∃ (s : State), (s.dev.st ≠ .locked) ∧ (s.dev.rst = false)) ∧
    (∃ (s : State), (s.dev.st ≠ .locked) ∧ (s.dev.rst = false) ∧ (4 ≤ s.twin.prstGot)) ∧
    (∃ (h : Fin 3) (s : State), (s.StoresWf) ∧ (s.Takes h 0x0009 0x5A000004)) :=
  ⟨⟨idle, by decide⟩,
     ⟨idle, by decide⟩,
     ⟨twinDev .standby .ready fun t => { t with prstGot := 4 }, by decide⟩,
     ⟨0, idle, by decide⟩⟩

theorem witness_snapshot_reads :
    (∃ (h : Fin 3) (s : State), (s.StoresWf) ∧ (s.Reads h 0x010A)) ∧
    (∃ (h : Fin 3) (n : Fin 32) (s : State), (s.StoresWf) ∧ (s.Reads h (0x0520 + n.val))) ∧
    (∃ (h : Fin 3) (s : State), (s.StoresWf) ∧ (s.Reads h 0x0D46)) ∧
    (∃ (h : Fin 3) (s : State), (s.StoresWf) ∧ (s.Reads h 0x0E12)) :=
  ⟨⟨2, withRegs [(0x0106, 0x10)] idle, by decide⟩,
     ⟨0, 31, idle, by decide⟩,
     ⟨0, idle, by decide⟩,
     ⟨0, { idle with eng := { idle.eng with haltReq := true, halted := true } }, by decide⟩⟩

theorem witness_clock_loss_and_return :
    (∃ (s : State), (s.dev.rst = false) ∧ (s.dev.pllUp = true)) ∧
    (∃ (s : State), (s.dev.rst = false) ∧ (s.dev.clkStop = true) ∧ (s.dev.st = .safe ∨ s.dev.st = .locked)) ∧
    (∃ (s : State), (s.Runs) ∧ (s.dev.pllUp = true) ∧ (1000 ≤ s.dev.rcAge) ∧ ((s.Stands 0x03 0 ↔ s.dev.rcOk = false))) ∧
    (∃ (s : State), (s.dev.rcAge < 1000)) :=
  ⟨⟨active, by decide⟩,
     ⟨{ safeDev with dev := { safeDev.dev with clkStop := true, lossRef := true } }, by decide⟩,
     ⟨{ idle with dev := { idle.dev with rcAge := 1000 } }, by decide⟩,
     ⟨idle, by decide⟩⟩

theorem witness_frame_tick_advances :
    (∃ (s : State), (s.Runs) ∧ (s.dev.pllUp = true) ∧ (s.dev.fresh = true)) ∧
    (∃ (s : State), (s.Runs) ∧ (s.dev.pllUp = true) ∧ (s.dev.fresh = false) ∧ (s.dev.st = .boot)) ∧
    (∃ (s : State), (s.Works) ∧ (s.dev.pllUp = true) ∧ (s.dev.fresh = false)) :=
  ⟨⟨{ idle with dev := { idle.dev with fresh := true } }, by decide⟩,
     ⟨booting, by decide⟩,
     ⟨idle, by decide⟩⟩

theorem witness_voltage_loop_updates :
    (∃ (q : QItem) (r : Nat) (s : State), (s.StoresWf) ∧ (s.Serves q r) ∧ (q.ctx = r) ∧ (r < 16) ∧
      ((s.rail r).st ∈ [RailState.ramp, .regulate, .stopping]) ∧ (limited s r = false) ∧ (s.cup.run = false) ∧
      (gangRef s r = none) ∧ ((s.rail r).notchDue = false)) ∧
    (∃ (q : QItem) (r : Nat) (s : State), (s.StoresWf) ∧ (s.Serves q r) ∧ (q.ctx = r) ∧ (r < 16) ∧ ((s.rail r).st = .limit) ∧
      (s.cup.run = false) ∧ (gangRef s r = none) ∧ (fld (s.tr r 0x88) 31 30 = 0) ∧ (bit (rgOf s r 2) 31 = false)) ∧
    (∃ (r : Nat) (k : Nat) (e : Int) (s : State), ((∀ j < 31, lutX s r j < lutX s r (j + 1))) ∧ (-32768 ≤ e) ∧ (e ≤ 32767) ∧
      (k < 31)) ∧
    (∃ (b : Bool) (d : Rat) (h : Rat), (h = (if b then 1 - d else d))) ∧
    (∃ (r : Nat) (s : State) (own : Rat) (oth : Rat) (rho : Rat), (own = pu (refCode s r)) ∧
      (oth = bf (s.actC r 0x0D) * pu (ffCode s r)) ∧
      (rho = (if ownInd s r then own * bf (toBF (1 / max oth (1 / 16))) else oth * bf (toBF (1 / max own (1 / 16)))))) :=
  ⟨⟨⟨3, 0⟩, 3, serving 3 .regulate fun x => { x with plV := some 1, notchDue := false }, by decide +kernel⟩,
     ⟨⟨3, 0⟩, 3, serving 3 .limit fun x => { x with limdir := 2, limOut := 1 }, by decide +kernel⟩,
     ⟨3, 30, 32767, (List.range 16).foldl (fun s j => s.setReg (bankKey (0x53B8 + j)) (BitVec.ofNat 32 (2 * j + 65536 * (2 * j + 1)))) idle, by decide⟩,
     ⟨true, 1, 0, by decide +kernel⟩,
     ⟨3, idle, pu (refCode idle 3), bf (idle.actC 3 0x0D) * pu (ffCode idle 3), if ownInd idle 3 then pu (refCode idle 3) * bf (toBF (1 / max (bf (idle.actC 3 0x0D) * pu (ffCode idle 3)) (1 / 16))) else bf (idle.actC 3 0x0D) * pu (ffCode idle 3) * bf (toBF (1 / max (pu (refCode idle 3)) (1 / 16))), rfl, rfl, rfl⟩⟩

theorem witness_window_and_absolute_sensing :
    (∃ (s : State), (s.Works)) ∧
    (∃ (r : Fin 16) (s : State), (s.Runs) ∧ ((s.rail r).oowRun = 16) ∧ ((s.rail r).vsArmed = true)) ∧
    (∃ (r : Fin 16) (s : State), (s.Runs) ∧ ((s.rail r).vsRange.on = false) ∧ (4 ≤ (s.rail r).vsRange.up)) ∧
    (∃ (r : Fin 16) (s : State), (s.Runs) ∧ ((s.rail r).vsRange.on = true) ∧ (4 ≤ (s.rail r).vsRange.dn)) ∧
    (∃ (r : Fin 16) (s : State), (s.Runs) ∧ ((s.rail r).vsFail.on = false) ∧ (8 ≤ (s.rail r).vsFail.up)) ∧
    (∃ (r : Fin 16) (s : State), (s.Runs) ∧ ((s.rail r).vsFail.on = true) ∧ (8 ≤ (s.rail r).vsFail.dn)) ∧
    (∃ (r : Fin 16) (p : Nat) (c : Nat) (s : State), (s.Works) ∧ (leadOf s r = some p) ∧ (counts s p = true) ∧
      ((s.ph p).gen.going = true) ∧ ((voltageGrid s r (s.ph p).gen.curPer)[(s.rail r).vmN]? = some c) ∧
      ((s.ph p).gen.org + c < (s.dev.frame + 1) * 400) ∧ (fld (s.rr r 0x10) 19 16 + 1 ≤ (s.rail r).win.length)) :=
  ⟨⟨idle, by decide⟩,
     ⟨3, onRail fun x => { x with oowRun := 16 }, by decide⟩,
     ⟨3, onRail fun x => { x with vsRange := ⟨4, 0, false⟩ }, by decide⟩,
     ⟨3, onRail fun x => { x with vsRange := ⟨0, 4, true⟩ }, by decide⟩,
     ⟨3, onRail fun x => { x with vsFail := ⟨8, 0, false⟩ }, by decide⟩,
     ⟨3, onRail fun x => { x with vsFail := ⟨0, 8, true⟩ }, by decide⟩,
     ⟨3, 5, 0, (inState .regulate).modRail 3 fun x => { x with win := List.replicate 16 ⟨false, 1, 1⟩ }, by decide +kernel⟩⟩

theorem witness_current_sensing :
    (∃ (p : Fin 48) (n : Nat) (a : Nat) (s : State), (s.Works) ∧ (counts s p = true) ∧ ((s.ph p).gen.going = true) ∧
      ((s.ph p).sampled = false) ∧ (sampleTargetOf (s.ph p) = some a) ∧ (a - (s.ph p).slead ≤ n) ∧
      (n < a - (s.ph p).slead + 8) ∧ (((s.ph p).gen.org + n) % 8 = 0) ∧ (n < (s.ph p).gen.curPer) ∧
      ((s.ph p).gen.org + n < (s.dev.frame + 1) * 400)) ∧
    (∃ (p : Fin 48) (s : State), (counts s p = false)) ∧
    (∃ (p : Fin 48) (s : State), (s.Works) ∧ (counts s p = true) ∧ ((s.ph p).converting = true) ∧ (bf (s.pr p 0x0A) ≠ 0) ∧
      (((s.ph p).est = true → (s.ph p).pst = .active → obsCan s p = true))) ∧
    (∃ (p : Fin 48) (s : State), (s.Works) ∧ ((s.ph p).converting = false)) ∧
    (∃ (p : Fin 48) (r : Nat) (l : List (BitVec 12)) (s : State), (s.Works) ∧ (railOf s p = some r) ∧
      ((s.rail r).st = .precheck) ∧ ((s.rail r).ofsLeft.contains p.val = true) ∧ (l ≠ [])) ∧
    (∃ (p : Fin 48) (r : Nat) (s : State), (s.Works) ∧ (counts s p = true) ∧ ((s.ph p).converting = true) ∧
      (railOf s p = some r) ∧ ((s.ph p).est = true) ∧ ((s.ph p).pst = .active) ∧ (obsCan s p = false)) :=
  ⟨⟨5, 2000, 2000, inState .regulate, by decide +kernel⟩,
     ⟨5, onPhase id, by decide⟩,
     ⟨5, (inState .regulate).modPh 5 fun x => { x with converting := true }, by decide +kernel⟩,
     ⟨5, onPhase id, by decide⟩,
     ⟨5, 3, [1], (inState .precheck).modRail 3 fun x => { x with ofsLeft := [5] }, by decide⟩,
     ⟨5, 3, (inState .regulate).modPh 5 fun x => { x with converting := true, est := true }, by decide⟩⟩

theorem witness_auxiliary_converter :
    (∃ (slot : Nat) (rest : List Nat) (s : State), (s.Works) ∧
      ((if s.aux.round = [] then auxRound s else s.aux.round) = slot :: rest)) ∧
    (∃ (n : Fin 16) (s : State), (s.Runs) ∧ (s.aux.range.length = 16) ∧ ((s.aux.range.getD n Cond.init).on = false) ∧
      (4 ≤ (s.aux.range.getD n Cond.init).up)) ∧
    (∃ (n : Fin 16) (s : State), (s.Runs) ∧ (s.aux.range.length = 16) ∧ ((s.aux.range.getD n Cond.init).on = true) ∧
      (4 ≤ (s.aux.range.getD n Cond.init).dn)) ∧
    (∃ (c : BitVec 14) (b : Bool) (s : State), (s.Works) ∧ (b = decide (1.2 * 0.995 ≤ (c.toNat : Rat) * (1.6 / 16384) ∧
      (c.toNat : Rat) * (1.6 / 16384) ≤ 1.2 * 1.005)) ∧ ((if b then 1 ≤ s.aux.sarSelf.dn else 1 ≤ s.aux.sarSelf.up))) ∧
    (∃ (s : State), (s.Works)) ∧
    (∃ (s : State), (s.Works)) :=
  ⟨⟨16, [17, 18, 19], idle, by decide⟩,
     ⟨15, { idle with aux := { idle.aux with range := List.replicate 16 ⟨4, 0, false⟩ } }, by decide⟩,
     ⟨15, { idle with aux := { idle.aux with range := List.replicate 16 ⟨0, 4, true⟩ } }, by decide⟩,
     ⟨12226, false, { idle with aux := { idle.aux with sarSelf := ⟨1, 0, false⟩ } }, by decide +kernel⟩,
     ⟨{ idle with aux := { idle.aux with dieShut := ⟨4, 0, false⟩ } }, by decide⟩,
     ⟨{ idle with aux := { idle.aux with supply := List.replicate 3 ⟨4, 0, false⟩ } }, by decide⟩⟩

theorem witness_setpoint_inputs :
    (∃ (s : State), (s.Works)) ∧
    (∃ (g : Nat) (h : Nat) (l : Nat) (k : Nat), (g ≤ h) ∧ (g ≤ l) ∧ (k < g)) ∧
    (∃ (n : Fin 4) (a : Nat) (x : List (Bool × Nat)) (s : State), (sppPeriod (8 * fld (s.reg (0x0A10 + n.val)) 27 24) ((true,
      a) :: x) = none)) ∧
    (∃ (n : Fin 4) (a : Nat) (x : List (Bool × Nat)) (p : Nat) (h : Nat) (s : State), (s.Works) ∧
      (sppPeriod (8 * fld (s.reg (0x0A10 + n.val)) 27 24) ((true, a) :: x) = some (p, h)) ∧ (4000 ≤ p) ∧ (p ≤ 400000)) ∧
    (∃ (n : Fin 4) (a : Nat) (x : List (Bool × Nat)) (p : Nat) (h : Nat) (s : State), (s.Works) ∧
      (sppPeriod (8 * fld (s.reg (0x0A10 + n.val)) 27 24) ((true, a) :: x) = some (p, h)) ∧ (p < 4000 ∨ 400000 < p)) ∧
    (∃ (n : Fin 4) (levels : List (Bool × Nat)) (s : State), (s.Runs) ∧ (bit (s.reg (0x0A10 + n.val)) 31 = true) ∧
      ((s.spp.getD n ⟨0, 0, 0, 0, false⟩).loss = false) ∧ ((4 ≤ (s.spp.getD n ⟨0, 0, 0, 0,
      false⟩).bad ∨ sppQuiet (8 * fld (s.reg (0x0A10 + n.val)) 27 24) (fld (s.reg (0x0A14 + n.val)) 31 16) (s.spp.getD n ⟨0,
      0, 0, 0, false⟩).quiet levels = true))) ∧
    (∃ (g : Nat) (a : Nat) (b : Nat), (g ≤ a) ∧ (g ≤ b) ∧ (0 < a) ∧ (0 < b)) ∧
    (∃ (n : Fin 4) (levels : List (Bool × Nat)) (s : State), ((s.spp.getD n ⟨0, 0, 0, 0, false⟩).bad < 4) ∧
      (sppQuiet (8 * fld (s.reg (0x0A10 + n.val)) 27 24) (fld (s.reg (0x0A14 + n.val)) 31 16) (s.spp.getD n ⟨0, 0, 0, 0,
      false⟩).quiet levels = false)) :=
  ⟨⟨idle, by decide⟩,
     ⟨1, 1, 1, 0, by decide⟩,
     ⟨3, 1, [], idle, by decide⟩,
     ⟨3, 399999, [(false, 1)], 400000, 399999, idle, by decide⟩,
     ⟨3, 1, [(false, 3998)], 3999, 1, idle, by decide⟩,
     ⟨3, [], withRegs [(0x0A13, 0x80000000)] { idle with spp := List.replicate 4 ⟨0, 0, 4, 0, false⟩ }, by decide⟩,
     ⟨1, 1, 1, by decide⟩,
     ⟨3, [], withRegs [(0x0A17, 0xFFFF0000)] idle, by decide⟩⟩

theorem witness_angle_tracker :
    (∃ (a : Nat) (hi : Nat) (s : State), (s.Works) ∧ (8 * fld (s.reg 0x0A20) 7 0 ≤ hi) ∧ (s.grid.ref = some a)) ∧
    (∃ (s : State), (s.Works) ∧ (s.grid.lock = false) ∧ (s.grid.lcnt ≠ 0) ∧ (fld s.grid.cfg 23 20 ≤ s.grid.lcnt)) ∧
    (∃ (a : Nat) (s : State), (s.Works) ∧ (s.grid.ref = some a) ∧
      ((5 / 4 + (if s.grid.lock then (s.grid.missed : Rat) else 0)) * 400000000 / estNow s ≤ ((s.dev.frame * 400 : Nat) : Rat) - (a : Rat))) ∧
    (∃ (s : State), (s.Works) ∧ (s.grid.lock = true) ∧ (fld s.grid.cfg 27 24 ≤ s.grid.mcnt ∨ s.grid.tooFar = true)) ∧
    (∃ (hi : Nat) (s : State), (hi < 8 * fld (s.reg 0x0A20) 7 0)) ∧
    (∃ (hi : Nat) (s : State), (s.Works) ∧ (8 * fld (s.reg 0x0A20) 7 0 ≤ hi) ∧ (s.grid.ref = none)) :=
  ⟨⟨0, 2040, { idle with grid := { idle.grid with ref := some 0 } }, by decide⟩,
     ⟨{ idle with grid := { idle.grid with lcnt := 15 } }, by decide⟩,
     ⟨0, { idle with dev := { idle.dev with frame := 25000 }, grid := { idle.grid with ref := some 0 } }, by decide +kernel⟩,
     ⟨{ idle with grid := { idle.grid with lock := true, mcnt := 15 } }, by decide⟩,
     ⟨2039, withRegs [(0x0A20, 0xFF)] idle, by decide⟩,
     ⟨2040, withRegs [(0x0A20, 0xFF)] idle, by decide⟩⟩

theorem witness_outputs_of_a_period :
    (∃ (p : Fin 48) (s : State), (s.Runs) ∧ (counts s p = true) ∧ ((s.ph p).gen.going = true) ∧
      ((s.ph p).gen.org + (s.ph p).gen.curPer < (s.dev.frame + 1) * 400) ∧ ((s.ph p).est = false) ∧ (s.twin.leaving = false)) ∧
    (∃ (p : Fin 48) (hi : Bool) (s : State) (dt : Nat) (lo : Nat) (up : Nat), (s.Runs) ∧ (counts s p = true) ∧
      ((s.ph p).gen.going = true) ∧ ((s.ph p).gen.org + (s.ph p).gen.curPer < (s.dev.frame + 1) * 400) ∧
      ((s.ph p).est = false) ∧ (s.twin.leaving = false) ∧ (bit (s.pr p 0x21) (if hi then 31 else 30) = true) ∧
      (dt = (if hi then (s.ph p).gen.dth else (s.ph p).gen.dtl)) ∧
      (lo = (if hi then fld (s.ph p).gen.dtMin 29 16 else fld (s.ph p).gen.dtMin 13 0)) ∧
      (up = (if hi then fld (s.ph p).gen.dtMax 29 16 else fld (s.ph p).gen.dtMax 13 0))) :=
  ⟨⟨5, atFrame 10 (inState .regulate), by decide⟩,
     ⟨5, true, adapted, 640, 100, 0x3FFF, by decide +kernel⟩⟩

theorem witness_nothing_is_clocked_in_reset_or_clock_loss :
    (∃ (c : Instr) (s : State), (s.dev.rst = true ∨ s.dev.clkStop = true) ∧ (c.Unclocked = false)) :=
  ⟨.faultAccept, State.reset, by decide⟩

theorem witness_generator_periods :
    (∃ (p : Fin 48) (s : State), (s.Runs) ∧ (counts s p = true) ∧ ((s.ph p).gen.going = true) ∧
      ((s.ph p).gen.org + (s.ph p).gen.curPer < (s.dev.frame + 1) * 400)) ∧
    (∃ (p : Fin 48) (s : State) (e : GenSet) (n : Nat), (s.Runs) ∧ (counts s p = true) ∧ ((s.ph p).gen.going = false) ∧
      (isStandby s = false) ∧ (((s.ph p).joining = false ∨ (s.ph p).gen.eset ≠ none)) ∧
      (e = (match (s.ph p).gen.eset with | some e => e | none => if (s.ph p).gen.ldpend then shadowSet s p else (s.ph p).gen.act)) ∧
      ((s.ph p).gen.ref = some n) ∧ (n + e.ofs < (s.dev.frame + 1) * 400)) :=
  ⟨⟨5, atFrame 10 (inState .regulate), by decide⟩,
     ⟨5, atFrame 10 ((inState .regulate).modGen 5 fun g => { g with going := false, ref := some 4399 }), Gen.init.act, 4399, by decide⟩⟩

theorem witness_phase_guards_and_failures :
    (∃ (p : Fin 48) (rev : Bool) (n : Nat) (v : Rat) (s : State) (cut : Bool) (g : Gen), (s.Runs) ∧
      (g = { (s.ph p).gen with hpin := (outputs s p).1, lpin := (outputs s p).2 }) ∧
      (cut = ((s.ph p).gen.going && (s.ph p).gen.cut == s.dev.frame + 1)) ∧ ((runsNow s p = true ∨ cut = true)) ∧
      (guardOn s p rev = true) ∧ (guardTrue s p rev v = true) ∧ ((if rev then (s.ph p).endR else (s.ph p).endF) = false) ∧
      (guardSees { s.ph p with gen := g } (guardsHigh s p rev) n = true)) ∧
    (∃ (s : State), (s.Runs)) ∧
    (∃ (p : Fin 48) (s : State), (s.Runs) ∧ (railOf s p ≠ none) ∧ (fld (pmOf s p 3) 23 16 ≤ (s.ph p).ncnt) ∧
      ((s.ph p).senseRaised = false)) ∧
    (∃ (p : Fin 48) (s : State), (s.Runs) ∧ (railOf s p ≠ none) ∧ (fld (pmOf s p 3) 15 8 ≤ (s.ph p).ocnt) ∧
      ((s.ph p).openRaised = false)) ∧
    (∃ (p : Fin 48) (s : State), (s.Runs) ∧ (1024 ≤ (s.ph p).trimAt) ∧ ((s.ph p).tsat = false)) ∧
    (∃ (p : Fin 48) (s : State), ((s.ph p).senseRaised = true)) ∧
    (∃ (p : Fin 48) (s : State), ((s.ph p).openRaised = true)) ∧
    (∃ (p : Fin 48) (s : State), ((s.ph p).tsat = true)) :=
  ⟨⟨5, false, 150000, 1000, (inState .regulate).modPh 5 fun x => { x with cbcCfg := 0x80010001, gen := { x.gen with hpin := .pulse (some 0) none } }, false, { (((inState .regulate).modPh 5 fun x => { x with cbcCfg := 0x80010001, gen := { x.gen with hpin := .pulse (some 0) none } }).ph 5).gen with hpin := (outputs ((inState .regulate).modPh 5 fun x => { x with cbcCfg := 0x80010001, gen := { x.gen with hpin := .pulse (some 0) none } }) 5).1, lpin := (outputs ((inState .regulate).modPh 5 fun x => { x with cbcCfg := 0x80010001, gen := { x.gen with hpin := .pulse (some 0) none } }) 5).2 }, by decide +kernel⟩,
     ⟨idle, by decide⟩,
     ⟨5, onPhase fun x => { x with ncnt := 255 }, by decide⟩,
     ⟨5, onPhase fun x => { x with ocnt := 255 }, by decide⟩,
     ⟨5, onPhase fun x => { x with trimAt := 1024 }, by decide⟩,
     ⟨5, onPhase fun x => { x with senseRaised := true }, by decide⟩,
     ⟨5, onPhase fun x => { x with openRaised := true }, by decide⟩,
     ⟨5, onPhase fun x => { x with tsat := true }, by decide⟩⟩

theorem witness_engine_serves_its_queue :
    (∃ (l : List QItem) (q : QItem), (pickUpdate l = some q)) ∧
    (∃ (q : QItem) (r : Nat) (s : State), (s.Runs) ∧ (s.eng.haltReq = false) ∧ (pickUpdate s.eng.queue = some q) ∧
      (ctxRail s q.ctx = some r) ∧ (ctxActive s q.ctx = true) ∧ (s.eng.parity.contains q.ctx = false) ∧
      (((s.rail r).bankErr = false ∨ (q.ctx < 16 ∧ (s.rail r).pend = true ∧ (s.rail r).copying = false)))) ∧
    (∃ (a : Nat) (s : State), (s.Runs) ∧ (a < 0x90)) ∧
    (∃ (s : State), (s.Runs) ∧ (s.eng.winLeft = 0)) ∧
    (∃ (q : QItem) (r : Nat) (s : State), (s.Runs) ∧ (s.eng.haltReq = false) ∧ (pickUpdate s.eng.queue = some q) ∧
      (ctxRail s q.ctx = some r) ∧ (s.eng.parity.contains q.ctx = true ∨ (s.rail r).bankErr = true) ∧
      ((s.rail r).pend = false)) ∧
    (∃ (q : QItem) (r : Nat) (p : Nat) (s : State), (s.StoresWf) ∧ (s.Serves q r) ∧ (q.ctx = 32 + p) ∧ (p < 48)) ∧
    (∃ (q : QItem) (r : Nat) (s : State) (bd : Nat → Nat → Rat), (s.StoresWf) ∧ (s.Serves q r) ∧ (q.ctx = 16 + r) ∧
      (r < 16) ∧ ((∀ i w, bd i w = if w = 0xFFFF then pu i else pu (min i (toPU16 (pu w / powerV s r)))))) ∧
    (∃ (q : QItem) (r : Nat) (p : Nat) (s : State), (s.StoresWf) ∧ (s.Serves q r) ∧ (q.ctx = 80 + p) ∧ (p < 48)) ∧
    (∃ (p : Nat) (s : State), ((s.ph p).est = false)) :=
  ⟨⟨[⟨80, 0⟩, ⟨37, 8⟩, ⟨36, 8⟩], ⟨36, 8⟩, by decide⟩,
     ⟨⟨3, 0⟩, 3, { inState .regulate with eng := { idle.eng with queue := [⟨3, 0⟩] } }, by decide⟩,
     ⟨0x8F, idle, by decide⟩,
     ⟨{ idle with eng := { idle.eng with winLeft := 0 } }, by decide⟩,
     ⟨⟨3, 0⟩, 3, { inState .regulate with eng := { idle.eng with queue := [⟨3, 0⟩], parity := [3] } }, by decide⟩,
     ⟨⟨37, 0⟩, 3, 5, withRegs [(0x1308, 0x3F04)] (serving 37 .regulate id), by decide⟩,
     ⟨⟨19, 0⟩, 3, serving 19 .limit id, fun i w => if w = 0xFFFF then pu i else pu (min i (toPU16 (pu w / powerV (serving 19 .limit id) 3))), by decide, by decide, by decide, by decide, fun _ _ => rfl⟩,
     ⟨⟨85, 0⟩, 3, 5, serving 85 .regulate id, by decide⟩,
     ⟨5, idle, by decide⟩⟩

theorem witness_rail_starts_step_by_step :
    (∃ (r : Fin 16) (s : State), (machinesRun s = true) ∧ ((s.rail r).st = .off) ∧ ((s.rail r).startPend = true)) ∧
    (∃ (r : Fin 16) (s : State), (machinesRun s = true) ∧ ((s.rail r).st = .precheck) ∧ ((s.rail r).scDone = false) ∧
      (fld (s.rail r).scCfg 30 24 + 5 ≤ (s.rail r).frames)) ∧
    (∃ (r : Fin 16) (s : State), (machinesRun s = true) ∧ ((s.rail r).st = .precheck) ∧ ((s.rail r).scDone = true) ∧
      ((s.rail r).ofsLeft = []) ∧ (blocked s r = false)) ∧
    (∃ (r : Fin 16) (s : State), (machinesRun s = true) ∧ (s.StoresWf) ∧ ((s.rail r).st = .prebias) ∧ ((∀ q ∈ groupRails s r,
      (s.rail q).st = .prebias ∧ (s.rail q).pbN = 16))) :=
  ⟨⟨3, ready.modRail 3 fun x => { x with startPend := true }, by decide⟩,
     ⟨3, (inState .precheck).modRail 3 fun x => { x with frames := 132 }, by decide⟩,
     ⟨3, (inState .precheck).modRail 3 fun x => { x with scDone := true }, by decide⟩,
     ⟨3, (inState .prebias).modRail 3 fun x => { x with pbN := 16 }, by decide⟩⟩

theorem witness_limit_stop_and_following :
    (∃ (r : Fin 16) (s : State), (s.Runs) ∧ (s.eng.haltReq = false) ∧ (mayEnter s r = true) ∧ ((s.rail r).limCnt ≠ 0) ∧
      (fld (s.rail r).limCfg 3 0 ≤ (s.rail r).limCnt)) ∧
    (∃ (r : Fin 16) (s : State), (machinesRun s = true) ∧ ((s.rail r).st = .stopping) ∧
      (fld (s.rr r 0x2E) 23 0 ≤ (s.rail r).frames)) ∧
    (∃ (r : Fin 16) (s : State), (machinesRun s = true) ∧ ((s.rail r).feact = false) ∧
      (fld (s.rr r 0x2B) 23 0 < (s.rail r).feCnt)) ∧
    (∃ (r : Fin 16) (s : State), (machinesRun s = true) ∧ ((s.rail r).feact = true) ∧
      (fld (s.rr r 0x2B) 23 0 ≤ (s.rail r).feIn)) ∧
    (∃ (r : Fin 16) (s : State), ((s.rail r).feact = true ∨ (s.rail r).feCnt ≤ fld (s.rr r 0x2B) 23 0)) ∧
    (∃ (r : Fin 16) (s : State), ((s.rail r).feact = false ∨ (s.rail r).feIn < fld (s.rr r 0x2B) 23 0)) :=
  ⟨⟨3, (inState .regulate).modRail 3 fun x => { x with limCnt := 15, limSide := 1 }, by decide⟩,
     ⟨3, (inState .stopping).modRail 3 fun x => { x with frames := 16777215 }, by decide⟩,
     ⟨3, (inState .regulate).modRail 3 fun x => { x with feCnt := 16777216 }, by decide⟩,
     ⟨3, (inState .regulate).modRail 3 fun x => { x with feact := true, feIn := 16777215 }, by decide⟩,
     ⟨3, idle, by decide⟩,
     ⟨3, idle, by decide⟩⟩

theorem witness_restarts_are_counted :
    (∃ (r : Fin 16) (s : State), (machinesRun s = true) ∧ ((s.rail r).st = .faulted) ∧ ((s.rail r).rstpend = true) ∧
      ((s.rail r).rstDelay = some 0)) ∧
    (∃ (r : Fin 16) (s : State), (restartDue s r = true) ∧ (fscope s r = false) ∧ (startChecks s r = true)) ∧
    (∃ (r : Fin 16) (s : State), (restartDue s r = true) ∧ (fscope s r = false) ∧ (startChecks s r = false)) ∧
    (∃ (r : Fin 16) (s : State), (fscope s r = true) ∧ ((s.dom (domOf s r)).seq ≠ 0)) ∧
    (∃ (r : Fin 16) (s : State), (restartDue s r = true) ∧ (fscope s r = true) ∧ ((s.dom (domOf s r)).seq = 0)) :=
  ⟨⟨3, (inState .faulted).modRail 3 fun x => { x with rstpend := true, rstDelay := some 0 }, by decide⟩,
     ⟨3, (inState .faulted).modRail 3 fun x => { x with rstpend := true }, by decide⟩,
     ⟨2, active.modRail 2 fun x => { x with st := .faulted, rstpend := true }, by decide⟩,
     ⟨3, (withRegs [(0x1308, 0x3F44)] ready).modDom 0 fun d => { d with seq := 1 }, by decide⟩,
     ⟨3, withRegs [(0x1308, 0x3F44)] ((inState .faulted).modRail 3 fun x => { x with rstpend := true }), by decide⟩⟩

theorem witness_shedding_drip_and_brake :
    (∃ (r : Fin 16) (p : Nat) (s : State), (s.StoresWf) ∧ (machinesRun s = true) ∧ ((s.rail r).shedCnt ≠ 0) ∧
      (fld (rgOf s r 5) 31 16 ≤ (s.rail r).shedCnt) ∧
      (((effOrder s r).filter fun q => (s.ph q).pst == .active && !(s.ph q).est).getLast? = some p)) ∧
    (∃ (r : Fin 16) (p : Nat) (s : State), (s.StoresWf) ∧ (machinesRun s = true) ∧ ((s.rail r).addCnt ≠ 0) ∧
      (fld (rgOf s r 5) 15 0 ≤ (s.rail r).addCnt) ∧ ((effOrder s r).find? (fun q => (s.ph q).pst == .shed) = some p)) ∧
    (∃ (r : Fin 16) (s : State), (machinesRun s = true) ∧ ((s.rail r).dripCnt ≠ 0) ∧
      (fld (rgOf s r 5) 31 16 ≤ (s.rail r).dripCnt) ∧ (bit (rgOf s r 1) 31 = true) ∧ ((s.rail r).st = .regulate) ∧
      ((s.rail r).ref = (s.rail r).target * 65536) ∧ (anyEst s r = false) ∧ (injecting s r = false)) ∧
    (∃ (r : Fin 16) (s : State), (machinesRun s = true) ∧ ((s.rail r).st = .brake) ∧
      (fld (rgOf s r 3) 31 16 ≤ (s.rail r).frames)) :=
  ⟨⟨3, 5, (inState .regulate).modRail 3 fun x => { x with shedCnt := 65535 }, by decide⟩,
     ⟨3, 5, ((inState .regulate).modPh 5 fun x => { x with pst := .shed }).modRail 3 fun x => { x with addCnt := 65535 }, by decide⟩,
     ⟨3, (inState .regulate).modRail 3 fun x => { x with dripCnt := 65535, rgCfg := x.rgCfg.set 1 0x80000083 }, by decide⟩,
     ⟨3, (inState .brake).modRail 3 fun x => { x with frames := 65535 }, by decide⟩⟩

theorem witness_protection_limits_stand_and_clear :
    (∃ (r : Fin 16) (k : VLim) (s : State), (s.Runs) ∧ ((condOf (s.rail r) k).on = false) ∧
      ((fld (s.rr r 0x4B) (if vlimOver k then 31 else 23) (if vlimOver k then 24 else 16)) ≤ (condOf (s.rail r) k).up)) ∧
    (∃ (r : Fin 16) (k : VLim) (s : State), (s.Runs) ∧ ((condOf (s.rail r) k).on = true) ∧
      ((fld (s.rr r 0x4B) (if vlimOver k then 31 else 23) (if vlimOver k then 24 else 16)) ≤ (condOf (s.rail r) k).dn)) ∧
    (∃ (r : Fin 16) (trip : Bool) (s : State), (s.Runs) ∧ ((if trip then (s.rail r).ot else (s.rail r).tw).on = false) ∧
      (64 ≤ (if trip then (s.rail r).ot else (s.rail r).tw).up)) ∧
    (∃ (r : Fin 16) (trip : Bool) (s : State), (s.Runs) ∧ ((if trip then (s.rail r).ot else (s.rail r).tw).on = true) ∧
      (64 ≤ (if trip then (s.rail r).ot else (s.rail r).tw).dn)) :=
  ⟨⟨3, .xuv, onRail fun x => { x with xuv := ⟨255, 0, false⟩ }, by decide⟩,
     ⟨3, .ov, onRail fun x => { x with ov := ⟨0, 255, true⟩ }, by decide⟩,
     ⟨3, true, onRail fun x => { x with ot := ⟨64, 0, false⟩ }, by decide⟩,
     ⟨3, false, onRail fun x => { x with tw := ⟨0, 64, true⟩ }, by decide⟩⟩

theorem witness_measurements_and_capture_run :
    (∃ (m : CupSums) (s : State), (s.Runs) ∧ (s.cup.run = true) ∧ (s.cup.result = some m) ∧ (m.xs * m.xs + m.xc * m.xc ≠ 0)) ∧
    (∃ (done : Bool) (byRail : Bool) (s : State), (s.Runs) ∧ (s.cup.run = true) ∧ (s.cup.zero = true) ∧
      (s.cup.ending = some (done, byRail))) ∧
    (∃ (s : State), (s.Works) ∧ (s.capt.st = 1) ∧ (s.capt.owner = 1)) ∧
    (∃ (s : State), (s.Works) ∧ (s.capt.st = 1) ∧ (s.capt.owner = 1) ∧ (s.capt.trig ≠ none) ∧ ((∀ l ∈ s.capt.chans,
      l.length = s.capt.share))) :=
  ⟨⟨⟨1, 0, 2, 0⟩, { idle with cup := { idle.cup with run := true, result := some ⟨1, 0, 2, 0⟩ } }, by decide +kernel⟩,
     ⟨true, false, { idle with cup := { idle.cup with run := true, zero := true, ending := some (true, false) } }, by decide⟩,
     ⟨{ idle with capt := { idle.capt with owner := 1, st := 1, sel := [0], chans := [[]], share := 4 } }, by decide⟩,
     ⟨{ idle with capt := { idle.capt with owner := 1, st := 1, sel := [0], chans := [[7]], share := 1, trig := some 1 } }, by decide⟩⟩

theorem witness_collector_accepts_and_acts :
    (∃ (l : List Msg) (m : Msg), (pickMsg l = some m)) ∧
    (∃ (m : Msg) (s : State), (s.Works) ∧ (s.StoresWf) ∧ (pickMsg s.fc.pend = some m)) ∧
    (∃ (s : State), (s.Runs) ∧ (s.StoresWf)) ∧
    (∃ (s : State), (s.Works) ∧ (s.fc.safe = false) ∧ (s.dev.aliveLeft = 0)) :=
  ⟨⟨[⟨0x18, 0, 3, false, true, false, 5, none⟩, ⟨0x18, 0, 2, false, true, false, 5, none⟩], ⟨0x18, 0, 2, false, true, false, 5, none⟩, by decide⟩,
     ⟨⟨0x18, 0, 3, false, true, false, 5, none⟩, { inState .regulate with fc := { idle.fc with pend := [⟨0x18, 0, 3, false, true, false, 5, none⟩] } }, by decide⟩,
     ⟨active, by decide⟩,
     ⟨{ idle with dev := { idle.dev with aliveLeft := 0 } }, by decide⟩⟩

theorem witness_link_frames_are_received_and_followed :
    (∃ (f : LinkFrame) (s : State), (twinOn s = true) ∧ ((s.twin.hbPrev = none ∨ ∃ h, s.twin.hbPrev = some h ∧
      f.hb.toNat = (h + 1) % 65536))) ∧
    (∃ (f : LinkFrame) (sync : Bool) (crc : Bool) (s : State), (twinOn s = true) ∧ ((sync = false ∨ crc = false ∨ ∃ h,
      s.twin.hbPrev = some h ∧ f.hb.toNat ≠ (h + 1) % 65536))) ∧
    (∃ (f : LinkFrame) (a : Nat) (rest : List (LinkFrame × Nat)) (s : State), (twinOn s = true) ∧
      (s.twin.pst = .primary ∨ s.twin.pst = .solo) ∧ (s.twin.rx = (f, a) :: rest) ∧ (a / 25600 + 1 < s.dev.frame)) ∧
    (∃ (f : LinkFrame) (a : Nat) (rest : List (LinkFrame × Nat)) (s : State), (twinOn s = true) ∧ (s.dev.st = .idle) ∧
      (s.twin.pst = .forming) ∧ (s.twin.rx = (f, a) :: rest) ∧ (a / 25600 + 1 < s.dev.frame) ∧ (f.pst = 0 ∨ f.pst = 2) ∧
      (f.wr = []) ∧ (f.corr = .nothing)) ∧
    (∃ (f : LinkFrame) (a : Nat) (rest : List (LinkFrame × Nat)) (s : State), (twinOn s = true) ∧ (s.dev.st = .standby) ∧
      (s.twin.pst = .syncing ∨ s.twin.pst = .ready) ∧ (s.twin.rx = (f, a) :: rest) ∧ (a / 25600 + 1 < s.dev.frame) ∧
      (f.pst ≤ 2) ∧ (f.wr = [])) ∧
    (∃ (f : LinkFrame) (a : Nat) (rest : List (LinkFrame × Nat)) (s : State), (twinOn s = true) ∧ (s.dev.st = .safe) ∧
      (s.twin.pst = .syncing ∨ s.twin.pst = .ready) ∧ (s.twin.rx = (f, a) :: rest) ∧ (a / 25600 + 1 < s.dev.frame) ∧
      (f.pst ≤ 2)) :=
  ⟨⟨{ frame0 with hb := 0 }, twinDev .active .primary fun t => { t with hbPrev := some 65535 }, by decide⟩,
     ⟨{ frame0 with hb := 2 }, true, true, twinDev .active .primary fun t => { t with hbPrev := some 0 }, by decide⟩,
     ⟨frame0, 25600, [], twinDev .active .solo fun t => { t with rx := [(frame0, 25600)] }, by decide⟩,
     ⟨frame0, 25600, [], twinDev .idle .forming fun t => { t with rx := [(frame0, 25600)] }, by decide⟩,
     ⟨frame0, 25600, [], twinDev .standby .ready fun t => { t with rx := [(frame0, 25600)] }, by decide⟩,
     ⟨frame0, 25600, [], twinDev .safe .ready fun t => { t with rx := [(frame0, 25600)] }, by decide⟩⟩

theorem witness_link_loss_and_formation :
    (∃ (s : State), (twinOn s = true) ∧ (4 ≤ s.twin.loss) ∧ (s.twin.pst ≠ .forming)) ∧
    (∃ (s : State), (twinOn s = true) ∧ (s.twin.pst = .forming) ∧ (s.twin.hbPrev = none) ∧
      (1000 * fld (s.reg 0x0908) 23 16 ≤ s.twin.formAge)) :=
  ⟨⟨twinDev .active .primary fun t => { t with loss := 4, pal := 0 }, by decide⟩,
     ⟨twinDev .idle .forming fun t => { t with formAge := 255000, pal := 2 }, by decide⟩⟩

theorem witness_takeover_and_handover :
    (∃ (c : Nat) (s : State), (twinOn s = true) ∧ (s.dev.st = .standby) ∧ (s.twin.pst = .ready) ∧ (((4 ≤ s.twin.loss ∧
      (s.twin.pal = 1 ∨ s.twin.pal = 2) ∧ c = 0) ∨ (¬ (4 ≤ s.twin.loss ∧ (s.twin.pal = 1 ∨ s.twin.pal = 2)) ∧
      s.twin.cause = some c)))) ∧
    (∃ (c : Nat) (s : State), (twinOn s = true) ∧ (s.dev.st = .standby) ∧ (s.twin.pst ≠ .ready) ∧ (((4 ≤ s.twin.loss ∧
      (s.twin.pal = 1 ∨ s.twin.pal = 2)) ∨ s.twin.cause = some c))) ∧
    (∃ (s : State), (twinOn s = true) ∧ (s.twin.swapDue = true) ∧ (s.twin.pst = .ready) ∧ (s.dev.st = .standby)) ∧
    (∃ (s : State), (twinOn s = true) ∧ (s.twin.swapDue = true) ∧ (s.twin.pst = .primary) ∧
      (s.dev.st = .active ∨ s.dev.st = .idle) ∧ ((∃ p < 48, (s.ph p).gen.driving = true ∧ (s.ph p).gen.going = true ∧
      counts s p = true))) ∧
    (∃ (s : State), (twinOn s = true) ∧ (s.twin.swapDue = true) ∧ (s.twin.pst = .primary) ∧
      (s.dev.st = .active ∨ s.dev.st = .idle) ∧ ((∀ p < 48, (s.ph p).gen.driving = true → (s.ph p).gen.going = true →
      counts s p = false))) :=
  ⟨⟨0, twinDev .standby .ready fun t => { t with loss := 4, pal := 1 }, by decide⟩,
     ⟨1, twinDev .standby .syncing fun t => { t with cause := some 1 }, by decide⟩,
     ⟨twinDev .standby .ready fun t => { t with swapDue := true }, by decide⟩,
     ⟨withRegs [(0x0908, 0x80FF0000)] { inState .regulate with twin := { idle.twin with pst := .primary, swapDue := true } }, by decide +kernel⟩,
     ⟨twinDev .active .primary fun t => { t with swapDue := true }, by decide⟩⟩

theorem witness_digests_and_duties :
    (∃ (s : State), (s.twin.digAge < 1000)) ∧
    (∃ (s : State), (s.Works) ∧ (1000 ≤ s.twin.digAge) ∧ ((paired s && linkUp s) = false)) ∧
    (∃ (d : Word) (s : State), (s.Works) ∧ (1000 ≤ s.twin.digAge) ∧ ((paired s && linkUp s) = true) ∧
      (d = Config.digestOf (covered.map (coveredWord s)))) ∧
    (∃ (r : Fin 16) (s : State), (twinOn s = true) ∧ (s.twin.dutyHit.getD r false = true)) ∧
    (∃ (r : Fin 16) (s : State), (s.twin.dutyHit.getD r false = false)) :=
  ⟨⟨idle, by decide⟩,
     ⟨{ idle with twin := { idle.twin with digAge := 1000 } }, by decide⟩,
     ⟨Config.digestOf (covered.map (coveredWord pairedDev)), pairedDev, by decide, by decide, by decide, rfl⟩,
     ⟨15, twinDev .standby .ready fun t => { t with dutyHit := List.replicate 16 true }, by decide⟩,
     ⟨15, idle, by decide⟩⟩

theorem witness_gang_bus_frames :
    (∃ (s : State), (gangLeads s = true) ∧ (s.dev.frame % 4 = 0)) ∧
    (∃ (s : State), (gangFollows s = true)) ∧
    (∃ (f : GangFrame) (s : State), (gangFollows s = true) ∧ (s.twin.phAdj.length = 48) ∧ (f.stopAll = false) ∧ ((∀ k < 4,
      (f.slots.getD k (0, 0)).1 ≠ 2 ∧ (f.slots.getD k (0, 0)).1 ≠ 3))) ∧
    (∃ (s : State), (gangFollows s = true)) ∧
    (∃ (s : State), (gangFollows s = true) ∧ (s.gang.lost = true) ∧ (s.gang.link = false)) ∧
    (∃ (s : State), (gangFollows s = true) ∧ (s.gang.lost = false ∨ s.gang.link = true) ∧
      (fld (s.reg 0x7108) 7 0 ≤ (s.gang.age - 2) / 4)) :=
  ⟨⟨withRegs [(0x7108, 0x80000004)] idle, by decide⟩,
     ⟨gangFollower, by decide⟩,
     ⟨⟨false, 3, [(1, 0), (0, 0), (0, 0), (0, 0)]⟩, gangFollower, by decide⟩,
     ⟨gangFollower, by decide⟩,
     ⟨{ gangFollower with gang := { gangFollower.gang with lost := true } }, by decide⟩,
     ⟨{ gangFollower with gang := { gangFollower.gang with age := 1023 } }, by decide⟩⟩

theorem witness_flash_operations :
    (∃ (o : NvOp) (rest : List NvOp) (s : State), (nvPick s = some (o, rest))) ∧
    (∃ (n : Nat) (rest : List NvOp) (s : State), (s.Works) ∧ (s.nv.cur = none) ∧ (s.nv.saved = false) ∧
      (nvPick s = some (.erase n, rest))) ∧
    (∃ (n : Nat) (k : Nat) (data : List Nat) (rest : List NvOp) (s : State), (s.Works) ∧ (s.nv.cur = none) ∧
      (s.nv.saved = false) ∧ (nvPick s = some (.prog n k data, rest))) ∧
    (∃ (id : Nat) (len : Nat) (body : List Nat) (rest : List NvOp) (s : State), (s.Works) ∧ (s.nv.cur = none) ∧
      (s.nv.saved = false) ∧ (nvPick s = some (.append id len body, rest))) ∧
    (∃ (c : NvCur) (n : Nat) (k : Nat) (data : List Nat) (s : State), (s.Runs) ∧ (s.StoresWf) ∧ (s.nv.cur = some c) ∧
      (c.erase = false) ∧ (c.op = .prog n k data) ∧ (c.recSize = 0)) ∧
    (∃ (c : NvCur) (id : Nat) (len : Nat) (body : List Nat) (s : State), (s.Runs) ∧ (s.StoresWf) ∧ (s.nv.cur = some c) ∧
      (c.erase = false) ∧ (c.op = .append id len body)) ∧
    (∃ (c : NvCur) (s : State), (s.Runs) ∧ (s.StoresWf) ∧ (s.nv.cur = some c) ∧ (c.erase = true)) ∧
    (∃ (c : NvCur) (n : Nat) (b : Option (Nat × Nat)) (s : State), (s.Runs) ∧ (s.nv.cur = some c) ∧ (c.op = .tallyBit n b) ∧
      (n < s.nv.tally.length)) ∧
    (∃ (n : Fin 8) (s : State), (s.Runs) ∧ (s.nv.tdue.getD n 0 ≠ 0)) :=
  ⟨⟨.lstate [], [.erase 0x40], { idle with nv := { idle.nv with queue := [.erase 0x40, .lstate []] } }, by decide⟩,
     ⟨0x40, [], { idle with nv := { idle.nv with queue := [.erase 0x40] } }, by decide⟩,
     ⟨0x40, 15, [1], [.erase 0x40], { idle with nv := { idle.nv with queue := [.prog 0x40 15 [1], .erase 0x40] } }, by decide⟩,
     ⟨0x100, 0, [1], [], { idle with nv := { idle.nv with queue := [.append 0x100 0 [1]] } }, by decide⟩,
     ⟨⟨.prog 0x40 15 [1], [(0x40F00, 1)], 0x40, false, 0, 0, 0⟩, 0x40, 15, [1], { idle with nv := { idle.nv with cur := some ⟨.prog 0x40 15 [1], [(0x40F00, 1)], 0x40, false, 0, 0, 0⟩ } }, by decide⟩,
     ⟨⟨.append 0x100 0 [1], [(0x20, 1)], 0, false, 0x20, 1, 32⟩, 0x100, 0, [1], { idle with nv := { idle.nv with cur := some ⟨.append 0x100 0 [1], [(0x20, 1)], 0, false, 0x20, 1, 32⟩ } }, by decide⟩,
     ⟨⟨.erase 0x40, [], 0x40, true, 0, 0, 0⟩, { idle with nv := { idle.nv with cur := some ⟨.erase 0x40, [], 0x40, true, 0, 0, 0⟩ } }, by decide⟩,
     ⟨⟨.tallyBit 7 none, [(0x120, 0xFE)], 0, false, 0, 0, 0⟩, 7, none, { idle with nv := { idle.nv with cur := some ⟨.tallyBit 7 none, [(0x120, 0xFE)], 0, false, 0, 0, 0⟩ } }, by decide⟩,
     ⟨7, { idle with nv := { idle.nv with tdue := List.replicate 8 1 } }, by decide⟩⟩

theorem witness_power_failure :
    (∃ (s : State), (s.Works) ∧ (s.nv.saved = false) ∧ (s.nv.cur = none)) ∧
    (∃ (c : NvCur) (s : State), (s.Works) ∧ (s.nv.saved = false) ∧ (s.nv.cur = some c) ∧ (((∃ r p,
      c.op = .bases r p ∨ c.op = .basesP r p) ∨ ∃ f a b, c.op = .lastFault f a b))) ∧
    (∃ (s : State), (s.Runs) ∧ (s.nv.saved = true) ∧ (1000 ≤ s.nv.pwrHigh)) ∧
    (∃ (c : NvCur) (s : State), (s.Works) ∧ (s.StoresWf) ∧ (s.nv.saved = false) ∧ (s.nv.cur = some c) ∧ (nvExempt s = false)) :=
  ⟨⟨active, by decide⟩,
     ⟨⟨.bases [] [], [], 0, false, 0, 0, 0⟩, { active with nv := { active.nv with cur := some ⟨.bases [] [], [], 0, false, 0, 0, 0⟩ } }, by decide, rfl, rfl, .inl ⟨[], [], .inl rfl⟩⟩,
     ⟨{ active with nv := { active.nv with saved := true, pwrHigh := 1000 } }, by decide⟩,
     ⟨⟨.prog 0x40 15 [1], [(0x40F00, 1)], 0x40, false, 0, 0, 0⟩, { active with nv := { active.nv with cur := some ⟨.prog 0x40 15 [1], [(0x40F00, 1)], 0x40, false, 0, 0, 0⟩ } }, by decide⟩⟩

theorem witness_spi_traffic :
    (∃ (k : Fin 2) (s : State), (s.dev.rst = false) ∧ (s.ports.spi.length = 2) ∧ ((spiOf s k).sel = false)) ∧
    (∃ (k : Fin 2) (s : State) (h : Fin 3) (a : Nat), (s.Works) ∧ (s.ports.spi.length = 2) ∧ ((spiOf s k).sel = true) ∧
      ((spiOf s k).serve = true) ∧ ((spiOf s k).inData = true) ∧ ((spiOf s k).code = 0) ∧ ((spiOf s k).rd = false) ∧
      (h = (if k = 0 then 0 else 1)) ∧ (a = (spiOf s k).addr)) ∧
    (∃ (k : Fin 2) (s : State), (s.Works) ∧ (s.ports.spi.length = 2) ∧ ((spiOf s k).sel = true) ∧
      ((spiOf s k).serve = true) ∧ ((spiOf s k).inData = true) ∧ ((spiOf s k).code ≠ 0)) ∧
    (∃ (k : Fin 2) (n : Nat) (s : State) (cut : Bool), (s.ports.spi.length = 2) ∧ ((spiOf s k).sel = true) ∧ (s.Works) ∧
      ((spiOf s k).serve = true) ∧ (cut = (!(spiOf s k).rd && (spiOf s k).inData && decide (0 < n) && (spiOf s k).code == 0))) :=
  ⟨⟨1, idle, by decide⟩,
     ⟨1, spiDev 0, 1, (spiOf (spiDev 0) 1).addr, by decide⟩,
     ⟨1, spiDev 3, by decide⟩,
     ⟨1, 7, spiDev 0, true, by decide⟩⟩

theorem witness_two_wire_traffic :
    (∃ (s : State), (s.Works) ∧ (s.StoresWf)) ∧
    (∃ (s : State), (s.Works) ∧ (s.ports.hpc.busy = true) ∧ (s.ports.hpc.serve = true) ∧ (s.ports.hpc.rd = false) ∧
      (s.ports.hpc.nacked = false) ∧ (s.ports.hpc.pecDone = false) ∧ (s.ports.hpc.held = none) ∧ (s.ports.hpc.pec = false)) ∧
    (∃ (w : Word) (s : State), (s.Works) ∧ (s.ports.hpc.busy = true) ∧ (s.ports.hpc.serve = true) ∧
      (s.ports.hpc.rd = false) ∧ (s.ports.hpc.nacked = false) ∧ (s.ports.hpc.pecDone = false) ∧ (s.ports.hpc.held = none) ∧
      (s.ports.hpc.pec = true) ∧ (writeCode s 2 (hpcReg s) w = Err.OK)) ∧
    (∃ (w : Word) (s : State), (s.Works) ∧ (s.ports.hpc.busy = true) ∧ (s.ports.hpc.serve = true) ∧
      (s.ports.hpc.rd = false) ∧ (s.ports.hpc.nacked = false) ∧ (s.ports.hpc.pecDone = false) ∧ (s.ports.hpc.pec = true) ∧
      (s.ports.hpc.held = some w)) ∧
    (∃ (s : State), (s.Works) ∧ (s.ports.hpc.busy = true) ∧ (s.ports.hpc.rd = true) ∧ (s.ports.hpc.serve = true) ∧
      (s.ports.hpc.pecDone = false)) ∧
    (∃ (s : State), (s.ports.hpc.busy = true)) ∧
    (∃ (s : State), (s.ports.hpc.busy = true) ∧ (bit s.ports.hpc.cfg 30 = true)) ∧
    (∃ (n : Nat) (c : Instr) (s : State), (s.Works) ∧ (s.ports.hpc.busy = false) ∧
      (c = .hpcTransferEnd n true ∨ (c = .hpcSclTimeout n ∧ bit (s.reg 0x0209) 30 = true))) ∧
    (∃ (s : State), (s.ports.hpc.busy = false)) :=
  ⟨⟨idle, by decide⟩,
     ⟨hpcDev fun x => { x with cfg := 0x3 }, by decide⟩,
     ⟨1, hpcDev fun x => { x with cfg := 0x80000003, ptr := 0xFF }, by decide⟩,
     ⟨1, hpcDev fun x => { x with cfg := 0x80000003, held := some 1 }, by decide⟩,
     ⟨hpcDev fun x => { x with bytes := [0x21] }, by decide⟩,
     ⟨hpcDev id, by decide⟩,
     ⟨hpcDev fun x => { x with cfg := 0x40000003 }, by decide⟩,
     ⟨1, .hpcTransferEnd 1 true, idle, by decide⟩,
     ⟨idle, by decide⟩⟩

theorem witness_stage_bus_runs :
    (∃ (a : Nat) (b : Nat) (k : Nat) (s : State), (max 1 (fld (s.reg 0x0808) 27 24) ≤ k) ∧
      (a < max 1 (fld (s.reg 0x0808) 27 24)) ∧ (b < max 1 (fld (s.reg 0x0808) 27 24))) ∧
    (∃ (n : Fin 64) (s : State), (sbWorks s = true) ∧ (s.sb.ent.length = 64) ∧ (bit (s.reg (0x0840 + n.val)) 31 = true) ∧
      ((sbEnt s n).dueAt + 100 * (sbEnt s n).per ≤ s.dev.frame)) ∧
    (∃ (i : SbItem) (s : State), (sbWorks s = true) ∧ (s.sb.cur = none) ∧ (s.sb.recov = false) ∧ (s.sb.stuck = false) ∧
      (s.sb.needRecov = false) ∧ (nextItem s = some i)) ∧
    (∃ (s : State), (sbWorks s = true) ∧ (s.sb.cur = none) ∧ (s.sb.recov = false) ∧ (s.sb.stuck = false) ∧
      (s.sb.needRecov = true)) ∧
    (∃ (n : Nat) (cfg : Word) (s : State), (sbWorks s = true) ∧ (s.sb.cur = some (.poll n cfg)) ∧
      (((sbEnt s n).touched = true ∨ pollCfg s n ≠ cfg))) ∧
    (∃ (n : Nat) (cfg : Word) (data : List Byte) (pec : Byte) (s : State), (sbWorks s = true) ∧ (s.sb.ent.length = 64) ∧
      (n < 64) ∧ (s.sb.cur = some (.poll n cfg)) ∧ (pollCfg s n = cfg) ∧ ((sbEnt s n).touched = false) ∧
      (data.length = fld cfg 15 14 + 1) ∧ ((bit cfg 12 = false ∨ crc8 (readBytes cfg data) = pec))) ∧
    (∃ (n : Nat) (cfg : Word) (s : State), (sbWorks s = true) ∧ (s.sb.ent.length = 64) ∧ (n < 64) ∧
      (s.sb.cur = some (.poll n cfg)) ∧ (pollCfg s n = cfg) ∧ ((sbEnt s n).touched = false)) ∧
    (∃ (l : List Bool) (s : State), (lineLevel s true l = true)) ∧
    (∃ (l : List Bool) (s : State), (sbWorks s = true) ∧ (s.sb.cur = some .host) ∧ (s.sb.hbusy = true) ∧
      (isStandby s = true) ∧ (lineLevel s true l = false)) ∧
    (∃ (i : SbItem) (l : List Bool) (s : State), (sbWorks s = true) ∧ (s.sb.cur = some i) ∧ (isStandby s = false) ∧
      (lineLevel s true l = false)) ∧
    (∃ (da : Bool) (cl : Bool) (sda : Bool) (scl : Bool) (x : List Bool) (y : List Bool) (c : Instr) (s : State),
      (sda = lineLevel s da x) ∧ (scl = lineLevel s cl y) ∧ ((c = .busRecovery da cl x y ∧
      (s.sb.recov = true ∨ s.sb.needRecov = true)) ∨ (c = .stuckRecoveryRetry da cl x y ∧ s.sb.stuck = true ∧
      s.sb.lastTry + 10000 ≤ s.dev.frame)) ∧ (sbWorks s = true)) ∧
    (∃ (s : State), (sbWorks s = true) ∧ (s.StoresWf) ∧ (s.sb.cur = some .host)) :=
  ⟨⟨2, 2, 3, sbDev id, by decide⟩,
     ⟨63, withRegs [(0x087F, 0x80000001)] { sbDev id with dev := { idle.dev with frame := 1000 } }, by decide⟩,
     ⟨.host, sbDev fun b => { b with hostPend := true }, by decide⟩,
     ⟨sbDev fun b => { b with needRecov := true }, by decide⟩,
     ⟨63, 0x80000001, withRegs [(0x087F, 0x80000001)] (sbDev fun b => { b with cur := some (.poll 63 0x80000001), ent := List.replicate 64 { SbEntry.init with touched := true } }), by decide⟩,
     ⟨63, 0x80000001, [7], 0, withRegs [(0x087F, 0x80000001)] (sbDev fun b => { b with cur := some (.poll 63 0x80000001) }), by decide⟩,
     ⟨63, 0x80000001, withRegs [(0x087F, 0x80000001)] (sbDev fun b => { b with cur := some (.poll 63 0x80000001) }), by decide⟩,
     ⟨[false, false, true], sbDev id, by decide⟩,
     ⟨[false, false, false], withRegs [(0x0808, 0xA3030000)] (twinDev .standby .ready id |> fun s => { s with sb := { s.sb with cur := some .host, hbusy := true } }), by decide⟩,
     ⟨.host, List.replicate 15 false, sbDev fun b => { b with cur := some .host }, by decide⟩,
     ⟨true, true, true, false, [false, false], [false, false, false], .busRecovery true true [false, false] [false, false, false], sbDev fun b => { b with recov := true }, by decide⟩,
     ⟨sbDev fun b => { b with cur := some .host, hbusy := true }, by decide⟩⟩

theorem witness_counter_wraps :
    (∃ (n : Fin 32) (s : State), (s.Runs) ∧ (s.StoresWf) ∧ (s.begin.perf.wrapped.getD n false = true)) ∧
    (∃ (s : State), (s.Runs) ∧ (s.StoresWf) ∧ (s.perf.bwLeft = 0)) ∧
    (∃ (n : Fin 32) (s : State), (s.begin.perf.wrapped.getD n false = false)) ∧
    (∃ (s : State), (s.perf.bwLeft ≠ 0)) ∧
    (∃ (n : Fin 32) (s : State), (s.Works) ∧ (s.dev.pllUp = true) ∧ (s.dev.fresh = false) ∧ (n.val < s.perf.ctr.length) ∧
      (bit (s.reg 0x0508) n = true) ∧ (bit (s.reg (0x0540 + n.val)) 31 = false) ∧ (fld (s.reg (0x0540 + n.val)) 30 24 = 0x41)) :=
  ⟨⟨31, wrapped, by decide, by decide, by rw [begin_wrapped wrapped (by decide) (by decide)]; decide⟩,
     ⟨{ idle with perf := { idle.perf with bwLeft := 0 } }, by decide⟩,
     ⟨31, idle, by rw [begin_wrapped idle (by decide) (by decide)]; decide⟩,
     ⟨idle, by decide⟩,
     ⟨31, withRegs [(0x0508, 0x80000000), (0x055F, 0x41000000)] { idle with fc := { idle.fc with pend := [⟨0x18, 0, 3, false, true, false, 5, none⟩] } }, by decide⟩⟩

theorem witness_boot_runs_to_its_state :
    (∃ (l : Bool) (s : State), (s.dev.rst = true) ∧ (s.dev.testen = false) ∧ (s.dev.clkStop = false) ∧ (s.dev.st = .boot) ∧
      (s.dev.pllUp = true ∨ l = true)) ∧
    (∃ (s : State), (s.dev.rst = true) ∧ (s.dev.testen = false) ∧ (s.dev.pllUp = false)) ∧
    (∃ (x : BootFinds) (s : State), (s.dev.rst = false) ∧ (s.dev.clkStop = true) ∧ (s.dev.pllUp = false) ∧
      (s.dev.st = .boot) ∧ (s.dev.step1 = some x)) ∧
    (∃ (s : State), (s.Runs) ∧ (s.dev.st = .boot) ∧ (s.dev.pllUp = true)) :=
  ⟨⟨true, State.reset, by decide⟩,
     ⟨State.reset, by decide⟩,
     ⟨⟨false, false, false⟩, stepOne, by decide⟩,
     ⟨booting, by decide⟩⟩

end Sys2Proof.Tests
end

section
/-! PROOFS: what the output balls show outside ACTIVE and under boundary scan (R26, R126, R412, R418, R452). -/

-- The package as one text: its declarations are elaborated one after another, to hold few threads.
set_option Elab.async false

namespace Sys2Proof.Machine

/-- Outside ACTIVE, and while the clocks stand, the rows of R126 before HOLD and RUN decide the state of a generator. -/
theorem gst_not_driving {s : State} (p : Nat) (h : s.dev.clkStop = true ∨ s.dev.st ≠ .active) :
    gst s p ≠ .hold ∧ gst s p ≠ .run := by
  by_cases hf : allFrozen s = true
  · simp [gst, hf]
  obtain ⟨⟨⟨-, hc⟩, hsafe⟩, hlock⟩ : ((s.eng.haltReq = false ∧ s.dev.clkStop = false) ∧ s.dev.st ≠ .safe) ∧ s.dev.st ≠ .locked := by
    simpa [allFrozen] using hf
  have hst : s.dev.st ≠ .active := h.resolve_left (by simp [hc])
  unfold gst
  dsimp only
  rw [if_neg hf]
  -- BOOT and IDLE are in STOP, STANDBY waits or shows the pair's STBY
  cases hd : s.dev.st with
  | boot => simp
  | idle => simp
  | active => exact absurd hd hst
  | safe => exact absurd hd hsafe
  | locked => exact absurd hd hlock
  | standby =>
    simp only [beq_self_eq_true, Bool.true_or, if_true]
    constructor <;> (repeat' split) <;> simp

/-- A phase whose generator neither holds nor runs shows high impedance (R110, R126). -/
theorem pins_hiZ {s : State} {p : Nat} (hs : scanned s = false) (h : s.dev.rst = true ∨ gst s p ≠ .hold ∧ gst s p ≠ .run) :
    pins s p = (.hiZ, .hiZ) := by
  unfold pins
  dsimp only
  rw [if_neg (by simp [hs])]
  split
  · rfl
  · next hg =>
    obtain ⟨h1, h2⟩ := h.resolve_left (by simp at hg; simp [hg.1])
    split <;> simp_all

theorem quiet_of_not_active {s : State} (h : s.dev.rst = true ∨ s.dev.clkStop = true ∨ s.dev.st ≠ .active) : s.Quiet :=
  fun hs _ _ => pins_hiZ hs (h.imp_right (gst_not_driving _))

theorem drvHigh_of_not_active {s : State} (k : Nat) (h : s.dev.rst = true ∨ s.dev.clkStop = true ∨ s.dev.st ≠ .active) :
    drvHigh s k = false := by
  rcases h with h | h | h <;> simp [drvHigh, h]

/-- The scan instructions that take the output balls (R452). -/
theorem scanned_iff {s : State} :
    scanned s = true ↔ s.dev.testen = true ∧ (s.dev.tap = .extest ∨ s.dev.tap = .clamp ∨ s.dev.tap = .highz) := by
  simp [scanned, or_assoc]

theorem ball_scanned {s : State} (h : scanned s = true) (k : Nat) (own : Lvl) : ball s k own = testBall s k := if_pos h
theorem ball_own {s : State} (h : scanned s = false) (k : Nat) (own : Lvl) : ball s k own = own := if_neg (by simp [h])

theorem pins_scanned {s : State} (h : scanned s = true) (p : Nat) :
    pins s p = (scanPin (testBall s p), scanPin (testBall s (48 + p))) := if_pos h

theorem testBall_highz {s : State} (h : s.dev.tap = .highz) (k : Nat) : testBall s k = .hiZ := by simp [testBall, h]

end Sys2Proof.Machine

section
open Sys2Proof Sys2Proof.Machine

/-- Settles O6: the pins through the rows of R126, the balls through the scan that takes them. -/
theorem nothingDrivesOutsideActive : Obligations.NothingDrivesOutsideActive := by
  refine ⟨fun s h => ⟨quiet_of_not_active h, fun k _ => drvHigh_of_not_active k h, fun hs k _ => ?_⟩,
    fun s ht htap => ?_, fun s ht htap => ?_⟩
  · simp [drvPin, ball_own hs, drvHigh_of_not_active k h]
  · have hs : scanned s = true := scanned_iff.2 ⟨ht, htap.imp_right Or.inl⟩
    exact ⟨fun p _ => pins_scanned hs p, fun k _ => ball_scanned hs _ _, ball_scanned hs _ _, fun h _ => ball_scanned hs _ _⟩
  · have hs : scanned s = true := scanned_iff.2 ⟨ht, .inr (.inr htap)⟩
    simp [pins_scanned hs, drvPin, alivePin, irqBall, ball_scanned hs, testBall_highz htap, scanPin]
end
end

section
/-! PROOFS: states that differ in listed parts alone. -/

-- The package as one text: its declarations are elaborated one after another, to hold few threads.
set_option Elab.async false

namespace Sys2Proof.Machine

/-! ### States that differ in listed parts -/

/-- `u` with the listed parts taken from `t`. -/
def State.take (l : List Part) (u t : State) : State :=
  { u with
    cyc := if .cyc ∈ l then t.cyc else u.cyc, clk := if .clk ∈ l then t.clk else u.clk
    bank := if .bank ∈ l then t.bank else u.bank, dev := if .dev ∈ l then t.dev else u.dev
    fc := { (if .log ∈ l then t.fc else u.fc) with pend := if .msgs ∈ l then t.fc.pend else u.fc.pend
                                                   stand := if .stand ∈ l then t.fc.stand else u.fc.stand }
    ports := if .ports ∈ l then t.ports else u.ports, phases := if .phases ∈ l then t.phases else u.phases
    rails := if .rails ∈ l then t.rails else u.rails, doms := if .doms ∈ l then t.doms else u.doms
    eng := if .eng ∈ l then t.eng else u.eng, tripLatch := if .latch ∈ l then t.tripLatch else u.tripLatch
    tripRaw := if .raw ∈ l then t.tripRaw else u.tripRaw, tripCnt := if .tcnt ∈ l then t.tripCnt else u.tripCnt
    aux := if .aux ∈ l then t.aux else u.aux, spa := if .spa ∈ l then t.spa else u.spa
    spp := if .spp ∈ l then t.spp else u.spp, grid := if .grid ∈ l then t.grid else u.grid
    capt := if .capt ∈ l then t.capt else u.capt, cup := if .cup ∈ l then t.cup else u.cup
    sb := if .sb ∈ l then t.sb else u.sb, perf := if .perf ∈ l then t.perf else u.perf
    nv := if .nv ∈ l then t.nv else u.nv, twin := if .twin ∈ l then t.twin else u.twin
    gang := if .gang ∈ l then t.gang else u.gang }

/-- What differs from `u` in the listed parts alone is `u` with those parts of its own. -/
theorem eq_take_of_only {l : List Part} {u t : State} (h : Only l u t) : t = u.take l t := by
  obtain ⟨hp, h⟩ := h
  have part {α : Type} (p : Part) {x y : α} (e : Same p u t → x = y) : x = if p ∈ l then x else y := by
    split
    · rfl
    · next hn => exact e (h p hn)
  have hfc : t.fc = { (if .log ∈ l then t.fc else u.fc) with
      pend := if .msgs ∈ l then t.fc.pend else u.fc.pend, stand := if .stand ∈ l then t.fc.stand else u.fc.stand } := by
    rw [← part .msgs id, ← part .stand id]
    split
    · rfl
    · next hn =>
      have e : { t.fc with pend := u.fc.pend, stand := u.fc.stand } = u.fc := h .log hn
      rw [← e]
  unfold State.take
  rw [← hfc, ← part .cyc id, ← part .clk id, ← part .bank id, ← part .dev id, ← part .ports id, ← part .phases id,
    ← part .rails id, ← part .doms id, ← part .eng id, ← part .latch id, ← part .raw id, ← part .tcnt id, ← part .aux id,
    ← part .spa id, ← part .spp id, ← part .grid id, ← part .capt id, ← part .cup id, ← part .sb id, ← part .perf id,
    ← part .nv id, ← part .twin id, ← part .gang id, ← hp]

end Sys2Proof.Machine
end

section
/-! PROOFS: the fields of a written register, and the checks that a write of a block register meets (R376, R430). -/

-- The package as one text: its declarations are elaborated one after another, to hold few threads.
set_option Elab.async false

namespace Sys2Proof.Machine

/-! ### Fields of words -/

theorem fld_testBit (w : Word) (hi lo i : Nat) : (fld w hi lo).testBit i = (decide (i < hi - lo + 1) && w.getLsbD (lo + i)) := by
  simp [fld, BitVec.getLsbD]

/-- A field is what its bits are. -/
theorem fld_congr {v w : Word} {hi lo : Nat} (h : ∀ i, lo ≤ i → i ≤ hi → v.getLsbD i = w.getLsbD i) (hl : lo ≤ hi := by decide) :
    fld v hi lo = fld w hi lo := by
  refine Nat.eq_of_testBit_eq fun i => ?_
  rw [fld_testBit, fld_testBit]
  by_cases hi' : i < hi - lo + 1
  · rw [h (lo + i) (by omega) (by omega)]
  · simp [hi']

theorem bit_eq (w : Word) (i : Nat) : bit w i = w.getLsbD i := rfl

/-- A bit of a row is a field that a write sets. -/
def RegRow.sets (row : RegRow) (i : Nat) : Bool := row.rwBits.getLsbD i && !(BitVec.ofNat 32 row.w1c).getLsbD i

theorem stored_bit {row : RegRow} {old w : Word} {i : Nat} (h : row.sets i = true) :
    (row.stored old w).getLsbD i = w.getLsbD i := by
  obtain ⟨h1, h2⟩ : row.rwBits.getLsbD i = true ∧ (BitVec.ofNat 32 row.w1c).getLsbD i = false := by
    simpa [RegRow.sets] using h
  have hi : i < 32 := BitVec.lt_of_getLsbD h1
  simp only [RegRow.stored, BitVec.getLsbD_and, BitVec.getLsbD_or, BitVec.getLsbD_not, h1, h2, hi]
  simp

/-- An RW field of the stored word is the field written (R430). -/
theorem fld_stored {row : RegRow} {hi lo : Nat} (old w : Word)
    (h : ∀ i < 32, lo ≤ i → i ≤ hi → row.sets i = true) (hl : lo ≤ hi ∧ hi < 32 := by decide) :
    fld (row.stored old w) hi lo = fld w hi lo :=
  fld_congr (fun i h1 h2 => stored_bit (h i (by omega) h1 h2)) hl.1

/-- The RW bits of the stored word are those written (R430). -/
theorem stored_rwBits (row : RegRow) (old w : Word) : row.stored old w &&& row.rwBits = w &&& row.rwBits := by
  refine BitVec.eq_of_getLsbD_eq fun i hi => ?_
  simp only [RegRow.stored, RegRow.rwBits, BitVec.getLsbD_and, BitVec.getLsbD_or, BitVec.getLsbD_not, hi]
  cases (BitVec.ofNat 32 row.w1c).getLsbD i <;> cases (BitVec.ofNat 32 row.wmask).getLsbD i <;>
    cases (BitVec.ofNat 32 row.wo).getLsbD i <;> simp

/-! ### Registers of the map -/

/-- Address `a` is a block register of page type `t`, number `n` of it, with the masks `row` (R423, R436). -/
structure IsReg (a : Nat) (t : PType) (n : Nat) (row : RegRow) : Prop where
  page : pageType (a / 256) = some (t, n)
  own : 8 ≤ a % 256
  notSel : a % 256 ≠ Reg.PAGE_SEL
  row : regRow a = some row

theorem page_div {pg off : Nat} (h : off < 256 := by decide) : (pg * 256 + off) / 256 = pg := by omega
theorem page_mod {pg off : Nat} (h : off < 256 := by decide) : (pg * 256 + off) % 256 = off := by omega

/-- The masks of the register at an offset of a page type (R436). -/
def PType.rowAt (t : PType) (off : Nat) : RegRow := (t.rows.find? (·.holds off)).getD ⟨0, 0, 0, 0, 0, 0, 0, 0, 0⟩

/-- A register by its page and offset. -/
theorem isReg_of_page {pg off n : Nat} {t : PType} (hp : pageType pg = some (t, n)) (ho : 8 ≤ off ∧ off < 255)
    (hr : (t.rows.find? (·.holds off)).isSome = true) : IsReg (pg * 256 + off) t n (t.rowAt off) := by
  obtain ⟨row, hrow⟩ := Option.isSome_iff_exists.1 hr
  have h1 : (pg * 256 + off) / 256 = pg := page_div (by omega)
  have h2 : (pg * 256 + off) % 256 = off := page_mod (by omega)
  refine ⟨by rw [h1, hp], by omega, by rw [h2]; simp only [Reg.PAGE_SEL]; omega, ?_⟩
  simp only [regRow, h1, h2, hp, PType.rowAt, hrow, Option.getD_some]

theorem pageType_rail (r : Fin 16) : pageType (0x10 + r.val) = some (.rail, r.val) := by revert r; decide
theorem pageType_ph (p : Fin 48) : pageType (0x20 + p.val) = some (.ph, p.val) := by revert p; decide
theorem pageType_rcomp (r : Fin 16) : pageType (0x50 + r.val) = some (.rcomp, r.val) := by revert r; decide
theorem pageType_rtab (r : Fin 16) : pageType (0x60 + r.val) = some (.rtab, r.val) := by revert r; decide

/-! ### The code of a write (R376, R430) -/

@[simp] theorem firstErr_nil : firstErr [] = Err.OK := rfl
@[simp] theorem firstErr_cons (b : Bool) (c : Nat) (l : List (Bool × Nat)) : firstErr ((b, c) :: l) = if b then c else firstErr l := rfl

/-- A condition with a code of its own leaves OK only where it does not hold. -/
theorem firstErr_cons_ok {b : Bool} {c : Nat} {l : List (Bool × Nat)} (hc : c ≠ Err.OK) :
    firstErr ((b, c) :: l) = Err.OK ↔ b = false ∧ firstErr l = Err.OK := by
  cases b <;> simp [hc]

/-- What beginning a command moves is not checked. -/
theorem writeCode_begin (s : State) (c : Option (Fin 3)) (d : Option Nat) (m : Bool) (h a : Nat) (w : Word) :
    writeCode (s.begin c d m) h a w = writeCode s h a w := rfl

/-- The checks that a write of a block register meets (R376). -/
theorem writeCode_reg {a n : Nat} {t : PType} {row : RegRow} (hr : IsReg a t n row) (s : State) (h : Nat) (w : Word) :
    writeCode s h a w = firstErr [
      (!mayWrite s h (a / 256) (a % 256) w, Err.DENIED),
      (isStandby s && a / 256 != Pg.TWIN && !alwaysServed (a / 256) (a % 256), Err.TWIN_RO),
      (s.dev.st == .locked && !alwaysServed (a / 256) (a % 256), Err.LOCKED),
      (row.wmask == 0, Err.RO),
      (true, chkReg s a row t n w)] := by
  have h1 : ¬ a % 256 < 7 := by have := hr.own; omega
  have h2 : ¬ a % 256 < 8 := by have := hr.own; omega
  have h3 : (a % 256 == Reg.PAGE_SEL) = false := by simp [hr.notSel]
  unfold writeCode
  simp only [hr.page, hr.row, h1, h2, h3, decide_false, Bool.or_false, Bool.false_eq_true, if_false, Bool.not_false, Bool.true_and,
    Option.isNone_some, Bool.false_and, firstErr_cons, firstErr_nil, bne, Bool.not_not, if_true]

/-- An accepted write of a block register has met the register's own checks (R376). -/
theorem chkReg_of_takes {a n : Nat} {t : PType} {row : RegRow} {s : State} {h : Fin 3} {w : Word} (hr : IsReg a t n row)
    (ht : s.Takes h a w) : chkReg s a row t n w = Err.OK := by
  have hw := ht.2
  rw [writeCode_reg hr, firstErr_cons_ok (by decide), firstErr_cons_ok (by decide), firstErr_cons_ok (by decide),
    firstErr_cons_ok (by decide)] at hw
  obtain ⟨-, -, -, -, hk⟩ := hw
  simpa using hk

/-- The lock and the idle state of the page guard a write: it changes an RWL field (R430, R431). -/
def RegRow.guards (row : RegRow) (old w : Word) : Bool :=
  row.rwl != 0 && (row.wmask == row.rwl || (old ^^^ w) &&& BitVec.ofNat 32 row.rwl != 0)

/-- An accepted write has met the block's own checks. -/
theorem chkBlock_of_takes {a n : Nat} {t : PType} {row : RegRow} {s : State} {h : Fin 3} {w : Word} (hr : IsReg a t n row)
    (ht : s.Takes h a w) : chkBlock s t n (a % 256) w = Err.OK := by
  have hk := chkReg_of_takes hr ht
  unfold chkReg at hk
  rw [firstErr_cons_ok (by decide), firstErr_cons_ok (by decide), firstErr_cons_ok (by decide)] at hk
  obtain ⟨-, -, -, hk⟩ := hk
  simpa using hk

/-- What is left of the checks of a write that is asked for: the page is idle where it guards, then the block's own (R376). -/
theorem writeCode_asks {a n : Nat} {t : PType} {row : RegRow} {s : State} {h : Fin 3} {w : Word} (hr : IsReg a t n row)
    (hw : row.wmask ≠ 0) (ha : s.Asks h a w) :
    writeCode s h a w =
      if row.guards (s.reg a) w && !blockIdle s (a / 256) then Err.STATE else chkBlock s t n (a % 256) w := by
  obtain ⟨-, hm, hsb, hlk, hpg, hrv⟩ := ha
  have hrv : w &&& BitVec.ofNat 32 row.resv = 0 := by simpa [hr.row] using hrv
  have hl : (s.dev.st == .locked) = false := by simpa using hlk
  rw [writeCode_reg hr]
  simp only [firstErr_cons, firstErr_nil, hm, hsb, hl, hw, chkReg, hpg, hrv, RegRow.guards, Bool.not_true, Bool.false_and, Bool.and_false,
    Bool.false_eq_true, if_false, if_true, bne_self_eq_false, beq_iff_eq]
  rfl

end Sys2Proof.Machine
end

section
/-! PROOFS: what an accepted write of a block register does up to its effect (R376-R379, R310). -/

-- The package as one text: its declarations are elaborated one after another, to hold few threads.
set_option Elab.async false

namespace Sys2Proof.Machine

/-! ### An accepted write, up to its effect (R376-R379, R310) -/

/-- Writes queued for a standby (R310), and the place of the copy (R314), once a write is accepted. -/
def State.queuedBy (s : State) (h : Fin 3) (a : Nat) (w : Word) : List (BitVec 16 × Word) :=
  if s.twin.pst == .primary && replicates a then s.twin.wrq ++ [(slotAddr h a, w)] else s.twin.wrq
def State.copiedBy (s : State) (a : Nat) (w : Word) : Option Nat :=
  if s.twin.pst == .primary && replicates a then recopy a w s.twin.copied else s.twin.copied

/-- The state in which an accepted write is carried out: it is counted, queued for the standby, and a remembered read of PG_ID is over. -/
def State.accessed (s : State) (h : Fin 3) (a : Nat) (w : Word) : State :=
  { s with perf := (Machine.perf 0x30 h 1 (skipNamed a w s)).perf, ports := { s.ports with idRead := s.ports.idRead.set h none }
           twin := { s.twin with wrq := s.queuedBy h a w, copied := s.copiedBy a w } }

theorem acceptWrite_eq (h : Fin 3) (a : Nat) (w : Word) (s : State) :
    acceptWrite h a w s = applyWrite h a w (s.accessed h a w) := by
  have hp : Machine.perf 0x30 h 1 (skipNamed a w s) = { s with perf := (Machine.perf 0x30 h 1 (skipNamed a w s)).perf } :=
    eq_take_of_only (only_trans (skipNamed_only s a w) (perf_only _ _ _ _))
  unfold acceptWrite State.accessed State.queuedBy State.copiedBy
  rw [hp]
  dsimp only
  split <;> rfl

/-- The state after an accepted write of a block register with the masks `row`, before its effect. -/
def State.written (s : State) (h : Fin 3) (a : Nat) (w : Word) (row : RegRow) : State :=
  ((s.begin h).accessed h a w).setReg a (row.stored (s.reg a) w)

section
variable (s : State) (h : Fin 3) (a : Nat) (w : Word) (row : RegRow)

@[simp] theorem written_ph (p : Nat) : (s.written h a w row).ph p = s.ph p := rfl
@[simp] theorem written_rail (r : Nat) : (s.written h a w row).rail r = s.rail r := rfl
@[simp] theorem written_phases : (s.written h a w row).phases = s.phases := rfl
@[simp] theorem written_rails : (s.written h a w row).rails = s.rails := rfl
@[simp] theorem written_fc : (s.written h a w row).fc = s.fc := rfl
@[simp] theorem written_aux : (s.written h a w row).aux = s.aux := rfl

/-- Only what every accepted access may move has moved. -/
theorem written_eq_wrote : s.written h a w row = s.wrote (s.written h a w row) := rfl

variable {s h a w row}

theorem written_reg (hs : s.StoresWf) : (s.written h a w row).reg a = row.stored (s.reg a) w := reg_setReg_same hs.1
theorem written_reg_ne {k : Nat} (hk : k ≠ a) : (s.written h a w row).reg k = s.reg k := reg_setReg_ne hk

theorem written_sameRegs : SameRegs [a] s (s.written h a w row) := fun _ hk => written_reg_ne (by simpa using hk)

/-- An RW field of the register reads as written. -/
theorem written_fld {hi lo : Nat} (hs : s.StoresWf) (hf : ∀ i < 32, lo ≤ i → i ≤ hi → row.sets i = true)
    (hl : lo ≤ hi ∧ hi < 32 := by decide) : fld ((s.written h a w row).reg a) hi lo = fld w hi lo := by
  rw [written_reg hs, fld_stored _ _ hf hl]
theorem written_bit {i : Nat} (hs : s.StoresWf) (hi : row.sets i = true) : bit ((s.written h a w row).reg a) i = bit w i := by
  rw [written_reg hs, bit_eq, bit_eq, stored_bit hi]

/-- A host whose port is served and whose write passes the checks has it carried out. -/
theorem writeCmd_takes (ht : s.Takes h a w) : writeCmd h a w (s.begin h) = applyWrite h a w ((s.begin h).accessed h a w) := by
  obtain ⟨⟨⟨h1, h2⟩, h3⟩, hc⟩ := ht
  have hs : served (s.begin h) = true := served_iff.2 ⟨h1, h2, h3⟩
  have hw : writeCode (s.begin h) h a w = Err.OK := hc
  rw [writeCmd_accepted hs hw, acceptWrite_eq]

/-- Of a block register the fields are stored, then the write has its effect (R430). -/
theorem writeCmd_reg {t : PType} {n : Nat} (hr : IsReg a t n row) (hl : a ≠ Pg.FC * 256 + Reg.FC_LOGSEL) (ht : s.Takes h a w) :
    writeCmd h a w (s.begin h) = effectBlock h a t (s.reg a) w (s.written h a w row) := by
  have h8 := hr.own
  have hsel : a % 256 ≠ 255 := hr.notSel
  have hst : store h a w ((s.begin h).accessed h a w) = s.written h a w row := by
    unfold store
    dsimp only
    split
    case h_7 => rw [if_neg hl, hr.row]; rfl
    all_goals omega
  rw [writeCmd_takes ht]
  unfold applyWrite
  rw [hr.page]
  dsimp only
  rw [hst, if_neg (by simp only [Reg.PG_FORCE]; omega), if_neg (by simp [hr.notSel]; omega)]
  rfl

end

/-- What the effect of a write moves, beside what every accepted access may move, registers among it. -/
theorem written_frame (l : List Part) {s t : State} {h : Fin 3} {a : Nat} {w : Word} {row : RegRow}
    (ho : Only (.bank :: l) (s.written h a w row) t)
    (hl : ∀ p ∈ [Part.bank, .clk, .perf, .ports, .twin], p ∉ l := by decide) : t = (s.wrote t).take l t := by
  have part (p : Part) (hp : p ∈ [Part.clk, .perf, .ports, .twin]) : Same p (s.written h a w row) t := by
    refine ho.2 p fun hm => ?_
    rcases List.mem_cons.1 hm with rfl | hm
    · simp at hp
    · exact hl p (List.mem_cons_of_mem _ hp) hm
  have hc : t.clk = (s.written h a w row).clk := part .clk (by decide)
  have hp : t.perf = (s.written h a w row).perf := part .perf (by decide)
  have hq : t.ports = (s.written h a w row).ports := part .ports (by decide)
  have ht : t.twin = (s.written h a w row).twin := part .twin (by decide)
  have e : s.wrote t = { s.written h a w row with bank := t.bank } := by
    unfold State.wrote
    rw [hc, hp, hq, ht]
    rfl
  have hb : Part.bank ∉ l := hl _ (by decide)
  refine (eq_take_of_only ho).trans ?_
  rw [e]
  simp [State.take, hb]

/-! ### Which effect a page's write has -/

theorem effectBlock_ph (h p off : Nat) (old w : Word) (u : State) (ho : off < 256 := by decide) :
    effectBlock h ((0x20 + p) * 256 + off) .ph old w u = effectPh p off old w u := by
  simp only [effectBlock]
  rw [page_div ho, page_mod ho, Nat.add_sub_cancel_left]

theorem effectBlock_rail (h r off : Nat) (old w : Word) (u : State) (ho : off < 256 := by decide) :
    effectBlock h ((0x10 + r) * 256 + off) .rail old w u = effectRail r off w u := by
  simp only [effectBlock]
  rw [page_div ho, page_mod ho, Nat.add_sub_cancel_left]

/-- REGISTER_WRITE writes the register it names. -/
theorem exec_registerWrite {n : Nat} (h : Fin 3) (w : Word) (s : State) (hn : n < 65536) :
    exec (.registerWrite h (BitVec.ofNat 16 n) w) s = .next (writeCmd h n w (s.begin h)) := by
  show Host.Outcome.next (writeCmd h (BitVec.ofNat 16 n).toNat w (s.begin h)) = _
  rw [BitVec.toNat_ofNat, Nat.mod_eq_of_lt hn]

/-- An accepted REGISTER_WRITE of a rail page's register stores its fields and has the register's effect. -/
theorem railRegWrite_takes {s : State} {h : Fin 3} {r : Fin 16} {off : Nat} {w : Word} (ht : s.Takes h ((0x10 + r.val) * 256 + off) w)
    (ho : 8 ≤ off ∧ off < 255) (hrow : (PType.rail.rows.find? (·.holds off)).isSome = true) :
    exec (.registerWrite h (BitVec.ofNat 16 ((0x10 + r.val) * 256 + off)) w) s =
      .next (effectRail r off w (s.written h ((0x10 + r.val) * 256 + off) w (PType.rail.rowAt off))) := by
  have hr := r.isLt
  rw [exec_registerWrite h w s (by omega), writeCmd_reg (isReg_of_page (pageType_rail r) ho hrow)
    (by simp only [Pg.FC, Reg.FC_LOGSEL]; omega) ht, effectBlock_rail h r off _ _ _ (by omega)]

end Sys2Proof.Machine
end

section
/-! PROOFS: the assignment of a phase to a rail (R34). -/

-- The package as one text: its declarations are elaborated one after another, to hold few threads.
set_option Elab.async false

namespace Sys2Proof.Machine

/-! ### PH_CFG (R34) -/

theorem isReg_phCfg (p : Fin 48) : IsReg ((0x20 + p.val) * 256 + 0x08) .ph p (PType.ph.rowAt 0x08) :=
  isReg_of_page (pageType_ph p) (by decide) (by decide)

theorem railOf_eq_some {s : State} {p r : Nat} : railOf s p = some r ↔ r < 16 ∧ fld (s.pr p Reg.PH_CFG) 4 0 = r := by
  simp only [railOf]
  split <;> simp <;> omega

theorem railOf_lt {s : State} {p r : Nat} (h : railOf s p = some r) : r < 16 := (railOf_eq_some.1 h).1

/-- A phase keeps its rail where its PH_CFG is the same. -/
theorem railOf_congr {s t : State} {p : Nat} (h : t.pr p Reg.PH_CFG = s.pr p Reg.PH_CFG) : railOf t p = railOf s p := by
  simp only [railOf, h]

/-- The first condition of R34, as the model evaluates it. -/
theorem mayAssign_iff {s : State} {p n : Nat} :
    s.MayAssign p n ↔ (railBusy s p || enOf s p || (decide (n < 16) && outOfOff s n)) = false := by
  simp only [State.MayAssign, railBusy, outOfOff, Bool.or_eq_false_iff, Bool.and_eq_false_imp, decide_eq_true_eq,
    Bool.not_eq_false']
  constructor
  · rintro ⟨h1, h2, h3⟩
    refine ⟨⟨?_, h3⟩, h2⟩
    split
    · next r hr => simpa using h1 r (railOf_lt hr) hr
    · rfl
  · rintro ⟨⟨h1, h3⟩, h2⟩
    refine ⟨fun r _ hr => ?_, h2, h3⟩
    simpa [hr] using h1

/-- A phase page is idle while its rail is in OFF and its generator is disabled (R431). -/
theorem blockIdle_ph (s : State) (p : Fin 48) : blockIdle s (0x20 + p.val) = (!railBusy s p && !enOf s p) := by
  have hp := p.isLt
  unfold blockIdle railBusy
  dsimp only
  rw [if_neg (by simp [Pg.RAIL, Pg.PH]), if_pos (by simp [Pg.PH, Pg.RCOMP]; omega), show 0x20 + p.val - Pg.PH = p.val by simp [Pg.PH]]
  cases railOf s p <;> simp [outOfOff]

theorem fullFor_iff {s : State} {p n : Nat} :
    s.FullFor p n ↔ (decide (n < 16) && decide (24 ≤ ((phasesOf s n).filter (· != p)).length)) = true := by
  simp [State.FullFor]

/-- The condition of R34 that is left when the phase's own page is idle: the rail named is in OFF. -/
theorem mayAssign_split {s : State} {p : Fin 48} {n : Nat} (h : s.MayAssign p n) : blockIdle s (0x20 + p.val) = true := by
  rw [mayAssign_iff] at h
  rw [blockIdle_ph]
  revert h
  cases railBusy s p <;> cases enOf s p <;> simp

/-- The checks of a PH_CFG write that is asked for: the page's, then the register's own (R430, R431). -/
theorem writeCode_phCfg {s : State} {h : Fin 3} {p : Fin 48} {w : Word} (ha : s.Asks h ((0x20 + p.val) * 256 + 0x08) w) :
    writeCode s h ((0x20 + p.val) * 256 + 0x08) w = if blockIdle s (0x20 + p.val) then chkPhCfg s p w else Err.STATE := by
  rw [writeCode_asks (isReg_phCfg p) (by decide) ha, page_div, page_mod]
  have hg : ∀ old, (PType.ph.rowAt 0x08).guards old w = true := fun _ => rfl
  simp only [hg, Bool.true_and, chkBlock, chkPh]
  cases blockIdle s (0x20 + p.val) <;> rfl

/-- STATE where the first conditions fail; they are evaluated before the rail's room (R34). -/
theorem writeCode_phCfg_state {s : State} {h : Fin 3} {p : Fin 48} {w : Word} (ha : s.Asks h ((0x20 + p.val) * 256 + 0x08) w)
    (hn : fld w 4 0 < 16 ∨ fld w 4 0 = 31) (hm : ¬ s.MayAssign p (fld w 4 0)) :
    writeCode s h ((0x20 + p.val) * 256 + 0x08) w = Err.STATE := by
  rw [writeCode_phCfg ha]
  split
  · rw [mayAssign_iff, Bool.not_eq_false] at hm
    have h1 : (decide (0x10 ≤ fld w 4 0) && fld w 4 0 != 0x1F) = false := by
      rcases hn with hn | hn <;> simp [hn]
    simp only [chkPhCfg, firstErr_cons, hm, h1, if_true, Bool.false_eq_true, if_false]
  · rfl

/-- With the first conditions met the rail's room decides (R34). -/
theorem writeCode_phCfg_may {s : State} {h : Fin 3} {p : Fin 48} {w : Word} (ha : s.Asks h ((0x20 + p.val) * 256 + 0x08) w)
    (hn : fld w 4 0 < 16 ∨ fld w 4 0 = 31) (hm : s.MayAssign p (fld w 4 0)) :
    writeCode s h ((0x20 + p.val) * 256 + 0x08) w = if s.FullFor p (fld w 4 0) then Err.RANGE else Err.OK := by
  rw [writeCode_phCfg ha, if_pos (mayAssign_split hm)]
  rw [mayAssign_iff] at hm
  have h1 : (decide (0x10 ≤ fld w 4 0) && fld w 4 0 != 0x1F) = false := by
    rcases hn with hn | hn <;> simp [hn]
  simp only [chkPhCfg, firstErr_cons, firstErr_nil, hm, h1, Bool.false_eq_true, if_false, fullFor_iff]

theorem mayAssign_of_takes {s : State} {h : Fin 3} {p : Fin 48} {w : Word} (ht : s.Takes h ((0x20 + p.val) * 256 + 0x08) w) :
    s.MayAssign p (fld w 4 0) ∧ ¬ s.FullFor p (fld w 4 0) := by
  have hk : chkPhCfg s p w = Err.OK := by
    have hb := chkBlock_of_takes (isReg_phCfg p) ht
    rwa [page_mod] at hb
  unfold chkPhCfg at hk
  rw [firstErr_cons_ok (by decide), firstErr_cons_ok (by decide), firstErr_cons_ok (by decide)] at hk
  obtain ⟨-, hm, hf, -⟩ := hk
  exact ⟨mayAssign_iff.2 hm, by rw [fullFor_iff, hf]; simp⟩

/-- An accepted PH_CFG write ends in the fields stored and the condition NONE (R34, R208). -/
theorem phCfgWrite_takes {s : State} {h : Fin 3} {p : Fin 48} {w : Word} (ht : s.Takes h ((0x20 + p.val) * 256 + 0x08) w) :
    exec (.phCfgWrite h p w) s = .next
      ((s.written h ((0x20 + p.val) * 256 + 0x08) w (PType.ph.rowAt 0x08)).modPh p fun x => { x with pst := .none }) := by
  show Host.Outcome.next (writeCmd h _ w (s.begin h)) = _
  rw [writeCmd_reg (isReg_phCfg p) (by simp only [Pg.FC, Reg.FC_LOGSEL]; omega) ht, effectBlock_ph h p 0x08]
  rfl

/-- The rails of all phases after an accepted PH_CFG write (R34). -/
theorem railOf_written_phCfg {s : State} {h : Fin 3} {p : Fin 48} {w : Word} (hs : s.StoresWf) :
    railOf (s.written h ((0x20 + p.val) * 256 + 0x08) w (PType.ph.rowAt 0x08)) p = if fld w 4 0 < 16 then some (fld w 4 0) else none := by
  have : fld ((s.written h ((0x20 + p.val) * 256 + 0x08) w (PType.ph.rowAt 0x08)).pr p Reg.PH_CFG) 4 0 = fld w 4 0 := written_fld hs (by decide)
  simp only [railOf, this]

theorem railOf_written_ne {s : State} {h : Fin 3} {p q : Nat} {w : Word} {row : RegRow} (hq : q ≠ p) :
    railOf (s.written h ((0x20 + p) * 256 + 0x08) w row) q = railOf s q :=
  railOf_congr (written_reg_ne (by simp only [Reg.PH_CFG]; omega))

/-! ### Rejections (R377) -/

/-- A rejected write leaves its code, its address and a count in the host's error register (R377). -/
theorem reject_err (h a code : Nat) (s : State) : (reject h a code s).ports.err =
    s.ports.err.set h ⟨code, satInc 255 (s.ports.err.getD h ⟨0, 0, 0⟩).cnt, a⟩ := by
  unfold reject
  dsimp only
  rw [only_ports (perf_only _ _ _ _), only_ports (event_only _ _ _), only_ports (setEvt_only _ _ _)]

/-- Of the registers it leaves all but PG_EVT of the HOST page. -/
theorem reject_reg {h a code k : Nat} {s : State} (hk : k ≠ 0x0203) : (reject h a code s).reg k = s.reg k := by
  unfold reject
  dsimp only
  rw [only_reg (perf_only _ _ _ _), only_reg (event_only _ _ _)]
  exact reg_setReg_ne hk

theorem railOf_reject (h a code : Nat) (s : State) (q : Nat) : railOf (reject h a code s) q = railOf s q :=
  railOf_congr (reject_reg (by simp only [Reg.PH_CFG]; omega))

/-- A write that the checks refuse is a rejection (R376, R377). -/
theorem writeCmd_refused {s : State} {h : Fin 3} {a : Nat} {w : Word} (hw : s.Works) (hc : writeCode s h a w ≠ Err.OK) :
    writeCmd h a w (s.begin h) = reject h a (writeCode s h a w) (s.begin h) := by
  obtain ⟨⟨h1, h2⟩, h3⟩ := hw
  have hs : served (s.begin h) = true := served_iff.2 ⟨h1, h2, h3⟩
  exact writeCmd_rejected hs hc

/-- A refused PH_CFG write records its code and assigns no phase (R34, R377). -/
theorem phCfgWrite_refused {s : State} {h : Fin 3} {p : Fin 48} {w : Word} {e : Nat} (hw : s.Works)
    (hc : writeCode s h ((0x20 + p.val) * 256 + 0x08) w = e) (he : e ≠ Err.OK) :
    ∃ t, exec (.phCfgWrite h p w) s = .next t ∧
      t.ports.err = s.ports.err.set h ⟨e, satInc 255 (s.ports.err.getD h ⟨0, 0, 0⟩).cnt, (0x20 + p.val) * 256 + 0x08⟩ ∧
      ∀ q < 48, railOf t q = railOf s q := by
  subst hc
  refine ⟨_, congrArg Host.Outcome.next (writeCmd_refused hw he), reject_err _ _ _ _, fun q _ => railOf_reject _ _ _ _ q⟩

end Sys2Proof.Machine

section
open Sys2Proof Sys2Proof.Machine

/-- Settles O10: the code of a PH_CFG write by the conditions of R34, then what an accepted and a refused one leave. -/
theorem assignmentIsGuarded : Obligations.AssignmentIsGuarded := by
  refine ⟨fun h p w s ht => mayAssign_of_takes ht, fun h p w s _ ha hn hm _ => ?_, fun h p w s _ ha hm hf => ?_,
    fun h p w s hs ha hn hm hf => ?_, fun h p w s _ hw hc => ?_⟩
  · exact phCfgWrite_refused ha.1 (writeCode_phCfg_state ha hn hm) (by decide)
  · exact phCfgWrite_refused ha.1 ((writeCode_phCfg_may ha (.inl hf.1) hm).trans (if_pos hf)) (by decide)
  · have ht : s.Takes h ((0x20 + p.val) * 256 + 0x08) w := ⟨ha.1, (writeCode_phCfg_may ha hn hm).trans (if_neg hf)⟩
    exact ⟨_, phCfgWrite_takes ht, railOf_written_phCfg hs, fun q _ hq => railOf_written_ne hq⟩
  · obtain ⟨t, ht, -, hr⟩ := phCfgWrite_refused hw rfl hc
    exact ⟨t, ht, hr⟩
end
end

section
/-! PROOFS: folds over phases and over registers. -/

-- The package as one text: its declarations are elaborated one after another, to hold few threads.
set_option Elab.async false

namespace Sys2Proof.Machine

/-! ### Folds, among them over phases and over registers -/

/-- A fold that names `a`, of which every step keeps `P` and `Q` and the one of `a` makes `P` of `Q`, ends in `P`. -/
theorem foldl_of_mem {α β : Type} {P Q : β → Prop} {f : β → α → β} {a : α} (hQ : ∀ b c, Q b → Q (f b c)) (hP : ∀ b c, P b → P (f b c))
    (ha : ∀ b, Q b → P (f b a)) {l : List α} (h : a ∈ l) {b : β} (hb : Q b) : P (l.foldl f b) := by
  induction l generalizing b with
  | nil => simp at h
  | cons c l ih =>
    rcases List.mem_cons.1 h with rfl | h
    · exact foldl_keeps hP l (ha b hb)
    · exact ih h (hQ b c hb)

section
variable {f : Nat → Phase → Phase} {s : State} {q : Nat}

/-- Phases that a fold does not name stay as they are. -/
theorem ph_zipFold_of_not_mem {l : List Nat} (h : q ∉ l) (n : Nat) :
    ((l.zipIdx n).foldl (fun s x => s.modPh x.1 (f x.2)) s).ph q = s.ph q := by
  induction l generalizing s n with
  | nil => rfl
  | cons a l ih =>
    rw [List.mem_cons, not_or] at h
    rw [List.zipIdx_cons, List.foldl_cons, ih h.2, ph_modPh_ne _ _ _ _ h.1]

/-- The phase of rank `k` in a list without repetition changes once, by the function of its rank. -/
theorem ph_zipFold_of_mem {l : List Nat} (hl : l.Nodup) {k : Nat} (h : l[k]? = some q) (hq : q < 48) (n : Nat) :
    ((l.zipIdx n).foldl (fun s x => s.modPh x.1 (f x.2)) s).ph q = f (n + k) (s.ph q) := by
  induction l generalizing s n k with
  | nil => simp at h
  | cons a l ih =>
    rw [List.nodup_cons] at hl
    rw [List.zipIdx_cons, List.foldl_cons]
    cases k with
    | zero =>
      obtain rfl : a = q := by simpa using h
      rw [ph_zipFold_of_not_mem hl.1, ph_modPh_same _ _ _ hq, Nat.add_zero]
    | succ k =>
      have hk : l[k]? = some q := by simpa using h
      have hne : q ≠ a := fun e => hl.1 (e ▸ List.mem_of_getElem? hk)
      rw [ih hl.2 hk, ph_modPh_ne _ _ _ _ hne, show n + 1 + k = n + (k + 1) by omega]

end

section
variable {key : Nat → Nat} {v : Word} {s : State}

/-- A register that a fold of writes does not name keeps its word. -/
theorem reg_setFold_of_not_mem {l : List Nat} {k : Nat} (h : ∀ q ∈ l, k ≠ key q) :
    (l.foldl (fun s q => s.setReg (key q) v) s).reg k = s.reg k := by
  induction l generalizing s with
  | nil => rfl
  | cons a l ih =>
    rw [List.foldl_cons, ih fun q hq => h q (by simp [hq]), reg_setReg_ne (h a (by simp))]

/-- A register that a fold of writes of one word names holds that word. -/
theorem reg_setFold_of_mem (hk : Function.Injective key) {l : List Nat} {q : Nat} (hs : swf defaultWord s.bank) (h : q ∈ l) :
    (l.foldl (fun s q => s.setReg (key q) v) s).reg (key q) = v := by
  induction l generalizing s with
  | nil => simp at h
  | cons a l ih =>
    rw [List.foldl_cons]
    by_cases hq : q ∈ l
    · exact ih (setReg_swf hs) hq
    · obtain rfl : q = a := by simpa [hq] using h
      rw [reg_setFold_of_not_mem fun q' hq' e => hq (by rwa [hk e]), reg_setReg_same hs]

end

end Sys2Proof.Machine
end

section
/-! PROOFS: accepted writes of PH_CFG and RAIL_CFG (R20, R34). -/

-- The package as one text: its declarations are elaborated one after another, to hold few threads.
set_option Elab.async false

namespace Sys2Proof.Machine

/-! ### What the words of other registers leave -/

/-- The rails of the phases, their sets, after a write elsewhere than in PH_CFG. -/
theorem phasesOf_congr {s t : State} (h : ∀ p < 48, t.pr p Reg.PH_CFG = s.pr p Reg.PH_CFG) (r : Nat) : phasesOf t r = phasesOf s r :=
  List.filter_congr fun p hp => by rw [railOf_congr (h p (List.mem_range.1 hp))]

theorem activeOf_congr {s t : State} (h : ∀ p < 48, t.pr p Reg.PH_CFG = s.pr p Reg.PH_CFG) (hp : ∀ p, (t.ph p).pst = (s.ph p).pst) (r : Nat) :
    activeOf t r = activeOf s r := by
  unfold activeOf
  rw [phasesOf_congr h]
  exact List.filter_congr fun p _ => by rw [hp]

/-- Whether a feed-forward channel has failed: by the rail's FFSRC, the conditions of the channels, and the auxiliary converter (R23). -/
theorem ffFailed_congr {s t : State} {r : Nat} (hc : t.rr r Reg.RAIL_CFG = s.rr r Reg.RAIL_CFG)
    (hv : ∀ f, vsFailed t f = vsFailed s f) (ha : t.aux = s.aux) : ffFailed t r = ffFailed s r := by
  unfold ffFailed ffsrc auxFailed
  rw [hc, ha, funext hv]

/-! ### PH_CFG and RAIL_CFG (R20, R23, R34) -/

theorem phCfgWrite_acts {s : State} {h : Fin 3} {p : Fin 48} {w : Word} (hs : s.StoresWf)
    (ht : s.Takes h ((0x20 + p.val) * 256 + 0x08) w) :
    ∃ t, exec (.phCfgWrite h p w) s = .next t ∧ t = { s.wrote t with phases := t.phases } ∧
      SameRegs [(0x20 + p.val) * 256 + 0x08] s t ∧
      railOf t p = (if fld w 4 0 < 16 then some (fld w 4 0) else none) ∧ fld (t.pr p 0x08) 9 8 = fld w 9 8 ∧
      (∀ q, q ≠ p.val → railOf t q = railOf s q) ∧ t.ph p = { s.ph p with pst := .none } ∧ OtherPhases p s t :=
  ⟨_, phCfgWrite_takes ht, written_frame [.phases] (only_mono (modPh_only _ _ _)), written_sameRegs, railOf_written_phCfg hs, written_fld hs (by decide),
    fun _ hq => railOf_written_ne hq, ph_modPh_same _ _ _ p.isLt, fun _ hq => ph_modPh_ne _ _ _ _ hq⟩

theorem railCfgWrite_acts {s : State} {h : Fin 3} {r : Fin 16} {w : Word} (hs : s.StoresWf)
    (ht : s.Takes h ((0x10 + r.val) * 256 + 0x08) w) :
    ∃ t, exec (.railCfgWrite h r w) s = .next t ∧ t = { s.wrote t with rails := t.rails } ∧
      SameRegs [(0x10 + r.val) * 256 + 0x08] s t ∧
      topo t r = fld w 1 0 ∧ cascade t r = bit w 2 ∧ qtyInv t r = bit w 3 ∧ domOf t r = fld w 5 4 ∧ fscope t r = bit w 6 ∧
      ffsrc t r = fld w 13 8 ∧ t.rail r = { s.rail r with ffLost := ffFailed t r } ∧ OtherRails r s t := by
  have hr : IsReg ((0x10 + r.val) * 256 + 0x08) .rail r (PType.rail.rowAt 0x08) :=
    isReg_of_page (pageType_rail r) (by decide) (by decide)
  obtain ⟨u, hu⟩ : ∃ u, u = s.written h ((0x10 + r.val) * 256 + 0x08) w (PType.rail.rowAt 0x08) := ⟨_, rfl⟩
  have he : exec (.railCfgWrite h r w) s = .next (u.modRail r fun x => { x with ffLost := ffFailed u r }) := by
    show Host.Outcome.next (writeCmd h _ w (s.begin h)) = _
    rw [writeCmd_reg hr (by simp only [Pg.FC, Reg.FC_LOGSEL]; omega) ht, effectBlock_rail h r 0x08, hu]
    rfl
  have hf : ffFailed (u.modRail r fun x => { x with ffLost := ffFailed u r }) r = ffFailed u r := by
    refine ffFailed_congr rfl (fun f => ?_) rfl
    simp only [vsFailed, rail_modRail]
    split <;> rfl
  refine ⟨_, he, ?_, ?_, ?_, ?_, ?_, ?_, ?_, ?_, ?_, ?_⟩
  · subst hu; exact written_frame [.rails] (only_mono (modRail_only _ _ _))
  · subst hu; exact written_sameRegs
  · subst hu; exact written_fld hs (by decide)
  · subst hu; exact written_bit hs (by decide)
  · subst hu; exact written_bit hs (by decide)
  · subst hu; exact written_fld hs (by decide)
  · subst hu; exact written_bit hs (by decide)
  · subst hu; exact written_fld hs (by decide)
  · rw [hf, rail_modRail_same _ _ _ r.isLt, hu]; rfl
  · intro q hq; rw [rail_modRail_ne _ _ _ _ hq, hu]; rfl

end Sys2Proof.Machine
end

section
/-! PROOFS: an accepted write of PH_PER on a rail out of OFF (R125, R214). -/

-- The package as one text: its declarations are elaborated one after another, to hold few threads.
set_option Elab.async false

namespace Sys2Proof.Machine

/-! ### PH_PER of a rail out of OFF (R125, R214) -/

theorem fld_low16 (w : Word) : fld (BitVec.ofNat 32 (fld w 15 0)) 15 0 = fld w 15 0 := by
  have h : fld w 15 0 < 65536 := Nat.mod_lt _ (by decide)
  simp only [fld, BitVec.toNat_ofNat] at h ⊢
  omega

theorem running_not_stopped {x : RailState} (h : x.running = true) : x.stopped = false := by cases x <;> simp_all [RailState.running, RailState.stopped]

/-- The lead phase of a running rail is the one in force (R89). -/
theorem leadOf_running {s : State} {r : Nat} (h : (s.rail r).st.running = true) : leadOf s r = (s.rail r).lead :=
  if_neg (by simp [running_not_stopped h])

/-- The offsets of a running rail's ranks come from the lead phase's PH_PER (R214). -/
theorem rankOfs_congr {s t : State} {r : Nat} (hs : (s.rail r).st.running = true) (hb : t.bank = s.bank) (hr : t.rails = s.rails) (k n : Nat) :
    rankOfs t r k n = rankOfs s r k n := by
  have e : t.rail r = s.rail r := by simp only [State.rail, hr]
  have hl : leadOf t r = leadOf s r := by rw [leadOf_running hs, leadOf_running (e ▸ hs), e]
  simp only [rankOfs, railPer, hl, State.pr, State.reg, hb]

theorem nodup_activeOf (s : State) (r : Nat) : (activeOf s r).Nodup := (List.nodup_range.filter _).filter _

theorem mem_phasesOf {s : State} {r p : Nat} : p ∈ phasesOf s r ↔ p < 48 ∧ railOf s p = some r := by
  simp [phasesOf]

theorem lt_of_mem_activeOf {s : State} {r p : Nat} (h : p ∈ activeOf s r) : p < 48 :=
  (mem_phasesOf.1 (List.mem_filter.1 h).1).1

/-- A re-spread gives each ACTIVE phase the offset of its rank (R214). -/
theorem respread_newOfs {s : State} {r k q : Nat} (h : (activeOf s r)[k]? = some q) :
    ((respread r s).ph q).newOfs = some (rankOfs s r k (activeOf s r).length) := by
  unfold respread
  rw [ph_zipFold_of_mem (f := fun k y => { y with newOfs := some (rankOfs s r k (activeOf s r).length) }) (nodup_activeOf s r) h
    (lt_of_mem_activeOf (List.mem_of_getElem? h)) 0, Nat.zero_add]

/-- A re-spread moves no other part of a phase. -/
theorem respread_ph (r : Nat) (s : State) (q : Nat) : (respread r s).ph q = { s.ph q with newOfs := ((respread r s).ph q).newOfs } := by
  unfold respread
  dsimp only
  generalize (activeOf s r).zipIdx = l
  refine foldl_keeps (P := fun t : State => t.ph q = { s.ph q with newOfs := (t.ph q).newOfs }) (fun t x ht => ?_) l rfl
  rw [ph_modPh]
  split
  · rw [ht]
  · exact ht

/-- PH_PER of the phases of a rail: each takes the word (R125). -/
def periodsSet (r : Nat) (w : Word) (s : State) : State :=
  (phasesOf s r).foldl (fun s q => s.setReg ((0x20 + q) * 256 + Reg.PH_PER) w) s

theorem periodOfRail_eq {s : State} {p r : Nat} {w : Word} (hr : railOf s p = some r) (ho : outOfOff s r = true) :
    periodOfRail p w s = if (s.rail r).st.running then respread r (periodsSet r w s) else periodsSet r w s := by
  have hst : ((periodsSet r w s).rail r).st = (s.rail r).st :=
    congrArg Rail.st (only_rail (only_foldl (fun t q => setReg_only t _ w) (phasesOf s r)) r)
  unfold periodOfRail
  rw [hr]
  dsimp only
  rw [if_neg (by simp [ho])]
  change (if ((periodsSet r w s).rail r).st.running = true then _ else _) = _
  rw [hst]
  rfl

theorem periodsSet_only (r : Nat) (w : Word) (s : State) : Only [.bank] s (periodsSet r w s) := only_foldl (fun t _ => setReg_only t _ _) _

theorem phPerWrite_acts {s : State} {h : Fin 3} {p : Fin 48} {r : Nat} {w : Word} (hs : s.StoresWf)
    (ht : s.Takes h ((0x20 + p.val) * 256 + 0x1A) w) (hr : railOf s p = some r) (ho : outOfOff s r = true) :
    ∃ t, exec (.phPerWrite h p w) s = .next t ∧ t = { s.wrote t with phases := t.phases } ∧
      SameRegs ((phasesOf s r).map fun q => (0x20 + q) * 256 + 0x1A) s t ∧
      (∀ q ∈ phasesOf s r, fld (t.pr q 0x1A) 15 0 = fld w 15 0) ∧
      (∀ q < 48, t.ph q = { s.ph q with newOfs := (t.ph q).newOfs }) ∧
      ((s.rail r).st.running = false → t.phases = s.phases) ∧
      ((s.rail r).st.running = true → ∀ (k q : Nat), (activeOf s r)[k]? = some q →
        (t.ph q).newOfs = some (rankOfs t r k (activeOf s r).length)) := by
  have hreg : IsReg ((0x20 + p.val) * 256 + 0x1A) .ph p (PType.ph.rowAt 0x1A) := isReg_of_page (pageType_ph p) (by decide) (by decide)
  obtain ⟨u, hu⟩ : ∃ u, u = s.written h ((0x20 + p.val) * 256 + 0x1A) w (PType.ph.rowAt 0x1A) := ⟨_, rfl⟩
  have hcfg : ∀ q < 48, u.pr q Reg.PH_CFG = s.pr q Reg.PH_CFG := fun q _ => by
    subst hu; exact written_reg_ne (by simp only [Reg.PH_CFG]; omega)
  have hphases : phasesOf u r = phasesOf s r := phasesOf_congr hcfg r
  have hur : u.rail r = s.rail r := by rw [hu]; rfl
  obtain ⟨v, hv⟩ : ∃ v, v = periodsSet r (BitVec.ofNat 32 (fld w 15 0)) u := ⟨_, rfl⟩
  have hvo : Only [.bank] u v := hv ▸ periodsSet_only _ _ _
  obtain ⟨t, htdef⟩ : ∃ t, t = if (s.rail r).st.running then respread r v else v := ⟨_, rfl⟩
  have hto : Only [.phases] v t := htdef ▸ only_ite (respread_only v r) only_refl
  have he : exec (.phPerWrite h p w) s = .next t := by
    show Host.Outcome.next (writeCmd h _ w (s.begin h)) = _
    rw [writeCmd_reg hreg (by simp only [Pg.FC, Reg.FC_LOGSEL]; omega) ht, effectBlock_ph h p 0x1A, ← hu]
    have hru : railOf u p = some r := (railOf_congr (hcfg p p.isLt)).trans hr
    have hou : outOfOff u r = true := by simpa only [outOfOff, inOff, hur] using ho
    show Host.Outcome.next (periodOfRail p (BitVec.ofNat 32 (fld w 15 0)) u) = _
    rw [periodOfRail_eq hru hou, hur, htdef, hv]
  have hinj : Function.Injective fun q => (0x20 + q) * 256 + Reg.PH_PER := fun x y e => by simp only at e; omega
  refine ⟨t, he, ?_, ?_, ?_, ?_, ?_, ?_⟩
  · subst hu; exact written_frame [.phases] (only_then hvo hto)
  · intro k hk
    have hk' : ∀ q ∈ phasesOf s r, k ≠ (0x20 + q) * 256 + 0x1A := fun q hq e => hk (e ▸ List.mem_map_of_mem hq)
    rw [only_reg hto, hv, periodsSet, hphases, reg_setFold_of_not_mem (key := fun q => (0x20 + q) * 256 + Reg.PH_PER) hk', hu]
    exact written_reg_ne (hk' p (mem_phasesOf.2 ⟨p.isLt, hr⟩))
  · intro q hq
    have hw : swf defaultWord u.bank := by rw [hu]; exact setReg_swf hs.1
    have e : v.reg ((0x20 + q) * 256 + Reg.PH_PER) = BitVec.ofNat 32 (fld w 15 0) := by
      rw [hv, periodsSet, hphases]
      exact reg_setFold_of_mem (key := fun q => (0x20 + q) * 256 + Reg.PH_PER) hinj hw hq
    rw [State.pr, only_reg hto, e, fld_low16]
  · intro q _
    have hvq : v.ph q = s.ph q := by rw [only_ph hvo, hu]; rfl
    rw [htdef]
    split
    · rw [respread_ph, hvq]
    · rw [hvq]
  · intro hn
    rw [htdef, if_neg (by simp [hn]), only_phases hvo, hu]
    rfl
  · intro hn k q hq
    have hact : activeOf v r = activeOf s r := by
      refine activeOf_congr (fun q hq => ?_) (fun q => by rw [only_ph hvo, hu]; rfl) r
      rw [hv, State.pr, periodsSet, reg_setFold_of_not_mem (key := fun q => (0x20 + q) * 256 + Reg.PH_PER) fun _ _ => by
        simp only [Reg.PH_CFG, Reg.PH_PER]; omega]
      exact hcfg q hq
    have ht' : t = respread r v := by rw [htdef, if_pos hn]
    have hvr : (v.rail r).st.running = true := by rw [only_rail hvo, hur]; exact hn
    rw [← hact] at hq ⊢
    rw [rankOfs_congr hvr (only_bank hto) (only_rails hto), ht', respread_newOfs hq]

end Sys2Proof.Machine
end

section
/-! PROOFS: an accepted write of RAIL_VSAMP (R91, R139). -/

-- The package as one text: its declarations are elaborated one after another, to hold few threads.
set_option Elab.async false

namespace Sys2Proof.Machine

/-! ### RAIL_VSAMP and the decimation (R89, R91, R139) -/

/-- The largest of a list of one value. -/
theorem maxN_const {c : Nat} {l : List Nat} (hne : l ≠ []) (hl : ∀ x ∈ l, x = c) : maxN l = c := by
  obtain ⟨n, hn⟩ : ∃ n, l = List.replicate n c := ⟨l.length, List.eq_replicate_iff.2 ⟨rfl, hl⟩⟩
  have stay : ∀ n, (List.replicate n c).foldl (fun a b => if a < b then b else a) c = c := fun n => by
    induction n with
    | zero => rfl
    | succ n ih => simpa [List.replicate_succ] using ih
  cases n with
  | zero => exact absurd hn hne
  | succ n =>
    rw [hn, maxN, List.replicate_succ, List.foldl_cons, show (if 0 < c then c else 0) = c by split <;> omega]
    exact stay n

/-- The decimation of R139 is the smallest number of at least 1 that keeps the rate. -/
theorem decim_spec {mult per max : Nat} (h : 0 < per * max) :
    1 ≤ decim mult per max ∧ mult * 400000000 ≤ per * max * decim mult per max ∧
      ∀ m, 1 ≤ m → mult * 400000000 ≤ per * max * m → decim mult per max ≤ m := by
  have key : ∀ m, (mult * 400000000 + per * max - 1) / (per * max) ≤ m ↔ mult * 400000000 ≤ per * max * m := fun m => by
    rw [Nat.div_le_iff_le_mul_add_pred h]
    generalize per * max = d at h
    generalize d * m = e
    omega
  unfold decim
  dsimp only
  split
  · next h0 => exact ⟨le_refl 1, by have := (key 0).1 (le_of_eq h0); omega, fun m hm _ => hm⟩
  · next h0 => exact ⟨Nat.one_le_iff_ne_zero.2 h0, (key _).1 (le_refl _), fun m _ hm => (key m).2 hm⟩

/-- While every ACTIVE phase that goes switches at one period, the decimation is that of the period (R91, R139). -/
theorem redecimate_rail {s : State} {r per : Nat} (hr : r < 16) (hne : ∃ p ∈ activeOf s r, (s.ph p).gen.going = true)
    (hall : ∀ p ∈ activeOf s r, (s.ph p).gen.going = true → (s.ph p).gen.act.per = per) :
    ((redecimate r s).rail r).nOut = decim (vrate s r) per 200000 ∧ ((redecimate r s).rail r).nCur = decim 1 per 1000000 ∧
      ((redecimate r s).rail r).nBal = decim 1 per 200000 := by
  have hl : ∀ x ∈ ((activeOf s r).filter fun p => (s.ph p).gen.going).map fun p => (s.ph p).gen.act.per, x = per := by
    intro x hx
    obtain ⟨p, hp, rfl⟩ := List.mem_map.1 hx
    obtain ⟨h1, h2⟩ := List.mem_filter.1 hp
    exact hall p h1 h2
  have hne' : (((activeOf s r).filter fun p => (s.ph p).gen.going).map fun p => (s.ph p).gen.act.per) ≠ [] := by
    obtain ⟨p, hp, hg⟩ := hne
    exact List.ne_nil_of_mem (List.mem_map_of_mem (List.mem_filter.2 ⟨hp, hg⟩))
  unfold redecimate
  rw [rail_modRail_same _ _ _ hr]
  revert hl hne'
  generalize (((activeOf s r).filter fun p => (s.ph p).gen.going).map fun p => (s.ph p).gen.act.per) = pers
  intro hl hne'
  have hm : ∀ (g : Nat × Nat × Nat → Nat), maxN ((pers.map (decims s r)).map g) = g (decims s r per) := fun g => by
    refine maxN_const (by simpa using hne') fun x hx => ?_
    rw [List.map_map] at hx
    obtain ⟨y, hy, rfl⟩ := List.mem_map.1 hx
    rw [Function.comp, hl y hy]
  dsimp only
  simp only [List.isEmpty_iff, hne', if_false]
  exact ⟨hm (·.1), hm (·.2.1), hm (·.2.2)⟩

theorem railVsampWrite_acts {s : State} {h : Fin 3} {r : Fin 16} {w : Word} (hs : s.StoresWf)
    (ht : s.Takes h ((0x10 + r.val) * 256 + 0x10) w) :
    ∃ t, exec (.registerWrite h (BitVec.ofNat 16 ((0x10 + r.val) * 256 + 0x10)) w) s = .next t ∧ t = { s.wrote t with rails := t.rails } ∧
      SameRegs [(0x10 + r.val) * 256 + 0x10] s t ∧ vrate t r = 2 ^ fld w 25 24 ∧ OtherRails r s t ∧
      ((s.rail r).st.stopped = true → t.rails = s.rails) ∧
      t.rail r = { s.rail r with nOut := (t.rail r).nOut, nCur := (t.rail r).nCur, nBal := (t.rail r).nBal } ∧
      ∀ per, 0 < per → (s.rail r).st.stopped = false → (∃ p ∈ activeOf s r, (s.ph p).gen.going = true) →
        (∀ p ∈ activeOf s r, (s.ph p).gen.going = true → (s.ph p).gen.act.per = per) →
        ∀ (mult max n : Nat), (mult, max, n) ∈ [(2 ^ fld w 25 24, 200000, (t.rail r).nOut), (1, 1000000, (t.rail r).nCur),
            (1, 200000, (t.rail r).nBal)] →
          1 ≤ n ∧ mult * 400000000 ≤ per * max * n ∧ ∀ m, 1 ≤ m → mult * 400000000 ≤ per * max * m → n ≤ m := by
  obtain ⟨u, hu⟩ : ∃ u, u = s.written h ((0x10 + r.val) * 256 + 0x10) w (PType.rail.rowAt 0x10) := ⟨_, rfl⟩
  have hur : u.rail r = s.rail r := by rw [hu]; rfl
  have hph : ∀ p, u.ph p = s.ph p := fun p => by rw [hu]; rfl
  have hv : vrate u r = 2 ^ fld w 25 24 := by
    have : fld (u.rr r Reg.RAIL_VSAMP) 25 24 = fld w 25 24 := by rw [hu]; exact written_fld hs (by decide)
    rw [vrate, this]
  have hact : activeOf u r = activeOf s r := by
    refine activeOf_congr (fun p _ => ?_) (fun p => by rw [hph]) r
    rw [hu]
    exact written_reg_ne (by have := r.isLt; simp only [Reg.PH_CFG]; omega)
  obtain ⟨t, htdef⟩ : ∃ t, t = if (s.rail r).st.stopped then u else redecimate r u := ⟨_, rfl⟩
  have hto : Only [.rails] u t := htdef ▸ only_ite only_refl (redecimate_only u r)
  have he : exec (.registerWrite h (BitVec.ofNat 16 ((0x10 + r.val) * 256 + 0x10)) w) s = .next t := by
    rw [railRegWrite_takes ht (by decide) (by decide), ← hu, htdef, ← hur]
    rfl
  refine ⟨t, he, ?_, ?_, ?_, ?_, ?_, ?_, ?_⟩
  · subst hu; exact written_frame [.rails] (only_mono hto)
  · intro k hk
    rw [only_reg hto, hu]
    exact written_sameRegs k hk
  · rw [vrate, State.rr, only_reg hto]
    exact hv
  · intro q hq
    rw [htdef]
    split
    · rw [hu]; rfl
    · rw [redecimate, rail_modRail_ne _ _ _ _ hq, hu]; rfl
  · intro hst
    rw [htdef, if_pos hst, hu]
    rfl
  · rw [htdef]
    split
    · rw [hur]
    · rw [redecimate, rail_modRail_same _ _ _ r.isLt, hur]
  · intro per hper hst hne hall mult max n hmem
    obtain ⟨ho, hc, hb⟩ := redecimate_rail (s := u) (per := per) r.isLt (by simpa only [hact, hph] using hne)
      (by simpa only [hact, hph] using hall)
    rw [htdef, if_neg (by simp [hst]), ho, hc, hb, hv] at hmem
    simp only [List.mem_cons, List.not_mem_nil, or_false, Prod.mk.injEq] at hmem
    rcases hmem with ⟨rfl, rfl, rfl⟩ | ⟨rfl, rfl, rfl⟩ | ⟨rfl, rfl, rfl⟩ <;> exact decim_spec (by omega)

end Sys2Proof.Machine
end

section
/-! PROOFS: accepted writes of RAIL_VLIM, RAIL_XLIM and RAIL_THCFG (R244, R246). -/

-- The package as one text: its declarations are elaborated one after another, to hold few threads.
set_option Elab.async false

namespace Sys2Proof.Machine

/-! ### Limits that a write disables (R244, R246) -/

/-- After a condition has ended its source stands at the other addresses as before (R272). -/
theorem setCond_off_standing (src addr : Nat) (s : State) :
    (setCond src addr false s).fc.stand = s.fc.stand.filter (· != (src, addr)) := by
  unfold setCond
  simp only [Bool.false_eq_true, if_false]
  split
  · simp only [only_stand (raise_only s src 2 addr false true)]
  · next h =>
    refine (List.filter_eq_self.2 fun x hx => ?_).symm
    simp only [bne_iff_ne, ne_eq]
    rintro rfl
    exact h (by simpa [standsAt] using hx)

/-- What has ended stays so while other conditions end. -/
theorem not_stands_setCond_off {src addr src' addr' : Nat} {s : State} (h : ¬ s.Stands src' addr') :
    ¬ (setCond src addr false s).Stands src' addr' := by
  simp only [State.Stands, setCond_off_standing, List.mem_filter]
  exact fun hm => h hm.1

theorem condOf_setCondOf_same (k : VLim) (c : Cond) (x : Rail) : condOf (setCondOf k c x) k = c := by cases k <;> rfl
theorem condOf_setCondOf_ne {k k' : VLim} (h : k' ≠ k) (c : Cond) (x : Rail) : condOf (setCondOf k c x) k' = condOf x k' := by
  cases k <;> cases k' <;> simp_all [condOf, setCondOf]

theorem endLimit_only (k : VLim) (r : Nat) (s : State) : Only [.rails, .msgs, .stand] s (endLimit k r s) :=
  only_then (modRail_only s r _) (setCond_only _ _ _ _)

theorem endLimit_rail (k : VLim) {r : Nat} (hr : r < 16) (s : State) : (endLimit k r s).rail r = setCondOf k Cond.init (s.rail r) :=
  (only_rail (setCond_only _ _ _ _) r).trans (rail_modRail_same _ _ _ hr)

theorem endLimit_other (k : VLim) {r q : Nat} (hq : q ≠ r) (s : State) : (endLimit k r s).rail q = s.rail q :=
  (only_rail (setCond_only _ _ _ _) q).trans (rail_modRail_ne _ _ _ _ hq)

theorem endLimit_stands (k : VLim) (r : Nat) (s : State) : ¬ (endLimit k r s).Stands (vlimSrc k) r := setCond_off_stand

theorem endLimit_not_stands (k : VLim) {r src addr : Nat} {s : State} (h : ¬ s.Stands src addr) : ¬ (endLimit k r s).Stands src addr :=
  not_stands_setCond_off h

section
variable (hi lo : VLim) (r : Nat) (w : Word) (s : State)

theorem limitsOff_only : Only [.rails, .msgs, .stand] s (limitsOff hi lo r w s) := by
  unfold limitsOff
  exact only_trans (only_ite (endLimit_only hi r s) only_refl) (only_ite (endLimit_only lo r _) only_refl)

theorem limitsOff_other {q : Nat} (hq : q ≠ r) : (limitsOff hi lo r w s).rail q = s.rail q := by
  unfold limitsOff
  dsimp only
  split <;> split <;> simp only [endLimit_other _ hq]

theorem limitsOff_none (h1 : fld w 31 16 ≠ 0xFFFF) (h2 : fld w 15 0 ≠ 0) : limitsOff hi lo r w s = s := by
  simp only [limitsOff, h1, h2, if_false]

/-- The upper limit that a word disables has ended. -/
theorem limitsOff_upper (hne : hi ≠ lo) (hr : r < 16) (h : fld w 31 16 = 0xFFFF) :
    ¬ (limitsOff hi lo r w s).Stands (vlimSrc hi) r ∧ condOf ((limitsOff hi lo r w s).rail r) hi = Cond.init := by
  simp only [limitsOff, h, if_true]
  split
  · refine ⟨endLimit_not_stands lo (endLimit_stands hi r s), ?_⟩
    rw [endLimit_rail lo hr, condOf_setCondOf_ne hne, endLimit_rail hi hr, condOf_setCondOf_same]
  · exact ⟨endLimit_stands hi r s, by rw [endLimit_rail hi hr, condOf_setCondOf_same]⟩

/-- The lower limit that a word disables has ended. -/
theorem limitsOff_lower (hr : r < 16) (h : fld w 15 0 = 0) :
    ¬ (limitsOff hi lo r w s).Stands (vlimSrc lo) r ∧ condOf ((limitsOff hi lo r w s).rail r) lo = Cond.init := by
  simp only [limitsOff, h, if_true]
  exact ⟨endLimit_stands lo r _, by rw [endLimit_rail lo hr, condOf_setCondOf_same]⟩

end

/-- A write of a pair of limits ends those that it disables (R244). -/
theorem limitsWrite_acts {s : State} {h : Fin 3} {r : Fin 16} {off : Nat} {w : Word} {hi lo : VLim} (hne : hi ≠ lo)
    (ht : s.Takes h ((0x10 + r.val) * 256 + off) w) (ho : 8 ≤ off ∧ off < 255)
    (hrow : (PType.rail.rows.find? (·.holds off)).isSome = true) (he : ∀ u, effectRail r off w u = limitsOff hi lo r w u) :
    ∃ t, exec (.registerWrite h (BitVec.ofNat 16 ((0x10 + r.val) * 256 + off)) w) s = .next t ∧
      t = { s.wrote t with rails := t.rails, fc := { s.fc with pend := t.fc.pend, stand := t.fc.stand } } ∧
      SameRegs [(0x10 + r.val) * 256 + off] s t ∧ OtherRails r s t ∧
      (fld w 31 16 = 0xFFFF → ¬ t.Stands (vlimSrc hi) r ∧ condOf (t.rail r) hi = Cond.init) ∧
      (fld w 15 0 = 0 → ¬ t.Stands (vlimSrc lo) r ∧ condOf (t.rail r) lo = Cond.init) ∧
      (fld w 31 16 ≠ 0xFFFF → fld w 15 0 ≠ 0 → t.rails = s.rails ∧ t.fc = s.fc) := by
  have hx := railRegWrite_takes ht ho hrow
  rw [he] at hx
  have hl := limitsOff_only hi lo r w (s.written h ((0x10 + r.val) * 256 + off) w (PType.rail.rowAt off))
  refine ⟨_, hx, written_frame [.rails, .msgs, .stand] (only_mono hl), fun k hk => ?_, fun q hq => ?_,
    limitsOff_upper hi lo r w _ hne r.isLt, limitsOff_lower hi lo r w _ r.isLt, fun h1 h2 => ?_⟩
  · rw [only_reg hl]
    exact written_sameRegs k hk
  · exact limitsOff_other hi lo r w _ hq
  · rw [limitsOff_none hi lo r w _ h1 h2]
    exact ⟨rfl, rfl⟩

theorem railLimitsWrite_acts {s : State} {h : Fin 3} {r : Fin 16} {x : Bool} {w : Word}
    (ht : s.Takes h ((0x10 + r.val) * 256 + if x then 0x4A else 0x49) w) :
    ∃ t, exec (.registerWrite h (BitVec.ofNat 16 ((0x10 + r.val) * 256 + if x then 0x4A else 0x49)) w) s = .next t ∧
      t = { s.wrote t with rails := t.rails, fc := { s.fc with pend := t.fc.pend, stand := t.fc.stand } } ∧
      SameRegs [(0x10 + r.val) * 256 + if x then 0x4A else 0x49] s t ∧ OtherRails r s t ∧
      (fld w 31 16 = 0xFFFF → ¬ t.Stands (if x then 0x10 else 0x13) r ∧ (if x then (t.rail r).xov else (t.rail r).ov) = Cond.init) ∧
      (fld w 15 0 = 0 → ¬ t.Stands (if x then 0x11 else 0x14) r ∧ (if x then (t.rail r).xuv else (t.rail r).uv) = Cond.init) ∧
      (fld w 31 16 ≠ 0xFFFF → fld w 15 0 ≠ 0 → t.rails = s.rails ∧ t.fc = s.fc) := by
  cases x with
  | true => exact limitsWrite_acts (hi := .xov) (lo := .xuv) (by decide) ht (by decide) (by decide) fun _ => rfl
  | false => exact limitsWrite_acts (hi := .ov) (lo := .uv) (by decide) ht (by decide) (by decide) fun _ => rfl

/-! ### RAIL_THCFG (R246) -/

theorem endThermal_only (r : Nat) (s : State) : Only [.rails, .msgs, .stand] s (endThermal r s) := by
  unfold endThermal
  exact only_then (l := [.msgs, .stand]) (only_trans (setCond_only _ _ _ _) (setCond_only _ _ _ _)) (modRail_only _ r _)

theorem railThcfgWrite_acts {s : State} {h : Fin 3} {r : Fin 16} {w : Word} (ht : s.Takes h ((0x10 + r.val) * 256 + 0x4C) w) :
    ∃ t, exec (.registerWrite h (BitVec.ofNat 16 ((0x10 + r.val) * 256 + 0x4C)) w) s = .next t ∧
      t = { s.wrote t with rails := t.rails, fc := { s.fc with pend := t.fc.pend, stand := t.fc.stand } } ∧
      SameRegs [(0x10 + r.val) * 256 + 0x4C] s t ∧ OtherRails r s t ∧
      (bit w 31 = true → t.rails = s.rails ∧ t.fc = s.fc) ∧
      (bit w 31 = false → ¬ t.Stands 0x1E r ∧ ¬ t.Stands 0x1F r ∧
        t.rail r = { s.rail r with tw := Cond.init, ot := Cond.init, derate := false }) := by
  obtain ⟨u, hu⟩ : ∃ u, u = s.written h ((0x10 + r.val) * 256 + 0x4C) w (PType.rail.rowAt 0x4C) := ⟨_, rfl⟩
  obtain ⟨t, htdef⟩ : ∃ t, t = if bit w 31 then u else endThermal r u := ⟨_, rfl⟩
  have hto : Only [.rails, .msgs, .stand] u t := htdef ▸ only_ite only_refl (endThermal_only r u)
  have hrail : ∀ q, (setCond Src.RAIL_OT r false (setCond Src.RAIL_TWARN r false u)).rail q = s.rail q := fun q => by
    rw [only_rail (setCond_only _ _ _ _), only_rail (setCond_only _ _ _ _), hu]
    rfl
  refine ⟨t, ?_, ?_, ?_, ?_, ?_, ?_⟩
  · rw [railRegWrite_takes ht (by decide) (by decide), ← hu, htdef]
    rfl
  · subst hu; exact written_frame [.rails, .msgs, .stand] (only_mono hto)
  · intro k hk
    rw [only_reg hto, hu]
    exact written_sameRegs k hk
  · intro q hq
    rw [htdef]
    split
    · rw [hu]; rfl
    · rw [endThermal, rail_modRail_ne _ _ _ _ hq, hrail]
  · intro hb
    rw [htdef, if_pos hb, hu]
    exact ⟨rfl, rfl⟩
  · intro hb
    rw [htdef, if_neg (by simp [hb])]
    refine ⟨not_stands_setCond_off setCond_off_stand, setCond_off_stand, ?_⟩
    rw [endThermal, rail_modRail_same _ _ _ r.isLt, hrail]

end Sys2Proof.Machine
end

section
/-! PROOFS: accepted writes of TWIN_CFG, CUP_ADMIN, CUP_ADMAX and GANG_CFG (R267, R301, R325). -/

-- The package as one text: its declarations are elaborated one after another, to hold few threads.
set_option Elab.async false

namespace Sys2Proof.Machine

/-! ### Pair, cupping unit, gang unit (R301, R267, R325) -/

/-- An accepted REGISTER_WRITE of a block register stores its fields and has the block's effect. -/
theorem blockRegWrite_takes {s : State} {h : Fin 3} {a : BitVec 16} {w : Word} {t : PType} {n : Nat} {row : RegRow}
    (hr : IsReg a.toNat t n row) (hl : a ≠ 0x0313) (ht : s.Takes h a.toNat w) :
    exec (.registerWrite h a w) s = .next (effectBlock h a.toNat t (s.reg a.toNat) w (s.written h a.toNat w row)) := by
  have hl' : a.toNat ≠ Pg.FC * 256 + Reg.FC_LOGSEL := fun e => hl (BitVec.eq_of_toNat_eq e)
  exact congrArg Host.Outcome.next (writeCmd_reg hr hl' ht)

theorem unpair_only (s : State) : Only [.twin, .msgs, .stand] s (unpair s) := by
  unfold unpair
  extract_lets _ u v
  have hu : Only [.twin] s u := upd_twin s _
  have hv : Only [.msgs, .stand] u v := only_trans (setCond_only _ _ _ _) (setCond_only _ _ _ _)
  exact only_then hu (only_trans hv (only_trans (setCond_only _ _ _ _) (setCond_only _ _ _ _)))

/-- The twin unit of a device that has left its pair (R301). -/
theorem unpair_twin (s : State) : (unpair s).twin =
    { s.twin with pst := .solo, loss := 0, got := false, hbPrev := none, rx := [], tx := none, hoLeft := 0
                  prstLeft := 0, hoGot := 0, prstGot := 0, wrq := [], copied := none, copyDue := false, ppst := 7 } := by
  unfold unpair
  simp only [only_twin (setCond_only _ _ _ _)]

/-- No link condition of the pair stands after it (R301, log entry 94). -/
theorem unpair_stands (s : State) (k : Nat) (hk : k < 2) : ¬ (unpair s).Stands 0xA0 k ∧ ¬ (unpair s).Stands 0xA3 k := by
  unfold unpair
  obtain rfl | rfl : k = 0 ∨ k = 1 := by omega
  · exact ⟨not_stands_setCond_off (not_stands_setCond_off setCond_off_stand), setCond_off_stand⟩
  · exact ⟨not_stands_setCond_off (not_stands_setCond_off (not_stands_setCond_off setCond_off_stand)),
      not_stands_setCond_off setCond_off_stand⟩

theorem twinCfgWrite_acts {s : State} {h : Fin 3} {w : Word} (ht : s.Takes h 0x0908 w) :
    ∃ t, exec (.registerWrite h 0x0908 w) s = .next t ∧ SameRegs [0x0908] s t ∧
      (bit (s.reg 0x0908) 31 = false ∨ bit w 31 = true → t = s.wrote t) ∧
      (bit (s.reg 0x0908) 31 = true → bit w 31 = false →
        t = { s.wrote t with twin := t.twin, fc := { s.fc with pend := t.fc.pend, stand := t.fc.stand } } ∧
        t.twin.pst = .solo ∧ t.twin.wrq = [] ∧ t.twin.tx = none ∧ t.twin.loss = 0 ∧ t.twin.rstate = s.twin.rstate ∧
        ∀ k < 2, ¬ t.Stands 0xA0 k ∧ ¬ t.Stands 0xA3 k) := by
  have hr : IsReg (0x0908 : BitVec 16).toNat .twin 0 (PType.twin.rowAt 0x08) := ⟨by decide, by decide, by decide, by decide⟩
  obtain ⟨u, hu⟩ : ∃ u, u = s.written h 0x0908 w (PType.twin.rowAt 0x08) := ⟨_, rfl⟩
  obtain ⟨t, htdef⟩ : ∃ t, t = if bit (s.reg 0x0908) 31 && !bit w 31 then unpair u else u := ⟨_, rfl⟩
  have hto : Only [.twin, .msgs, .stand] u t := htdef ▸ only_ite (unpair_only u) only_refl
  refine ⟨t, ?_, ?_, ?_, ?_⟩
  · rw [blockRegWrite_takes hr (by decide) ht, htdef, hu]
    rfl
  · intro k hk
    rw [only_reg hto, hu]
    exact written_sameRegs k hk
  · intro hn
    have e : t = u := by rw [htdef, if_neg (by rcases hn with hn | hn <;> simp [hn])]
    rw [e, hu]
    rfl
  · intro h1 h2
    have e : t = unpair u := by rw [htdef, if_pos (by simp [h1, h2])]
    have htw := e ▸ unpair_twin u
    refine ⟨?_, by rw [htw], by rw [htw], by rw [htw], by rw [htw], by rw [htw, hu]; rfl, fun k hk => e ▸ unpair_stands u k hk⟩
    calc t = { u with twin := t.twin, fc := { u.fc with pend := t.fc.pend, stand := t.fc.stand } } := eq_take_of_only hto
      _ = _ := by
        have hb := only_bank hto
        have hc : t.clk = u.clk := hto.2 .clk (by decide)
        have hp := only_perf hto
        have hq := only_ports hto
        simp only [State.wrote, hb, hc, hp, hq, hu]
        rfl

theorem cupBoundWrite_acts {s : State} {h : Fin 3} {a : BitVec 16} {w : Word} (ha : a = 0x0C0E ∨ a = 0x0C0F) (ht : s.Takes h a.toNat w) :
    ∃ t, exec (.registerWrite h a w) s = .next t ∧ SameRegs [a.toNat] s t ∧
      t = { s.wrote t with cup := { s.cup with bndNew := true } } := by
  obtain ⟨row, hr⟩ : ∃ row, IsReg a.toNat .cup 0 row := by
    rcases ha with rfl | rfl
    · exact ⟨PType.cup.rowAt 0x0E, by decide, by decide, by decide, by decide⟩
    · exact ⟨PType.cup.rowAt 0x0F, by decide, by decide, by decide, by decide⟩
  obtain ⟨u, hu⟩ : ∃ u, u = s.written h a.toNat w row := ⟨_, rfl⟩
  refine ⟨{ u with cup := { u.cup with bndNew := true } }, ?_, hu ▸ written_sameRegs, by rw [hu]; rfl⟩
  rw [blockRegWrite_takes hr (by rcases ha with rfl | rfl <;> decide) ht, ← hu]
  rcases ha with rfl | rfl <;> rfl

theorem gangCfgWrite_acts {s : State} {h : Fin 3} {w : Word} (ht : s.Takes h 0x7108 w) :
    ∃ t, exec (.registerWrite h 0x7108 w) s = .next t ∧ SameRegs [0x7108] s t ∧
      (fld (s.reg 0x7108) 31 30 = fld w 31 30 → t = s.wrote t) ∧
      (fld (s.reg 0x7108) 31 30 ≠ fld w 31 30 → ¬ t.Stands 0xA0 2 ∧
        t = { s.wrote t with gang := Gang.init, fc := { s.fc with pend := t.fc.pend, stand := t.fc.stand } }) := by
  have hr : IsReg (0x7108 : BitVec 16).toNat .gang 0 (PType.gang.rowAt 0x08) := ⟨by decide, by decide, by decide, by decide⟩
  obtain ⟨u, hu⟩ : ∃ u, u = s.written h 0x7108 w (PType.gang.rowAt 0x08) := ⟨_, rfl⟩
  obtain ⟨t, htdef⟩ : ∃ t, t = gangCfg (s.reg 0x7108) w u := ⟨_, rfl⟩
  have hto : Only [.gang, .msgs, .stand] u t := by
    rw [htdef]
    exact only_ite only_refl (only_then (m := [.msgs, .stand]) (upd_gang u _) (setCond_only _ _ _ _))
  refine ⟨t, ?_, ?_, ?_, ?_⟩
  · rw [blockRegWrite_takes hr (by decide) ht, htdef, hu]
    rfl
  · intro k hk
    rw [only_reg hto, hu]
    exact written_sameRegs k hk
  · intro he
    rw [htdef, gangCfg, if_pos he, hu]
    rfl
  · intro hne
    rw [gangCfg, if_neg hne] at htdef
    have hg : t.gang = Gang.init := htdef ▸ only_gang (setCond_only _ _ _ _)
    have e : t = { s.wrote t with gang := t.gang, fc := { s.fc with pend := t.fc.pend, stand := t.fc.stand } } :=
      written_frame [.gang, .msgs, .stand] (only_mono (hu ▸ hto))
    rw [hg] at e
    exact ⟨htdef ▸ setCond_off_stand, e⟩

end Sys2Proof.Machine
end

section
/-! PROOFS: accepted writes of registers of every host's own and of control registers; the statement about acting writes (R284, R428). -/

-- The package as one text: its declarations are elaborated one after another, to hold few threads.
set_option Elab.async false

namespace Sys2Proof.Machine

/-! ### Registers of every host's own (R284, R428) -/

/-- A write of a code other than NO_PAGE names a page of the directory (R376). -/
theorem page_of_takes {s : State} {h : Fin 3} {a : Nat} {w : Word} (ht : s.Takes h a w) : ∃ t n, pageType (a / 256) = some (t, n) := by
  have hc := ht.2
  unfold writeCode at hc
  dsimp only at hc
  split at hc
  · simp at hc
  · next t n e => exact ⟨t, n, e⟩

/-- The state after an accepted write of the writing host's copy of a register. -/
def State.ownWritten (s : State) (h : Fin 3) (a : Nat) (w : Word) : State :=
  ((s.begin h).accessed h a w).setReg (hostKey h a) w

theorem ownWrite_takes {s : State} {h : Fin 3} {a : BitVec 16} {w : Word} (ha : a = 0x0313 ∨ a.toNat % 256 = 4)
    (ht : s.Takes h a.toNat w) : exec (.registerWrite h a w) s = .next (s.ownWritten h a.toNat w) := by
  refine congrArg Host.Outcome.next ((writeCmd_takes ht).trans ?_)
  rcases ha with rfl | ha
  · rfl
  · obtain ⟨t, n, hp⟩ := page_of_takes ht
    unfold applyWrite store
    simp only [hp, ha]
    rfl

/-- A host reads its own copy of FC_LOGSEL and of PG_EVTEN (R428). -/
theorem readReg_own {s : State} (g : Nat) {a : Nat} (hp : ∃ t n, pageType (a / 256) = some (t, n)) (ha : a = 0x0313 ∨ a % 256 = 4) :
    readReg s g a = s.reg (hostKey g a) := by
  obtain ⟨t, n, hp⟩ := hp
  rcases ha with rfl | ha
  · rfl
  · have e : a / 256 * 256 + Reg.PG_EVTEN = a := by simp only [Reg.PG_EVTEN]; omega
    unfold readReg
    simp only [hp, ha]
    rw [if_neg (by decide), if_pos (by decide)]
    show s.reg (hostKey g (a / 256 * 256 + Reg.PG_EVTEN)) = _
    rw [e]

theorem ownWrite_acts {s : State} {h : Fin 3} {a : BitVec 16} {w : Word} (hs : s.StoresWf) (ha : a = 0x0313 ∨ a.toNat % 256 = 4)
    (ht : s.Takes h a.toNat w) :
    ∃ t, exec (.registerWrite h a w) s = .next t ∧ t = s.wrote t ∧ SameRegs [hostKey h a.toNat] s t ∧ readReg t h a.toNat = w ∧
      ∀ g < 3, g ≠ h.val → readReg t g a.toNat = readReg s g a.toNat := by
  have hp := page_of_takes ht
  have ha' : a.toNat = 0x0313 ∨ a.toNat % 256 = 4 := ha.imp_left (congrArg BitVec.toNat)
  have hne : ∀ k, k ∉ [hostKey h a.toNat] → (s.ownWritten h a.toNat w).reg k = s.reg k := fun k hk => reg_setReg_ne (by simpa using hk)
  refine ⟨_, ownWrite_takes ha ht, rfl, hne, ?_, fun g hg hgh => ?_⟩
  · rw [readReg_own h hp ha']
    exact reg_setReg_same hs.1
  · rw [readReg_own g hp ha', readReg_own g hp ha']
    refine hne _ ?_
    simp only [hostKey, List.mem_singleton]
    omega

/-! ### RCOMP_CTL without COMMIT and RTAB_CTL without ZERO (R159, R201) -/

theorem fieldsOnly_acts {s : State} {h : Fin 3} {a : BitVec 16} {w : Word} {row : RegRow} {t : PType} {n : Nat} (hs : s.StoresWf)
    (hr : IsReg a.toNat t n row) (hl : a ≠ 0x0313) (ht : s.Takes h a.toNat w)
    (he : ∀ old u, effectBlock h a.toNat t old w u = u) :
    ∃ t, exec (.registerWrite h a w) s = .next t ∧ t = s.wrote t ∧ SameRegs [a.toNat] s t ∧ t.reg a.toNat &&& row.rwBits = w &&& row.rwBits := by
  refine ⟨s.written h a.toNat w row, ?_, rfl, written_sameRegs, ?_⟩
  · rw [blockRegWrite_takes hr hl ht, he]
  · rw [written_reg hs, stored_rwBits]

theorem ctlWrite_acts {s : State} {h : Fin 3} {r : Fin 16} {a : BitVec 16} {w : Word} {row : RegRow} (hs : s.StoresWf)
    (ha : (a.toNat = (0x50 + r.val) * 256 + 0x08 ∧ bit w 0 = false) ∨ (a.toNat = (0x60 + r.val) * 256 + 0x89 ∧ bit w 2 = false))
    (hrow : regRow a.toNat = some row) (ht : s.Takes h a.toNat w) :
    ∃ t, exec (.registerWrite h a w) s = .next t ∧ t = s.wrote t ∧ SameRegs [a.toNat] s t ∧
      t.reg a.toNat &&& row.rwBits = w &&& row.rwBits := by
  have hl : a ≠ 0x0313 := by
    rintro rfl
    rcases ha with ⟨ha, -⟩ | ⟨ha, -⟩ <;> simp at ha <;> omega
  rcases ha with ⟨ha, hb⟩ | ⟨ha, hb⟩
  · have hr : IsReg a.toNat .rcomp r row :=
      ⟨by rw [ha, page_div, pageType_rcomp], by rw [ha, page_mod], by rw [ha, page_mod]; decide, hrow⟩
    exact fieldsOnly_acts hs hr hl ht fun _ u => by simp [effectBlock, hb]
  · have hr : IsReg a.toNat .rtab r row :=
      ⟨by rw [ha, page_div, pageType_rtab], by rw [ha, page_mod]; decide, by rw [ha, page_mod]; decide, hrow⟩
    refine fieldsOnly_acts hs hr hl ht fun _ u => ?_
    simp only [effectBlock, effectRtab]
    rw [ha, page_mod]
    simp [hb]

end Sys2Proof.Machine

section
open Sys2Proof Sys2Proof.Machine

/-- Settles O11: each acting write by the effect of its register. -/
theorem actingRegisterWrites : Obligations.ActingRegisterWrites :=
  ⟨fun _ _ _ _ hs ht => phCfgWrite_acts hs ht, fun _ _ _ _ hs ht => railCfgWrite_acts hs ht,
    fun _ _ _ _ _ hs ht hr ho => phPerWrite_acts hs ht hr ho, fun _ _ _ _ hs ht => railVsampWrite_acts hs ht,
    fun _ _ _ _ _ _ ht => railLimitsWrite_acts ht, fun _ _ _ _ _ ht => railThcfgWrite_acts ht,
    fun _ _ _ _ ht => twinCfgWrite_acts ht, fun _ _ _ _ _ ha ht => cupBoundWrite_acts ha ht,
    fun _ _ _ _ ht => gangCfgWrite_acts ht, fun _ _ _ _ hs ha ht => ownWrite_acts hs ha ht,
    fun _ _ _ _ _ _ hs ha hrow ht => ctlWrite_acts hs ha hrow ht⟩
end
end

section
/-! PROOFS: the result of the short check, and PREBIAS (R174, R251). -/

-- The package as one text: its declarations are elaborated one after another, to hold few threads.
set_option Elab.async false

namespace Sys2Proof.Machine

/-! ### The short check and PREBIAS (R174, R251) -/

/-- While the state machines run, no reset is asserted and the clocks do not stand. -/
theorem clocks_of_machinesRun {s : State} (h : machinesRun s = true) : s.dev.rst = false ∧ s.dev.clkStop = false := by
  simp only [machinesRun, Bool.and_eq_true, Bool.not_eq_true'] at h
  obtain ⟨⟨⟨_, hc⟩, hr⟩, _⟩ := h
  exact ⟨hr, hc⟩

/-- While the state machines run, a clocked command does its work on the state begun. -/
theorem clocked_of_machinesRun {f : State → State} {s : State} (h : machinesRun s = true) : clocked f s.begin = f s.begin := by
  obtain ⟨hr, hc⟩ := clocks_of_machinesRun h
  exact clocked_runs hr hc

/-- What stands goes on standing where another condition begins. -/
theorem stands_setCond_on {src addr src' addr' : Nat} {s : State} (h : s.Stands src' addr') : (setCond src addr true s).Stands src' addr' := by
  unfold setCond
  simp only [if_true]
  split
  · exact h
  · simp only [State.Stands, only_stand (raise_only s src 1 addr false true)]
    exact List.mem_append_left _ h

/-- PH_HS_SHORT of a phase that failed the short check (R251). -/
def noteShort (p : Nat) (s : State) : State := setCond Src.PH_HS_SHORT p true (s.modPh p fun z => { z with schigh := true })

theorem noteShort_only (p : Nat) (s : State) : Only [.phases, .msgs, .stand] s (noteShort p s) :=
  only_then (modPh_only s p _) (setCond_only _ _ _ _)

theorem noteShort_ph (p q : Nat) (s : State) : (noteShort p s).ph q = (s.modPh p fun z => { z with schigh := true }).ph q :=
  only_ph (setCond_only _ _ _ _) q

theorem noteShort_stands (p : Nat) (s : State) : (noteShort p s).Stands Src.PH_HS_SHORT p := setCond_on_stand

theorem noteShort_schigh {p : Nat} (hp : p < 48) (s : State) : ((noteShort p s).ph p).schigh = true := by
  rw [noteShort_ph, ph_modPh_same _ _ _ hp]

theorem stands_noteShort {p src addr : Nat} {s : State} (h : s.Stands src addr) : (noteShort p s).Stands src addr := stands_setCond_on h

theorem schigh_noteShort {p q : Nat} {s : State} (h : (s.ph q).schigh = true) : ((noteShort p s).ph q).schigh = true := by
  rw [noteShort_ph, ph_modPh]
  split
  · rfl
  · exact h

section
variable {α : Type} {l : List (Nat × α)} {s : State}

theorem noteShorts_only : Only [.phases, .msgs, .stand] s (l.foldl (fun s y => noteShort y.1 s) s) :=
  only_foldl (fun t y => noteShort_only y.1 t) l

theorem noteShorts_mem {y : Nat × α} (hy : y ∈ l) (hp : y.1 < 48) :
    (l.foldl (fun s y => noteShort y.1 s) s).Stands Src.PH_HS_SHORT y.1 ∧
      ((l.foldl (fun s y => noteShort y.1 s) s).ph y.1).schigh = true :=
  ⟨foldl_of_mem (P := fun u : State => u.Stands Src.PH_HS_SHORT y.1) (Q := fun _ => True) (fun _ _ h => h) (fun _ _ => stands_noteShort)
      (fun u _ => noteShort_stands _ u) hy trivial,
    foldl_of_mem (P := fun u : State => (u.ph y.1).schigh = true) (Q := fun _ => True) (fun _ _ h => h) (fun _ _ => schigh_noteShort)
      (fun u _ => noteShort_schigh hp u) hy trivial⟩

theorem noteShorts_other {p : Nat} (h : ∀ y ∈ l, y.1 ≠ p) : (l.foldl (fun s y => noteShort y.1 s) s).ph p = s.ph p := by
  induction l generalizing s with
  | nil => rfl
  | cons a l ih =>
    rw [List.foldl_cons, ih fun y hy => h y (List.mem_cons_of_mem _ hy), noteShort_ph,
      ph_modPh_ne _ _ _ _ (h a List.mem_cons_self).symm]

end

theorem shortCheckResult_completes (r : Fin 16) (l : List (List Rat)) (s : State) (hm : machinesRun s = true)
    (hst : (s.rail r).st = .precheck) (hd : (s.rail r).scDone = false) (hf : fld (s.rail r).scCfg 30 24 + 5 ≤ (s.rail r).frames) :
    ∃ t high, exec (.shortCheckResult r l) s = .next t ∧
      high = (((phasesOf s r).filter (enOf s)).zip l).filter (fun y => decide (128 < nodeCount (s.rail r).sccode y.2)) ∧
      t = { s.conds t with rails := t.rails, phases := t.phases } ∧ OtherRails r s t ∧
      t.rail r = { s.rail r with scDone := true, scres := if high = [] then 1 else 2 } ∧
      (∀ y ∈ high, t.Stands 0x31 y.1 ∧ (t.ph y.1).schigh = true) ∧
      ∀ p, (∀ y ∈ high, y.1 ≠ p) → t.ph p = s.ph p := by
  obtain ⟨high, hh⟩ : ∃ high, high =
    (((phasesOf s r).filter (enOf s)).zip l).filter (fun y => decide (128 < nodeCount (s.rail r).sccode y.2)) := ⟨_, rfl⟩
  obtain ⟨u, hu⟩ : ∃ u, u = s.begin.modRail r fun x => { x with scDone := true, scres := if high.isEmpty then 1 else 2 } := ⟨_, rfl⟩
  have he : exec (.shortCheckResult r l) s = .next (high.foldl (fun s y => noteShort y.1 s) u) := by
    show Host.Outcome.next (clocked (shortCheckResult r l) s.begin) = _
    rw [clocked_of_machinesRun hm, hu, hh]
    have hg : ((s.rail r).st != .precheck || (s.rail r).scDone || !machinesRun s ||
        decide ((s.rail r).frames < fld (s.rail r).scCfg 30 24 + 5)) = false := by
      simp [hst, hd, hm, Nat.not_lt.2 hf]
    exact congrArg Host.Outcome.next (if_neg (by rw [Bool.not_eq_true]; exact hg))
  have hlt : ∀ y ∈ high, y.1 < 48 := by
    intro y hy
    rw [hh] at hy
    have hz := (List.of_mem_zip (List.mem_filter.1 hy).1).1
    exact (mem_phasesOf.1 (List.mem_filter.1 hz).1).1
  have ho : Only [.phases, .msgs, .stand] u (high.foldl (fun s y => noteShort y.1 s) u) := noteShorts_only
  refine ⟨_, high, he, hh, ?_, ?_, ?_, fun y hy => noteShorts_mem hy (hlt y hy), fun p hp => ?_⟩
  · have hall : Only [.rails, .phases, .msgs, .stand] s.begin (high.foldl (fun s y => noteShort y.1 s) u) := by
      rw [hu]
      exact only_then (l := [.rails]) (m := [.phases, .msgs, .stand]) (modRail_only _ r _) noteShorts_only
    exact eq_take_of_only hall
  · intro q hq
    rw [only_rail ho, hu, rail_modRail_ne _ _ _ _ hq]
    rfl
  · rw [only_rail ho, hu, rail_modRail_same _ _ _ r.isLt]
    simp only [List.isEmpty_iff]
    rfl
  · rw [noteShorts_other hp, hu]
    rfl

/-- The conditions of PRECHECK have ended (R252). -/
theorem endPrecheck_skip (r : Nat) (s : State) : ¬ (endPrecheck r s).Stands Src.RAIL_SC_SKIP r :=
  foldl_keeps (P := fun u : State => ¬ u.Stands Src.RAIL_SC_SKIP r) (fun _ _ h => not_stands_setCond_off (not_stands_setCond_off h)) _ setCond_off_stand

theorem prebiasEntry_enters (r : Fin 16) (s : State) (hm : machinesRun s = true) (hst : (s.rail r).st = .precheck)
    (hd : (s.rail r).scDone = true) (ho : (s.rail r).ofsLeft = []) (hb : blocked s r = false) :
    ∃ t, exec (.prebiasEntry r) s = .next t ∧ t = { s.conds t with rails := t.rails } ∧ OtherRails r s t ∧
      t.rail r = { s.rail r with st := .prebias, frames := 0, pbSum := 0, pbN := 0, vdac := (s.rail r).dacCode } ∧ ¬ t.Stands 0x20 r := by
  have he : exec (.prebiasEntry r) s = .next (toPrebias r s.begin) := by
    show Host.Outcome.next (clocked (prebiasEntry r) s.begin) = _
    rw [clocked_of_machinesRun hm]
    have hg : ((s.rail r).st == .precheck && (s.rail r).scDone && (s.rail r).ofsLeft.isEmpty && !blocked s r && machinesRun s) = true := by
      simp [hst, hd, ho, hb, hm]
    exact congrArg Host.Outcome.next (if_pos hg)
  have hr : ∀ q, (endPrecheck r s.begin).rail q = s.rail q := fun q => only_rail (endPrecheck_only _ r) q
  refine ⟨_, he, eq_take_of_only (toPrebias_only _ r), fun q hq => ?_, ?_, endPrecheck_skip r _⟩
  · rw [toPrebias, rail_modRail_ne _ _ _ _ hq, hr]
  · rw [toPrebias, rail_modRail_same _ _ _ r.isLt, hr]

end Sys2Proof.Machine
end

section
/-! PROOFS: the start of a group of rails from PREBIAS (R175, R209). -/

-- The package as one text: its declarations are elaborated one after another, to hold few threads.
set_option Elab.async false

namespace Sys2Proof.Machine

/-! ### RAMP from PREBIAS (R175, R209) -/

section
variable {f : State → Nat → Phase → Phase} {s : State} {p : Nat}

/-- Phases that a fold of changes does not name stay as they are. -/
theorem ph_fold_of_not_mem {l : List Nat} (h : p ∉ l) : (l.foldl (fun s q => s.modPh q (f s q)) s).ph p = s.ph p := by
  induction l generalizing s with
  | nil => rfl
  | cons a l ih =>
    rw [List.mem_cons, not_or] at h
    rw [List.foldl_cons, ih h.2, ph_modPh_ne _ _ _ _ h.1]

/-- What every change of a phase brings about holds of it after a fold of changes that names it. -/
theorem ph_fold_of_mem {P : Phase → Prop} {l : List Nat} (hp : p < 48) (hf : ∀ s y, P (f s p y)) (h : p ∈ l) :
    P ((l.foldl (fun s q => s.modPh q (f s q)) s).ph p) := by
  induction l generalizing s with
  | nil => simp at h
  | cons a l ih =>
    by_cases hl : p ∈ l
    · exact ih hl
    · obtain rfl : p = a := by simpa [hl] using h
      rw [List.foldl_cons, ph_fold_of_not_mem hl, ph_modPh_same _ _ _ hp]
      exact hf _ _

end

/-- A change of a phase that leaves its condition leaves every phase's condition. -/
theorem pst_modPh {s : State} {f : Phase → Phase} (hf : ∀ x, (f x).pst = x.pst) (q p : Nat) : ((s.modPh q f).ph p).pst = (s.ph p).pst := by
  rw [ph_modPh]
  split
  · exact hf _
  · rfl

theorem respread_pst (r p : Nat) (s : State) : ((respread r s).ph p).pst = (s.ph p).pst := by rw [respread_ph]

/-- A fold of changes that leave the condition leaves every phase's condition. -/
theorem pst_fold {f : Phase → Phase} (hf : ∀ x, (f x).pst = x.pst) (l : List Nat) (s : State) (p : Nat) :
    ((l.foldl (fun s q => s.modPh q f) s).ph p).pst = (s.ph p).pst := by
  induction l generalizing s with
  | nil => rfl
  | cons a l ih => rw [List.foldl_cons, ih, pst_modPh hf]

theorem preloadStart_pst (r p : Nat) (s : State) : ((preloadStart r s).ph p).pst = (s.ph p).pst := by
  unfold preloadStart
  dsimp only
  split
  · rw [pst_fold (f := fun x => { x with plC := some (startDuty s r) }) (fun _ => rfl)]
    rfl
  · rfl

/-- A start-up preload leaves the reference, the state and the other rails. -/
theorem preloadStart_other {r q : Nat} (h : q ≠ r) (s : State) : (preloadStart r s).rail q = s.rail q := by
  unfold preloadStart
  dsimp only
  split
  · rw [only_rail (only_foldl (fun t p => modPh_only t p _) _), rail_modRail_ne _ _ _ _ h]
  · rw [rail_modRail_ne _ _ _ _ h]

theorem preloadStart_rail {r : Nat} (h : r < 16) (s : State) : ∃ u, (preloadStart r s).rail r = { s.rail r with plV := some u } := by
  unfold preloadStart
  dsimp only
  split
  · exact ⟨0, by rw [only_rail (only_foldl (fun t p => modPh_only t p _) _), rail_modRail_same _ _ _ h]⟩
  · exact ⟨_, rail_modRail_same _ _ _ h⟩

/-- A phase at the start of its rail's RAMP (R209). -/
def rampPhase (avail : List Nat) (s : State) (q : Nat) (y : Phase) : Phase :=
  { y with pst := if avail.contains q then .active else if enOf s q then y.pst else .unavail
           seeded := false, gen := { y.gen with hold := !avail.contains q } }

/-- The phases of a rail at the start of its RAMP (R209). -/
def rampPhases (r : Nat) (s : State) : State :=
  let avail := availOf s r
  (phasesOf s r).foldl (fun s q => s.modPh q (rampPhase avail s q)) s

/-- The reference with which a rail starts (R175). -/
def rampRef (s : State) (r : Nat) : Nat :=
  let avg := ((s.rail r).pbSum + 8) / 16
  65536 * (if fld (s.rr r Reg.RAIL_STARTCFG) 31 16 ≤ avg then avg else 0)

theorem rampPhases_only (r : Nat) (s : State) : Only [.phases] s (rampPhases r s) := only_foldl (fun t q => modPh_only t q _) _

theorem rampPhases_pst_avail {r p : Nat} {s : State} (h : p ∈ availOf s r) : ((rampPhases r s).ph p).pst = .active := by
  obtain ⟨hp, _⟩ := List.mem_filter.1 h
  refine ph_fold_of_mem (P := fun y => y.pst = .active) (mem_phasesOf.1 hp).1 (fun u y => ?_) hp
  simp [rampPhase, h]

theorem rampPhases_other {r p : Nat} {s : State} (h : railOf s p ≠ some r) : (rampPhases r s).ph p = s.ph p :=
  ph_fold_of_not_mem fun hm => h (mem_phasesOf.1 hm).2

/-- What RAMP_ENTRY does to one rail, up to the loops it loads. -/
theorem toRamp_eq (r : Nat) (s : State) : ∃ u : State, Only [.msgs] (rampPhases r s) u ∧ ∃ x : Rail, x.st = .ramp ∧ x.ref = rampRef s r ∧
    toRamp r s = preloadStart r (computeBounds r (respread r (u.modRail r fun _ => x))) := by
  refine ⟨if (availOf s r).isEmpty then event Src.RAIL_NOPH r (rampPhases r s) else rampPhases r s,
    only_ite (event_only _ _ _) only_refl, ?_⟩
  refine ⟨_, ?_, ?_, rfl⟩
  · rfl
  · exact Nat.mul_comm _ _

section
variable {r : Nat} {s : State}

theorem toRamp_pst (p : Nat) : ((toRamp r s).ph p).pst = ((rampPhases r s).ph p).pst := by
  obtain ⟨u, hu, x, -, -, he⟩ := toRamp_eq r s
  rw [he, preloadStart_pst, only_ph (computeBounds_only _ r), respread_pst, only_ph (modRail_only u r _), only_ph hu]

theorem toRamp_other {q : Nat} (h : q ≠ r) : (toRamp r s).rail q = s.rail q := by
  obtain ⟨u, hu, x, -, -, he⟩ := toRamp_eq r s
  rw [he, preloadStart_other h, computeBounds, rail_modRail_ne _ _ _ _ h, only_rail (respread_only _ r), rail_modRail_ne _ _ _ _ h,
    only_rail hu, only_rail (rampPhases_only r s)]

theorem toRamp_rail (h : r < 16) : ((toRamp r s).rail r).st = .ramp ∧ ((toRamp r s).rail r).ref = rampRef s r := by
  obtain ⟨u, hu, x, hst, href, he⟩ := toRamp_eq r s
  obtain ⟨v, hv⟩ := preloadStart_rail h (computeBounds r (respread r (u.modRail r fun _ => x)))
  rw [he, hv, computeBounds, rail_modRail_same _ _ _ h, only_rail (respread_only _ r), rail_modRail_same _ _ _ h]
  exact ⟨hst, href⟩

theorem railOf_toRamp (p : Nat) : railOf (toRamp r s) p = railOf s p :=
  railOf_congr (only_reg (toRamp_only s r) _)

/-- A rail that starts leaves the available phases of the others. -/
theorem availOf_toRamp {q : Nat} (h : q ≠ r) : availOf (toRamp r s) q = availOf s q := by
  have hreg := only_reg (toRamp_only s r)
  have hph : phasesOf (toRamp r s) q = phasesOf s q := phasesOf_congr (fun p _ => by simp only [State.pr, hreg]) q
  unfold availOf
  rw [hph]
  refine List.filter_congr fun p hp => ?_
  have hne : railOf s p ≠ some r := fun e => h (Option.some.inj ((mem_phasesOf.1 hp).2.symm.trans e))
  rw [toRamp_pst, rampPhases_other hne]
  simp only [enOf, State.pr, hreg]

theorem rampRef_toRamp {q : Nat} (h : q ≠ r) : rampRef (toRamp r s) q = rampRef s q := by
  unfold rampRef
  rw [toRamp_other h, show (toRamp r s).rr q Reg.RAIL_STARTCFG = s.rr q Reg.RAIL_STARTCFG from only_reg (toRamp_only s r) _]

end

/-- Rails that a group start does not name stay as they are. -/
theorem toRamps_other {l : List Nat} {s : State} {q : Nat} (h : q ∉ l) : (l.foldl (fun s q => toRamp q s) s).rail q = s.rail q := by
  induction l generalizing s with
  | nil => rfl
  | cons a l ih =>
    rw [List.mem_cons, not_or] at h
    rw [List.foldl_cons, ih h.2, toRamp_other h.1]

/-- A phase of no rail of the group keeps its condition. -/
theorem toRamps_pst_other {l : List Nat} {s : State} {p : Nat} (h : ∀ q ∈ l, railOf s p ≠ some q) :
    ((l.foldl (fun s q => toRamp q s) s).ph p).pst = (s.ph p).pst := by
  induction l generalizing s with
  | nil => rfl
  | cons a l ih =>
    rw [List.foldl_cons, ih fun q hq => by rw [railOf_toRamp]; exact h q (List.mem_cons_of_mem _ hq),
      toRamp_pst, rampPhases_other (h a List.mem_cons_self)]

/-- The rails of a group start as each would alone (R175). -/
theorem toRamps_mem {l : List Nat} (hl : l.Nodup) {s : State} {q : Nat} (hq : q ∈ l) (h16 : q < 16) :
    ((l.foldl (fun s q => toRamp q s) s).rail q).st = .ramp ∧
      (∀ p ∈ availOf s q, ((l.foldl (fun s q => toRamp q s) s).ph p).pst = .active) ∧
      ((l.foldl (fun s q => toRamp q s) s).rail q).ref = rampRef s q := by
  induction l generalizing s with
  | nil => simp at hq
  | cons a l ih =>
    obtain ⟨ha, hl⟩ := List.nodup_cons.1 hl
    rw [List.foldl_cons]
    rcases List.mem_cons.1 hq with rfl | hm
    · rw [toRamps_other ha]
      refine ⟨(toRamp_rail h16).1, fun p hp => ?_, (toRamp_rail h16).2⟩
      have hr : railOf s p = some q := (mem_phasesOf.1 (List.mem_filter.1 hp).1).2
      rw [toRamps_pst_other fun q' hq' e => ha (by rw [railOf_toRamp, hr] at e; exact Option.some.inj e ▸ hq'),
        toRamp_pst, rampPhases_pst_avail hp]
    · have hne : q ≠ a := fun e => ha (e ▸ hm)
      have h := ih hl hm (s := toRamp a s)
      rwa [availOf_toRamp hne, rampRef_toRamp hne] at h

theorem self_mem_groupRails (s : State) (r : Fin 16) : r.val ∈ groupRails s r := by
  unfold groupRails
  split
  · exact List.mem_singleton_self _
  · simp

theorem nodup_groupRails (s : State) (r : Nat) : (groupRails s r).Nodup := by
  unfold groupRails
  split
  · exact List.nodup_singleton _
  · exact List.nodup_range.filter _

theorem lt_of_mem_groupRails {s : State} {r : Fin 16} {q : Nat} (h : q ∈ groupRails s r) : q < 16 := by
  unfold groupRails at h
  split at h
  · rw [List.mem_singleton.1 h]; exact r.isLt
  · exact List.mem_range.1 (List.mem_filter.1 h).1

theorem rampEntry_starts (r : Fin 16) (s : State) (hm : machinesRun s = true) (hst : (s.rail r).st = .prebias)
    (hg : ∀ q ∈ groupRails s r, (s.rail q).st = .prebias ∧ (s.rail q).pbN = 16) :
    ∃ t, exec (.rampEntry r) s = .next t ∧ r.val ∈ groupRails s r ∧ (∀ q, q ∉ groupRails s r → t.rail q = s.rail q) ∧
      ∀ q ∈ groupRails s r, (t.rail q).st = .ramp ∧ (∀ p ∈ availOf s q, (t.ph p).pst = .active) ∧
        (t.rail q).ref = 65536 * (if fld (s.rr q 0x2C) 31 16 ≤ ((s.rail q).pbSum + 8) / 16 then ((s.rail q).pbSum + 8) / 16 else 0) := by
  have he : exec (.rampEntry r) s = .next ((groupRails s r).foldl (fun s q => toRamp q s) s.begin) := by
    show Host.Outcome.next (clocked (rampEntry r) s.begin) = _
    rw [clocked_of_machinesRun hm]
    have hc : ((s.rail r).st == .prebias && machinesRun s &&
        (groupRails s r).all fun q => (s.rail q).st == .prebias && (s.rail q).pbN == 16) = true := by
      simp only [hst, hm, beq_self_eq_true, Bool.true_and, List.all_eq_true]
      intro q hq
      simp [hg q hq]
    exact congrArg Host.Outcome.next (if_pos hc)
  exact ⟨_, he, self_mem_groupRails s r, fun q hq => toRamps_other hq,
    fun q hq => toRamps_mem (s := s.begin) (nodup_groupRails s r) hq (lt_of_mem_groupRails hq)⟩

end Sys2Proof.Machine
end

section
/-! PROOFS: PRECHECK; the statement about a rail's start (R26, R156, R174). -/

-- The package as one text: its declarations are elaborated one after another, to hold few threads.
set_option Elab.async false

namespace Sys2Proof.Machine

/-! ### PRECHECK (R26, R156, R174) -/

/-- A context of zeroed stage blocks (R156). -/
def CtxZero (c : Nat) (s : State) : Prop := s.eng.ctx[c]? = some (List.replicate 6 Block.init)

theorem zeroCtx_zero {c : Nat} (h : c < 128) (s : State) : CtxZero c (zeroCtx c s) := by
  simp [CtxZero, zeroCtx, h]

theorem ctxZero_zeroCtx {c : Nat} (d : Nat) {s : State} (h : CtxZero c s) : CtxZero c (zeroCtx d s) := by
  by_cases hd : d = c
  · subst hd
    refine zeroCtx_zero (by_contra fun hn => ?_) s
    simp [CtxZero, hn] at h
  · simpa [CtxZero, zeroCtx, Vector.getElem?_setIfInBounds, hd] using h

section
variable {r : Nat} {s : State}

theorem ctxZero_zeroPhases {c : Nat} (l : List Nat) {u : State} (h : CtxZero c u) :
    CtxZero c (l.foldl (fun s p => zeroCtx (80 + p) (zeroCtx (32 + p) s)) u) :=
  foldl_keeps (P := CtxZero c) (fun _ _ h => ctxZero_zeroCtx _ (ctxZero_zeroCtx _ h)) l h

/-- Every context of a rail and of its phases is zero after zeroRail (R156). -/
theorem zeroRail_zero (h : r < 16) : CtxZero r (zeroRail r s) ∧ CtxZero (16 + r) (zeroRail r s) :=
  ⟨ctxZero_zeroPhases _ (ctxZero_zeroCtx _ (zeroCtx_zero (by omega) s)), ctxZero_zeroPhases _ (zeroCtx_zero (by omega) _)⟩

theorem zeroRail_zero_phase {p : Nat} (h : p ∈ phasesOf s r) : CtxZero (32 + p) (zeroRail r s) ∧ CtxZero (80 + p) (zeroRail r s) := by
  have hp : p < 48 := (mem_phasesOf.1 h).1
  exact ⟨foldl_of_mem (P := CtxZero (32 + p)) (Q := fun _ => True) (fun _ _ h => h) (fun _ _ h => ctxZero_zeroCtx _ (ctxZero_zeroCtx _ h))
      (fun _ _ => ctxZero_zeroCtx _ (zeroCtx_zero (by omega) _)) h trivial,
    foldl_of_mem (P := CtxZero (80 + p)) (Q := fun _ => True) (fun _ _ h => h) (fun _ _ h => ctxZero_zeroCtx _ (ctxZero_zeroCtx _ h))
      (fun _ _ => zeroCtx_zero (by omega) _) h trivial⟩

/-- The contexts of a rail that leaves OFF are those of zeroRail. -/
theorem leaveOff_eng : (leaveOff r s).eng = (zeroRail r s).eng := by
  unfold leaveOff
  exact (only_eng (modRail_only _ r _)).trans (only_eng (only_foldl (l := [.phases]) (fun t p => modPh_only t p _) _))

theorem leaveOff_other {q : Nat} (h : q ≠ r) : (leaveOff r s).rail q = s.rail q := by
  unfold leaveOff
  dsimp only
  rw [rail_modRail_ne _ _ _ _ h, only_rail (only_foldl (l := [.phases]) (fun t p => modPh_only t p _) _), only_rail (zeroRail_only s r)]

end

/-- The reference instant of every phase that `f` names (R119). -/
theorem refAll_ref {f : Nat → Bool} {p : Nat} (hp : p < 48) (hf : f p = true) (t : Nat) (s : State) : ((refAll f t s).ph p).gen.ref = some t := by
  unfold refAll loop
  refine foldl_of_mem (P := fun u : State => (u.ph p).gen.ref = some t) (Q := fun _ => True) (fun _ _ h => h) (fun u q h => ?_)
    (fun u _ => ?_) (List.mem_range.2 hp) trivial
  · split
    · rw [ph_modGen]
      split
      · rfl
      · exact h
    · exact h
  · rw [if_pos hf, ph_modGen, if_pos ⟨rfl, hp⟩]

/-- Which DRVEN is high does not depend on what phases, domains, the pair and messages hold. -/
theorem drvHigh_congr {s t : State} (h : Only [.phases, .doms, .twin, .msgs] s t) (k : Nat) : drvHigh t k = drvHigh s k := by
  rw [eq_take_of_only h]
  rfl

/-- One domain's part of noteDrv. -/
def noteDrv1 (t : Nat) (before s : State) (k : Nat) : State :=
  if drvHigh s k && !drvHigh before k then s.modDom k fun d => { d with drvRise := t } else s

theorem noteDrv1_only (t : Nat) (before s : State) (k : Nat) : Only [.doms] s (noteDrv1 t before s k) :=
  only_ite (modDom_only s k _) only_refl

theorem noteDrv1_other {t k c : Nat} (before s : State) (h : k ≠ c) : (noteDrv1 t before s c).dom k = s.dom k := by
  unfold noteDrv1
  split
  · rw [dom_modDom, if_neg fun e => h e.1.symm]
  · rfl

theorem noteDrv1_dom {t k : Nat} (before s : State) (hk : k < 4) :
    (noteDrv1 t before s k).dom k = if drvHigh s k && !drvHigh before k then { s.dom k with drvRise := t } else s.dom k := by
  unfold noteDrv1
  split
  · rw [dom_modDom, if_pos ⟨rfl, hk⟩]
  · rfl

theorem noteDrvs_dom {t k : Nat} {before : State} (hk : k < 4) {l : List Nat} (hl : l.Nodup) (u : State) :
    (l.foldl (noteDrv1 t before) u).dom k = if k ∈ l then (noteDrv1 t before u k).dom k else u.dom k := by
  induction l generalizing u with
  | nil => rfl
  | cons a l ih =>
    obtain ⟨ha, hl⟩ := List.nodup_cons.1 hl
    rw [List.foldl_cons, ih hl]
    by_cases h : k = a
    · subst h
      rw [if_neg ha, if_pos List.mem_cons_self]
    · simp only [List.mem_cons, h, false_or, noteDrv1_dom _ _ hk, noteDrv1_other _ _ h,
        drvHigh_congr (only_mono (noteDrv1_only t before u a))]

/-- A DRVEN that a step drives high has risen at the instant noted; the other domains stay as they are (R26). -/
theorem noteDrv_dom {k : Nat} (hk : k < 4) (t : Nat) (before u : State) :
    (noteDrv t before u).dom k = if drvHigh u k && !drvHigh before k then { u.dom k with drvRise := t } else u.dom k := by
  have h := noteDrvs_dom (t := t) (before := before) hk List.nodup_range (l := List.range 4) u
  rw [if_pos (List.mem_range.2 hk), noteDrv1_dom _ _ hk] at h
  exact h

theorem noteDrv_rise {s u : State} {k : Nat} (hk : k < 4) (h0 : drvHigh s k = false) (h1 : drvHigh u k = true) (t : Nat) :
    ((noteDrv t s u).dom k).drvRise = t := by
  rw [noteDrv_dom hk, if_pos (by simp [h0, h1])]

/-- A rail as it enters PRECHECK (R174). -/
structure Rail.Prechecks (x : Rail) : Prop where
  st : x.st = .precheck
  startPend : x.startPend = false
  pbN : x.pbN = 0
  frames : x.frames = 0

/-- The reference instants that PRECHECK sets in a state: 1 µs after its frame edge (R119, R190). -/
def precheckRefs (r : Nat) (u : State) : State := refAll (fun p => railOf u p == some r && enOf u p) (nowCnt u + 400) (loadRail r u)

theorem precheckRefs_only (r : Nat) (u : State) : Only [.bank, .phases] u (precheckRefs r u) :=
  only_then (l := [.bank, .phases]) (m := [.phases]) (loadRail_only u r) (refAll_only _ _ _)

/-- PRECHECK by its parts: the rail leaves OFF, takes its fields, its phases their instants; then conditions are raised. -/
theorem toPrecheck_eq (r : Nat) (s : State) : ∃ f : Rail → Rail, (∀ x, (f x).Prechecks) ∧
    Only [.msgs, .stand] (precheckRefs r ((leaveOff r s).modRail r f)) (toPrecheck r s) := by
  unfold toPrecheck
  refine ⟨_, ?_, only_then (l := [.msgs]) (m := [.msgs, .stand]) (reraise_only _ r) (only_ite (setCond_only _ _ _ _) only_refl)⟩
  exact fun x => ⟨rfl, rfl, rfl, rfl⟩

section
variable {r : Nat} {s : State}

theorem toPrecheck_rail (h : r < 16) : ((toPrecheck r s).rail r).Prechecks := by
  obtain ⟨f, hf, ho⟩ := toPrecheck_eq r s
  rw [only_rail ho, only_rail (precheckRefs_only r _), rail_modRail_same _ _ _ h]
  exact hf _

theorem toPrecheck_other {q : Nat} (h : q ≠ r) : (toPrecheck r s).rail q = s.rail q := by
  obtain ⟨f, hf, ho⟩ := toPrecheck_eq r s
  rw [only_rail ho, only_rail (precheckRefs_only r _), rail_modRail_ne _ _ _ _ h, leaveOff_other h]

theorem toPrecheck_eng : (toPrecheck r s).eng = (zeroRail r s).eng := by
  obtain ⟨f, hf, ho⟩ := toPrecheck_eq r s
  rw [only_eng ho, only_eng (precheckRefs_only r _), only_eng (modRail_only _ r f), leaveOff_eng]

theorem toPrecheck_ref {p : Nat} (hp : p < 48) (hr : railOf s p = some r) (he : enOf s p = true) :
    ((toPrecheck r s).ph p).gen.ref = some (nowCnt s + 400) := by
  obtain ⟨f, hf, ho⟩ := toPrecheck_eq r s
  have hl : Only [.rails, .phases, .eng] s ((leaveOff r s).modRail r f) :=
    only_then (l := [.rails, .phases, .eng]) (leaveOff_only s r) (modRail_only _ r f)
  have hreg := only_reg hl
  have hr' : railOf ((leaveOff r s).modRail r f) p = some r := (railOf_congr (hreg _)).trans hr
  have he' : enOf ((leaveOff r s).modRail r f) p = true := (congrArg (bit · 0) (hreg _)).trans he
  have hn : nowCnt ((leaveOff r s).modRail r f) = nowCnt s := by rw [nowCnt, only_dev hl, nowCnt]
  rw [only_ph ho, precheckRefs, refAll_ref hp (by simp [hr', he']), hn]

end

theorem precheckEntry_enters (r : Fin 16) (s : State) (hm : machinesRun s = true) (hst : (s.rail r).st = .off)
    (hp : (s.rail r).startPend = true) :
    ∃ t, exec (.precheckEntry r) s = .next t ∧ (t.rail r).st = .precheck ∧ (t.rail r).startPend = false ∧ (t.rail r).pbN = 0 ∧
      (t.rail r).frames = 0 ∧ OtherRails r s t ∧ t.eng.ctx[r.val]? = some (List.replicate 6 Block.init) ∧
      t.eng.ctx[16 + r.val]? = some (List.replicate 6 Block.init) ∧
      (∀ p, railOf s p = some r.val → p < 48 → t.eng.ctx[32 + p]? = some (List.replicate 6 Block.init) ∧
        t.eng.ctx[80 + p]? = some (List.replicate 6 Block.init)) ∧ t.dev = s.dev ∧ t.nv = s.nv ∧
      (∀ p < 48, railOf s p = some r.val → enOf s p = true → (t.ph p).gen.ref = some (s.dev.frame * 400 + 400)) ∧
      ∀ k < 4, drvHigh s k = false → drvHigh t k = true → (t.dom k).drvRise = s.dev.frame * 400 := by
  have he : exec (.precheckEntry r) s = .next (noteDrv (nowCnt s) s.begin (toPrecheck r s.begin)) := by
    show Host.Outcome.next (clocked (precheckEntry r) s.begin) = _
    rw [clocked_of_machinesRun hm]
    have hg : ((s.rail r).startPend && (s.rail r).st == .off && machinesRun s) = true := by simp [hst, hp, hm]
    exact congrArg Host.Outcome.next (if_pos hg)
  have hn : Only [.doms] (toPrecheck r s.begin) (noteDrv (nowCnt s) s.begin (toPrecheck r s.begin)) := noteDrv_only _ _ _
  have hall : Only [.bank, .rails, .phases, .eng, .msgs, .stand, .doms] s.begin (noteDrv (nowCnt s) s.begin (toPrecheck r s.begin)) :=
    only_then (toPrecheck_only s.begin r) hn
  have heng : (noteDrv (nowCnt s) s.begin (toPrecheck r s.begin)).eng = (zeroRail r s.begin).eng := (only_eng hn).trans toPrecheck_eng
  have hrail := toPrecheck_rail (s := s.begin) r.isLt
  rw [← only_rail hn] at hrail
  obtain ⟨hst', hpend, hpbN, hframes⟩ := hrail
  obtain ⟨hz, hz16⟩ := zeroRail_zero (s := s.begin) r.isLt
  refine ⟨_, he, hst', hpend, hpbN, hframes, fun q hq => ?_, ?_, ?_, fun p hr h48 => ?_, ?_, ?_, fun p h48 hr hen => ?_, fun k hk h0 h1 => ?_⟩
  · rw [only_rail hn, toPrecheck_other hq]
    rfl
  · rw [heng]; exact hz
  · rw [heng]; exact hz16
  · rw [heng]
    exact zeroRail_zero_phase (s := s.begin) (mem_phasesOf.2 ⟨h48, hr⟩)
  · exact (only_dev hall :)
  · exact (only_nv hall :)
  · rw [only_ph hn]
    exact toPrecheck_ref h48 hr hen
  · exact noteDrv_rise hk h0 ((drvHigh_congr (only_mono hn) k).symm.trans h1) _

end Sys2Proof.Machine

section
open Sys2Proof Sys2Proof.Machine

/-- Settles O42: each step of the start by the states that it takes the rail through. -/
theorem railStartsStepByStep : Obligations.RailStartsStepByStep :=
  ⟨precheckEntry_enters, shortCheckResult_completes, prebiasEntry_enters, fun r s hm _ hst hg => rampEntry_starts r s hm hst hg⟩
end
end

section
/-! PROOFS: a standby that becomes the driving device (R316, R318). -/

-- The package as one text: its declarations are elaborated one after another, to hold few threads.
set_option Elab.async false

namespace Sys2Proof.Machine

/-! ### The standby becomes the driving device (R316, R318) -/

theorem endInjection_run (done byRail : Bool) (s : State) : (endInjection done byRail s).cup.run = false := by
  unfold endInjection
  dsimp only
  split <;> split <;> rw [only_cup (event_only _ _ _)]

theorem endNow_run (s : State) : (endNow s).cup.run = false := by
  unfold endNow
  split
  · exact endInjection_run _ _ s
  · exact endInjection_run _ _ s

/-- A running injection ended (R263). -/
def endRunning (s : State) : State := if s.cup.run then endNow s else s

theorem endRunning_only (s : State) : Only [.cup, .capt, .msgs] s (endRunning s) := only_ite (endNow_only s) only_refl

theorem endRunning_run (s : State) : (endRunning s).cup.run = false := by
  unfold endRunning
  split
  · exact endNow_run s
  · next h => simpa using h

theorem endRunning_of_not_run {s : State} (h : s.cup.run = false) : endRunning s = s := if_neg (by simp [h])

/-- ACTIVE in place `pst` of the pair, every generator that goes driving from its next boundary (R318). -/
def driveOn (pst : TwinPst) (s : State) : State :=
  { s with dev := { s.dev with st := .active }
           twin := { s.twin with pst := pst, last := s.dev.frame % 4294967296, hoGot := 0, swapDue := false }
           phases := s.phases.map fun x => { x with gen := { x.gen with driving := x.gen.driving && !x.gen.going } } }

theorem driveOn_only (pst : TwinPst) (s : State) : Only [.dev, .twin, .phases] s (driveOn pst s) :=
  only_then (l := [.dev]) (m := [.twin, .phases]) (upd_dev s _)
    (only_then (l := [.twin]) (m := [.phases]) (upd_twin _ (driveOn pst s).twin) (upd_phases _ (driveOn pst s).phases))

theorem driveOn_ph (pst : TwinPst) (s : State) {p : Nat} (hp : p < 48) :
    (driveOn pst s).ph p = { s.ph p with gen := { (s.ph p).gen with driving := (s.ph p).gen.driving && !(s.ph p).gen.going } } := by
  simp [driveOn, State.ph, hp]

/-- A phase of `u` that differs from that of `v` in the reference instant alone, and there only where its generator has not begun. -/
def RefOnly (p : Nat) (v u : State) : Prop :=
  u.ph p = { v.ph p with gen := { (v.ph p).gen with ref := (u.ph p).gen.ref } } ∧
    ((v.ph p).gen.going = true → (u.ph p).gen.ref = (v.ph p).gen.ref)

theorem RefOnly.setRef {p q : Nat} {v u : State} (h : RefOnly p v u) (hq : (v.ph q).gen.going = false) (x : Gen → Option Nat) :
    RefOnly p v (u.modGen q fun g => { g with ref := x g }) := by
  obtain ⟨hph, hgo⟩ := h
  unfold RefOnly
  rw [ph_modGen]
  split
  · next e =>
    obtain ⟨rfl, _⟩ := e
    exact ⟨by rw [hph], fun hg => absurd hg (by simp [hq])⟩
  · exact ⟨hph, hgo⟩

theorem startWaiting_only (s : State) : Only [.phases] s (startWaiting s) := by
  unfold startWaiting
  exact only_trans (refAll_only s _ _) (only_foldl (fun t p => modGen_only t p _) _)

theorem refAll_refOnly {p : Nat} {v : State} {f : Nat → Bool} (hf : ∀ q, f q = true → (v.ph q).gen.going = false) (t : Nat) :
    RefOnly p v (refAll f t v) := by
  unfold refAll loop
  refine foldl_keeps (P := RefOnly p v) (fun u q h => ?_) _ ⟨rfl, fun _ => rfl⟩
  split
  · next hq => exact h.setRef (hf q hq) _
  · exact h

/-- Only generators that have not begun get a reference instant at a takeover (R312, R318). -/
theorem startWaiting_refOnly (p : Nat) (s : State) : RefOnly p s (startWaiting s) := by
  have hgo : ∀ q, (counts s q && !(s.ph q).gen.going && !(s.ph q).joining) = true → (s.ph q).gen.going = false := by
    intro q h
    simp only [Bool.and_eq_true, Bool.not_eq_true'] at h
    exact h.1.2
  unfold startWaiting
  refine List.foldlRecOn (motive := RefOnly p s) _ _ (refAll_refOnly (fun q h => hgo q (Bool.and_eq_true_iff.1 h).1) _) fun u h q hq => ?_
  exact h.setRef (hgo q (Bool.and_eq_true_iff.1 (List.mem_filter.1 hq).2).1) _

theorem takeOver_eq (c t : Nat) (pst : TwinPst) (s : State) :
    takeOver c t pst s = event Src.TWIN_TAKEOVER c (startWaiting (noteDrv t s (driveOn pst (endRunning s)))) := rfl

/-- What a standby that takes over in place `pst` of the pair does, for cause `c`, with its DRVEN high by `rise` (R318). -/
structure TakesOver (c rise : Nat) (pst : TwinPst) (s t : State) : Prop where
  only : Only [.dev, .twin, .phases, .doms, .cup, .capt, .msgs] s t
  dev : t.dev = { s.dev with st := .active }
  twin : t.twin = { s.twin with pst := pst, last := s.dev.frame % 4294967296, hoGot := 0, swapDue := false }
  waits : t.Waits 0xA1 0 c
  cupEnds : t.cup.run = false
  cupStays : s.cup.run = false → t.cup = s.cup ∧ t.capt = s.capt
  dom : ∀ k < 4, t.dom k = if drvHigh t k && !drvHigh s k then { s.dom k with drvRise := rise } else s.dom k
  ph : ∀ p < 48, t.ph p = { s.ph p with gen := { (s.ph p).gen with
      driving := (s.ph p).gen.driving && !(s.ph p).gen.going, ref := (t.ph p).gen.ref } } ∧
    ((s.ph p).gen.going = true → (t.ph p).gen.ref = (s.ph p).gen.ref)

theorem takeOver_takes (c rise : Nat) (pst : TwinPst) {s : State} (hc : s.dev.clkStop = false) :
    TakesOver c rise pst s (takeOver c rise pst s) := by
  rw [takeOver_eq]
  obtain ⟨u, hu⟩ : ∃ u, u = driveOn pst (endRunning s) := ⟨_, rfl⟩
  have hend := endRunning_only s
  have hdrv : Only [.dev, .twin, .phases] (endRunning s) u := hu ▸ driveOn_only pst _
  have hnote : Only [.doms] u (noteDrv rise s u) := noteDrv_only u rise s
  obtain ⟨v, hv⟩ : ∃ v, v = noteDrv rise s u := ⟨_, rfl⟩
  have hwait := startWaiting_only v
  have hev : Only [.msgs] (startWaiting v) (event Src.TWIN_TAKEOVER c (startWaiting v)) := event_only _ _ _
  rw [← hu, ← hv]
  rw [← hv] at hnote
  obtain ⟨t, ht⟩ : ∃ t, t = event Src.TWIN_TAKEOVER c (startWaiting v) := ⟨_, rfl⟩
  rw [← ht] at hev ⊢
  have hut : Only [.doms, .phases, .msgs] u t := only_then (l := [.doms, .phases]) (only_then hnote hwait) hev
  have hdev : u.dev = { s.dev with st := .active } := by rw [hu, ← only_dev hend]; rfl
  refine ⟨only_then (l := [.cup, .capt, .msgs, .dev, .twin, .phases]) (only_then hend hdrv) hut, (only_dev hut).trans hdev, ?_, ?_, ?_, ?_, ?_, ?_⟩
  · rw [only_twin hut, hu, ← only_twin hend, ← only_dev hend]
    rfl
  · have hclk : (startWaiting v).dev.clkStop = false := by rw [only_dev hwait, only_dev hnote, hdev]; exact hc
    rw [ht]
    exact raise_waits hclk
  · rw [only_cup hut, only_cup hdrv, endRunning_run]
  · intro hrun
    rw [only_cup hut, only_cup hdrv, only_capt hut, only_capt hdrv, endRunning_of_not_run hrun]
    exact ⟨rfl, rfl⟩
  · intro k hk
    rw [only_dom hev, only_dom hwait, hv, noteDrv_dom hk, drvHigh_congr (only_mono hut) k, only_dom hdrv, only_dom hend]
  · intro p hp
    obtain ⟨hph, hgo⟩ := startWaiting_refOnly p v
    rw [← only_ph hev] at hph hgo
    have hvp : v.ph p = { s.ph p with gen := { (s.ph p).gen with driving := (s.ph p).gen.driving && !(s.ph p).gen.going } } := by
      rw [only_ph hnote, hu, driveOn_ph pst _ hp, only_ph hend]
    rw [hvp] at hph hgo
    exact ⟨hph, hgo⟩

end Sys2Proof.Machine
end

section
/-! PROOFS: TAKEOVER (R316, R318, R322). -/

-- The package as one text: its declarations are elaborated one after another, to hold few threads.
set_option Elab.async false

namespace Sys2Proof.Machine

/-! ### TAKEOVER (R316, R318, R322) -/

/-- A device that pairs is served: no reset is asserted, the clocks run. -/
theorem clocks_of_twinOn {s : State} (h : twinOn s = true) : s.dev.rst = false ∧ s.dev.clkStop = false := by
  obtain ⟨hr, hc, _⟩ := served_iff.1 (Bool.and_eq_true_iff.1 h).1
  exact ⟨hr, hc⟩

theorem clocked_of_twinOn {f : State → State} {s : State} (h : twinOn s = true) : clocked f s.begin = f s.begin := by
  obtain ⟨hr, hc⟩ := clocks_of_twinOn h
  exact clocked_runs hr hc

/-- Cause 0 wins over the cause found at this edge (R316). -/
theorem takeoverCause_eq {c : Nat} {s : State}
    (h : (4 ≤ s.twin.loss ∧ (s.twin.pal = 1 ∨ s.twin.pal = 2) ∧ c = 0) ∨
      (¬ (4 ≤ s.twin.loss ∧ (s.twin.pal = 1 ∨ s.twin.pal = 2)) ∧ s.twin.cause = some c)) : takeoverCause s = some c := by
  unfold takeoverCause
  rcases h with ⟨hl, hp, rfl⟩ | ⟨hn, hc⟩
  · exact if_pos ⟨hl, hp⟩
  · rw [if_neg hn, hc]

/-- Each of the causes of R316 is one. -/
theorem takeoverCause_some {c : Nat} {s : State} (h : (4 ≤ s.twin.loss ∧ (s.twin.pal = 1 ∨ s.twin.pal = 2)) ∨ s.twin.cause = some c) :
    ∃ d, takeoverCause s = some d := by
  by_cases hl : 4 ≤ s.twin.loss ∧ (s.twin.pal = 1 ∨ s.twin.pal = 2)
  · exact ⟨0, takeoverCause_eq (.inl ⟨hl.1, hl.2, rfl⟩)⟩
  · exact ⟨c, takeoverCause_eq (.inr ⟨hl, h.resolve_left hl⟩)⟩

theorem takeover_of_cause {c : Nat} {s : State} (ho : twinOn s = true) (hs : s.dev.st = .standby) (hc : takeoverCause s = some c) :
    takeover s = if s.twin.pst == .ready then takeOver c (nowCnt s + 80) .solo s else fallIdle s := by
  unfold takeover
  rw [if_neg (by simp [ho, hs]), hc]

theorem takeover_ready (c : Nat) (s : State) (ho : twinOn s = true) (hs : s.dev.st = .standby) (hp : s.twin.pst = .ready)
    (hc : (4 ≤ s.twin.loss ∧ (s.twin.pal = 1 ∨ s.twin.pal = 2) ∧ c = 0) ∨
      (¬ (4 ≤ s.twin.loss ∧ (s.twin.pal = 1 ∨ s.twin.pal = 2)) ∧ s.twin.cause = some c)) :
    ∃ t, exec .takeover s = .next t ∧
      t = { s.msgs t with
        dev := { s.dev with st := .active }, phases := t.phases, doms := t.doms, cup := t.cup, capt := t.capt
        twin := { s.twin with pst := .solo, last := s.dev.frame % 4294967296, hoGot := 0, swapDue := false } } ∧
      t.Waits 0xA1 0 c ∧ t.cup.run = false ∧ (s.cup.run = false → t.cup = s.cup ∧ t.capt = s.capt) ∧
      (∀ k < 4, t.dom k = if drvHigh t k && !drvHigh s k then { s.dom k with drvRise := s.dev.frame * 400 + 80 } else s.dom k) ∧
      ∀ p < 48, t.ph p = { s.ph p with gen := { (s.ph p).gen with
          driving := (s.ph p).gen.driving && !(s.ph p).gen.going, ref := (t.ph p).gen.ref } } ∧
        ((s.ph p).gen.going = true → (t.ph p).gen.ref = (s.ph p).gen.ref) := by
  have he : exec .takeover s = .next (takeOver c (nowCnt s + 80) .solo s.begin) := by
    show Host.Outcome.next (clocked takeover s.begin) = _
    rw [clocked_of_twinOn ho, takeover_of_cause (s := s.begin) ho hs (takeoverCause_eq (s := s.begin) hc)]
    exact congrArg Host.Outcome.next (if_pos (by simp [hp]))
  obtain ⟨hall, hdev, htwin, hwaits, hcup, hstay, hdom, hph⟩ :=
    takeOver_takes c (nowCnt s + 80) .solo (s := s.begin) (clocks_of_twinOn ho).2
  refine ⟨_, he, (eq_take_of_only hall).trans ?_, hwaits, hcup, hstay, hdom, hph⟩
  simp only [State.take, hdev, htwin]
  rfl

/-- Leaving ACTIVE moves no rail's state (R173). -/
theorem leaveActive_st (r : Nat) (s : State) : ((leaveActive s).rail r).st = (s.rail r).st := by
  unfold leaveActive
  show ((endRunning _).rail r).st = _
  rw [only_rail (endRunning_only _), only_rail (only_loop (l := [.doms]) (fun t k => modDom_only t k _) 4)]
  unfold loop
  refine foldl_keeps (P := fun u : State => (u.rail r).st = (s.rail r).st) (fun u q h => ?_) _ rfl
  rw [rail_modRail]
  split
  · exact h
  · exact h

theorem goIdle_only (s : State) : Only [.dev, .rails, .doms, .cup, .capt, .msgs, .phases] s (goIdle s) := by
  unfold goIdle
  exact only_then (l := [.dev, .rails, .doms, .cup, .capt, .msgs]) (m := [.phases])
    (only_then (l := [.dev]) (upd_dev s _) (leaveActive_only _)) (upd_phases _ _)

theorem goIdle_dev (s : State) : (goIdle s).dev = { s.dev with st := .idle } := only_dev (leaveActive_only _)

theorem goIdle_st (r : Nat) (s : State) : ((goIdle s).rail r).st = (s.rail r).st := leaveActive_st r _

/-- Every rail in OFF (R322). -/
def allOff (s : State) : State := loop 16 (fun s r => toOff r s) s

theorem allOff_only (s : State) : Only stopParts s (allOff s) := only_loop (fun t r => toOff_only t r) 16

theorem allOff_st {r : Nat} (hr : r < 16) (s : State) : ((allOff s).rail r).st = .off := by
  unfold allOff loop
  refine foldl_of_mem (P := fun u : State => (u.rail r).st = .off) (Q := fun _ => True) (f := fun u q => toOff q u)
    (fun _ _ h => h) (fun u q h => ?_) (fun _ _ => toOff_st hr) (List.mem_range.2 hr) trivial
  by_cases hq : r = q
  · subst hq
    exact toOff_st hr
  · rw [toOff_other hq]
    exact h

theorem fallIdle_eq (s : State) : fallIdle s = goIdle { allOff s with twin := { (allOff s).twin with pst := .solo } } := rfl

/-- A standby that falls to IDLE keeps the rest of its device state, and is SOLO (R322). -/
theorem fallIdle_dev (s : State) : (fallIdle s).dev = { s.dev with st := .idle } := by
  have h := only_dev (allOff_only s)
  rw [fallIdle_eq, goIdle_dev]
  generalize allOff s = u at h
  rw [← h]

theorem fallIdle_twin (s : State) : (fallIdle s).twin = { s.twin with pst := .solo } := by
  have h := only_twin (allOff_only s)
  rw [fallIdle_eq, only_twin (goIdle_only _)]
  generalize allOff s = u at h
  rw [← h]

theorem fallIdle_st {r : Nat} (hr : r < 16) (s : State) : ((fallIdle s).rail r).st = .off := by
  have h := allOff_st hr s
  rw [fallIdle_eq, goIdle_st]
  generalize allOff s = u at h
  exact h

theorem takeover_not_ready (c : Nat) (s : State) (ho : twinOn s = true) (hs : s.dev.st = .standby) (hp : s.twin.pst ≠ .ready)
    (hc : (4 ≤ s.twin.loss ∧ (s.twin.pal = 1 ∨ s.twin.pal = 2)) ∨ s.twin.cause = some c) :
    ∃ t, exec .takeover s = .next t ∧ t.dev = { s.dev with st := .idle } ∧ t.twin = { s.twin with pst := .solo } ∧
      (∀ r < 16, (t.rail r).st = .off) ∧ t.Quiet := by
  obtain ⟨d, hd⟩ := takeoverCause_some (s := s.begin) hc
  have he : exec .takeover s = .next (fallIdle s.begin) := by
    show Host.Outcome.next (clocked takeover s.begin) = _
    rw [clocked_of_twinOn ho, takeover_of_cause (s := s.begin) ho hs hd]
    exact congrArg Host.Outcome.next (if_neg (by simpa using hp))
  have hst : (fallIdle s.begin).dev.st = .idle := congrArg Dev.st (fallIdle_dev _)
  exact ⟨_, he, fallIdle_dev _, fallIdle_twin _, fun _ hr => fallIdle_st hr _, quiet_of_not_active (.inr (.inr (by simp [hst])))⟩

end Sys2Proof.Machine
end

section
/-! PROOFS: SWAP_EDGE; the statement about takeover and handover (R321). -/

-- The package as one text: its declarations are elaborated one after another, to hold few threads.
set_option Elab.async false

namespace Sys2Proof.Machine

/-! ### SWAP_EDGE (R321) -/

/-- The swap edge is no longer due. -/
def swapDone (s : State) : State := { s with twin := { s.twin with swapDue := false } }

/-- The outgoing device begins to leave (R321). -/
def startLeaving (s : State) : State := { s with twin := { s.twin with swapDue := false, leaving := true, wrq := [], copied := none } }

/-- The incoming device waits for its partner's copy (R321). -/
def asPrimary (s : State) : State := { s with twin := { s.twin with copyDue := true, wrq := [], copied := none, ppst := 7 } }

theorem swapEdge_incoming {s : State} (ho : twinOn s = true) (hd : s.twin.swapDue = true) (hp : s.twin.pst = .ready) (hs : s.dev.st = .standby) :
    swapEdge s = asPrimary (takeOver 3 (nowCnt s - 400) .primary (swapDone s)) := by
  have hg : (s.twin.pst == .ready && s.dev.st == .standby) = true := by simp [hp, hs]
  unfold swapEdge
  rw [if_neg (by simp [ho, hd])]
  dsimp only
  rw [if_pos hg]
  simp only [asPrimary, swapDone, nowCnt]

theorem swapEdge_outgoing {s : State} (ho : twinOn s = true) (hd : s.twin.swapDue = true) (hp : s.twin.pst = .primary)
    (hs : s.dev.st = .active ∨ s.dev.st = .idle) : swapEdge s = handoverDone (startLeaving s) := by
  unfold swapEdge
  rw [if_neg (by simp [ho, hd])]
  dsimp only
  rw [if_neg (by simp [hp]), if_pos (by rcases hs with h | h <;> simp [hp, h])]
  rfl

/-- What the incoming device moves (R321). -/
theorem asPrimary_frame {c rise : Nat} {s u : State} (h : TakesOver c rise .primary (swapDone s.begin) u) :
    asPrimary u = { s.msgs (asPrimary u) with
      dev := { s.dev with st := .active }, phases := u.phases, doms := u.doms, cup := u.cup, capt := u.capt
      twin := { s.twin with pst := .primary, last := s.dev.frame % 4294967296, hoGot := 0, swapDue := false, copyDue := true
                            wrq := [], copied := none, ppst := 7 } } := by
  refine (congrArg asPrimary (eq_take_of_only h.only)).trans ?_
  simp only [asPrimary, State.take, h.dev, h.twin]
  rfl

theorem swapEdge_ready (s : State) (ho : twinOn s = true) (hd : s.twin.swapDue = true) (hp : s.twin.pst = .ready) (hs : s.dev.st = .standby) :
    ∃ t, exec .swapEdge s = .next t ∧
      t = { s.msgs t with
        dev := { s.dev with st := .active }, phases := t.phases, doms := t.doms, cup := t.cup, capt := t.capt
        twin := { s.twin with pst := .primary, last := s.dev.frame % 4294967296, hoGot := 0, swapDue := false, copyDue := true
                              wrq := [], copied := none, ppst := 7 } } ∧
      t.Waits 0xA1 0 3 ∧ t.cup.run = false ∧ (s.cup.run = false → t.cup = s.cup ∧ t.capt = s.capt) ∧
      (∀ k < 4, t.dom k = if drvHigh t k && !drvHigh s k then { s.dom k with drvRise := s.dev.frame * 400 - 400 } else s.dom k) ∧
      ∀ p < 48, t.ph p = { s.ph p with gen := { (s.ph p).gen with
          driving := (s.ph p).gen.driving && !(s.ph p).gen.going, ref := (t.ph p).gen.ref } } ∧
        ((s.ph p).gen.going = true → (t.ph p).gen.ref = (s.ph p).gen.ref) := by
  have htakes := takeOver_takes 3 (nowCnt s.begin - 400) .primary (s := swapDone s.begin) (clocks_of_twinOn ho).2
  have he : exec .swapEdge s = .next (asPrimary (takeOver 3 (nowCnt s.begin - 400) .primary (swapDone s.begin))) := by
    show Host.Outcome.next (clocked swapEdge s.begin) = _
    rw [clocked_of_twinOn ho, swapEdge_incoming (s := s.begin) ho hd hp hs]
  generalize takeOver 3 (nowCnt s.begin - 400) .primary (swapDone s.begin) = u at htakes he
  exact ⟨_, he, asPrimary_frame htakes, htakes.waits, htakes.cupEnds, htakes.cupStays, htakes.dom, htakes.ph⟩

/-- While a phase drives and counts, the outgoing device goes on. -/
theorem handoverDone_waits {s : State} (h : ∃ p < 48, (s.ph p).gen.driving = true ∧ (s.ph p).gen.going = true ∧ counts s p = true) :
    handoverDone s = s := by
  obtain ⟨p, hp, hd, hg, hc⟩ := h
  refine if_neg fun hn => ?_
  have hall := List.all_eq_true.1 (Bool.and_eq_true_iff.1 hn).2 p (List.mem_range.2 hp)
  simp [hd, hg, hc] at hall

theorem handoverDone_enters {s : State} (hl : s.twin.leaving = true)
    (h : ∀ p < 48, (s.ph p).gen.driving = true → (s.ph p).gen.going = true → counts s p = false) :
    handoverDone s = enterSyncing false s := by
  refine if_pos (Bool.and_eq_true_iff.2 ⟨hl, List.all_eq_true.2 fun p hp => ?_⟩)
  cases hd : (s.ph p).gen.driving
  · rfl
  · cases hg : (s.ph p).gen.going
    · rfl
    · simp [h p (List.mem_range.1 hp) hd hg]

theorem dropWaitingHost_only (s : State) : Only [.sb] s (dropWaitingHost s) := only_ite (upd_sb s _) only_refl

/-- The state from which a device becomes SYNCING: out of ACTIVE, no host transaction waiting. -/
def beforeSyncing (s : State) : State := dropWaitingHost (if s.dev.st == .active then leaveActive s else s)

theorem beforeSyncing_only (s : State) : Only [.rails, .doms, .cup, .capt, .msgs, .sb] s (beforeSyncing s) :=
  only_then (l := [.rails, .doms, .cup, .capt, .msgs]) (only_ite (leaveActive_only s) only_refl) (dropWaitingHost_only _)

theorem beforeSyncing_st (r : Nat) (s : State) : ((beforeSyncing s).rail r).st = (s.rail r).st := by
  unfold beforeSyncing
  rw [only_rail (dropWaitingHost_only _)]
  split
  · exact leaveActive_st r s
  · rfl

section
variable (s : State)

theorem enterSyncing_dev (b : Bool) : (enterSyncing b s).dev = { s.dev with st := .standby } := by
  show { (beforeSyncing s).dev with st := .standby } = _
  rw [only_dev (beforeSyncing_only s)]

theorem enterSyncing_rpl : (enterSyncing false s).twin.rpl = s.twin.rpl :=
  (congrArg Twin.rpl (only_twin (beforeSyncing_only s)) :)

theorem enterSyncing_swapDue (b : Bool) : (enterSyncing b s).twin.swapDue = s.twin.swapDue :=
  (congrArg Twin.swapDue (only_twin (beforeSyncing_only s)) :)

theorem enterSyncing_st (b : Bool) (r : Nat) : ((enterSyncing b s).rail r).st = (s.rail r).st := beforeSyncing_st r s

theorem enterSyncing_eng (b : Bool) : (enterSyncing b s).eng = s.eng := (only_eng (beforeSyncing_only s) :)

theorem enterSyncing_bank (b : Bool) : (enterSyncing b s).bank = s.bank := (only_bank (beforeSyncing_only s) :)

end

theorem swapEdge_primary_driving (s : State) (ho : twinOn s = true) (hd : s.twin.swapDue = true) (hp : s.twin.pst = .primary)
    (hs : s.dev.st = .active ∨ s.dev.st = .idle)
    (h : ∃ p < 48, (s.ph p).gen.driving = true ∧ (s.ph p).gen.going = true ∧ counts s p = true) :
    exec .swapEdge s = .next { s.begin with twin := { s.twin with swapDue := false, leaving := true, wrq := [], copied := none } } := by
  show Host.Outcome.next (clocked swapEdge s.begin) = _
  rw [clocked_of_twinOn ho, swapEdge_outgoing (s := s.begin) ho hd hp hs, handoverDone_waits (s := startLeaving s.begin) h]
  rfl

theorem swapEdge_primary_idle (s : State) (ho : twinOn s = true) (hd : s.twin.swapDue = true) (hp : s.twin.pst = .primary)
    (hs : s.dev.st = .active ∨ s.dev.st = .idle)
    (h : ∀ p < 48, (s.ph p).gen.driving = true → (s.ph p).gen.going = true → counts s p = false) :
    ∃ t, exec .swapEdge s = .next t ∧ t.dev = { s.dev with st := .standby } ∧ t.twin.pst = .syncing ∧ t.twin.swapDue = false ∧
      t.twin.leaving = false ∧ t.twin.rpl = s.twin.rpl ∧ (∀ r, (t.rail r).st = (s.rail r).st) ∧ t.eng = s.eng ∧ t.bank = s.bank := by
  have he : exec .swapEdge s = .next (enterSyncing false (startLeaving s.begin)) := by
    show Host.Outcome.next (clocked swapEdge s.begin) = _
    rw [clocked_of_twinOn ho, swapEdge_outgoing (s := s.begin) ho hd hp hs, handoverDone_enters (s := startLeaving s.begin) rfl h]
  exact ⟨_, he, enterSyncing_dev _ _, rfl, enterSyncing_swapDue _ _, rfl, enterSyncing_rpl _, fun r => enterSyncing_st _ _ r,
    enterSyncing_eng _ _, enterSyncing_bank _ _⟩

end Sys2Proof.Machine

section
open Sys2Proof Sys2Proof.Machine

/-- Settles O51: each way of a takeover and of a swap edge by the operation that completes it. -/
theorem takeoverAndHandover : Obligations.TakeoverAndHandover :=
  ⟨takeover_ready, takeover_not_ready, swapEdge_ready, swapEdge_primary_driving, swapEdge_primary_idle⟩
end
end

section
/-! PROOFS: rounding to nearest and powers of two (R51), the values of BF24 codes and their encoding (R46, R457). -/

-- The package as one text: its declarations are elaborated one after another, to hold few threads.
set_option Elab.async false

namespace Sys2Proof.Machine

/-! ### Powers of two -/

theorem pow2_eq_zpow (e : Int) : pow2 e = (2 : Rat) ^ e := by
  unfold pow2
  split
  · next h =>
    obtain ⟨n, rfl⟩ := Int.eq_ofNat_of_zero_le h
    simp
  · next h =>
    obtain ⟨n, hn⟩ := Int.eq_ofNat_of_zero_le (show 0 ≤ -e by omega)
    obtain rfl : e = -(n : Int) := by omega
    simp

theorem pow2_pos (e : Int) : 0 < pow2 e := by rw [pow2_eq_zpow]; positivity

theorem pow2_mul (a b : Int) : pow2 a * pow2 b = pow2 (a + b) := by simp only [pow2_eq_zpow, zpow_add₀ (two_ne_zero (α := Rat))]

theorem pow2_div (a b : Int) : pow2 a / pow2 b = pow2 (a - b) := by simp only [pow2_eq_zpow, zpow_sub₀ (two_ne_zero (α := Rat))]

theorem pow2_le_iff {a b : Int} : pow2 a ≤ pow2 b ↔ a ≤ b := by
  rw [pow2_eq_zpow, pow2_eq_zpow, zpow_le_zpow_iff_right₀ one_lt_two]

theorem pow2_lt_iff {a b : Int} : pow2 a < pow2 b ↔ a < b := by
  rw [pow2_eq_zpow, pow2_eq_zpow, zpow_lt_zpow_iff_right₀ one_lt_two]

/-- A power with an exponent from 0 up, as an integer. -/
theorem pow2_toNat {e : Int} (h : 0 ≤ e) : pow2 e = ((2 ^ e.toNat : Int) : Rat) := by simp [pow2, h]

/-- A multiple of a power of two, at a smaller power. -/
theorem mul_pow2_sub {m a b : Int} (h : b ≤ a) : (m : Rat) * pow2 (a - b) = ((m * 2 ^ (a - b).toNat : Int) : Rat) := by
  rw [pow2_toNat (by omega)]; push_cast; rfl

theorem pow2_zero : pow2 0 = 1 := by norm_num [pow2]

theorem pow2_one : pow2 1 = 2 := by norm_num [pow2]

/-- A positive value lies between the powers of two of its binary order and of the next. -/
theorem pow2_floorLog2 {q : Rat} (hq : 0 < q) : pow2 (floorLog2 q) ≤ q ∧ q < pow2 (floorLog2 q + 1) := by
  obtain ⟨n, hn⟩ := Int.eq_ofNat_of_zero_le (Rat.num_pos.2 hq).le
  have hn0 : n ≠ 0 := by have := Rat.num_pos.2 hq; omega
  have hv : (n : Rat) = q * q.den := by rw [Rat.mul_den_eq_num, hn, Int.cast_natCast]
  have hd : (0 : Rat) < q.den := by exact_mod_cast q.den_pos
  have order (k : Nat) (hk : k ≠ 0) : pow2 (Nat.log2 k) ≤ (k : Rat) ∧ (k : Rat) < pow2 (Nat.log2 k + 1) := by
    rw [pow2_eq_zpow, pow2_eq_zpow]
    exact ⟨by exact_mod_cast Nat.log2_self_le hk, by exact_mod_cast Nat.lt_log2_self⟩
  obtain ⟨n1, n2⟩ := order n hn0
  obtain ⟨d1, d2⟩ := order q.den q.den_ne_zero
  have lo : pow2 ((Nat.log2 n : Int) - Nat.log2 q.den - 1) ≤ q := by
    refine le_of_mul_le_mul_right ?_ hd
    calc _ ≤ pow2 ((Nat.log2 n : Int) - Nat.log2 q.den - 1) * pow2 (Nat.log2 q.den + 1) :=
          mul_le_mul_of_nonneg_left d2.le (pow2_pos _).le
      _ = pow2 (Nat.log2 n) := by rw [pow2_mul]; congr 1; ring
      _ ≤ n := n1
      _ = q * q.den := hv
  have hi : q < pow2 ((Nat.log2 n : Int) - Nat.log2 q.den + 1) := by
    refine lt_of_mul_lt_mul_right ?_ hd.le
    calc q * q.den = n := hv.symm
      _ < pow2 (Nat.log2 n + 1) := n2
      _ = pow2 ((Nat.log2 n : Int) - Nat.log2 q.den + 1) * pow2 (Nat.log2 q.den) := by rw [pow2_mul]; congr 1; ring
      _ ≤ _ := mul_le_mul_of_nonneg_left d1 (pow2_pos _).le
  unfold floorLog2
  simp only [hn, Int.natAbs_natCast]
  split
  · next h => exact ⟨h, hi⟩
  · next h => exact ⟨lo, by simpa using h⟩

theorem floorLog2_lt {q : Rat} (hq : 0 < q) {e : Int} (h : q < pow2 e) : floorLog2 q < e :=
  pow2_lt_iff.1 ((pow2_floorLog2 hq).1.trans_lt h)

theorem floorLog2_le {q : Rat} (hq : 0 < q) {e : Int} (h : q ≤ pow2 e) : floorLog2 q ≤ e :=
  pow2_le_iff.1 ((pow2_floorLog2 hq).1.trans h)

/-! ### Rounding to nearest, ties away from zero (R51) -/

theorem roundAway_intCast (z : Int) : roundAway (z : Rat) = z := by
  have half (n : Int) : ⌊(n : Rat) + 1 / 2⌋ = n := by
    rw [Int.floor_intCast_add]; norm_num
  unfold roundAway
  split
  · exact half z
  · have := half (-z)
    push_cast at this
    rw [this, neg_neg]

/-- The magnitude is rounded, whatever the sign. -/
theorem natAbs_roundAway (q : Rat) : ((roundAway q).natAbs : Int) = ⌊|q| + 1 / 2⌋ := by
  have h0 (r : Rat) (hr : 0 ≤ r) : 0 ≤ ⌊r + 1 / 2⌋ := Int.floor_nonneg.2 (by linarith)
  unfold roundAway
  split
  · next h => rw [abs_of_nonneg h, Int.natAbs_of_nonneg (h0 q h)]
  · next h =>
    have hq : 0 ≤ -q := by linarith
    rw [abs_of_neg (by linarith), Int.natAbs_neg, Int.natAbs_of_nonneg (h0 _ hq)]

theorem natAbs_roundAway_lt {q : Rat} {n : Nat} : (roundAway q).natAbs < n ↔ |q| + 1 / 2 < n := by
  rw [← Int.ofNat_lt, natAbs_roundAway, Int.floor_lt]; rfl

theorem le_natAbs_roundAway {q : Rat} {n : Nat} : n ≤ (roundAway q).natAbs ↔ (n : Rat) ≤ |q| + 1 / 2 := by
  rw [← Int.ofNat_le, natAbs_roundAway, Int.le_floor]; rfl

/-- A rounded value is within half a unit of what it was. -/
theorem abs_roundAway_sub_le (q : Rat) : |(roundAway q : Rat) - q| ≤ 1 / 2 := by
  have h1 (r : Rat) := Int.floor_le (r + 1 / 2)
  have h2 (r : Rat) := Int.lt_floor_add_one (r + 1 / 2)
  rw [abs_le]
  unfold roundAway
  split
  · constructor <;> linarith [h1 q, h2 q]
  · push_cast
    constructor <;> linarith [h1 (-q), h2 (-q)]

theorem roundAway_nonneg {q : Rat} (h : 0 ≤ q) : 0 ≤ roundAway q := by
  rw [roundAway, if_pos h]
  exact Int.floor_nonneg.2 (by linarith)

theorem roundAway_nonpos {q : Rat} (h : q < 0) : roundAway q ≤ 0 := by
  rw [roundAway, if_neg h.not_ge]
  exact neg_nonpos.2 (Int.floor_nonneg.2 (by linarith))

/-- A shift right is the rounded quotient by the power of two (R54, R56). -/
theorem shrAway_eq_roundAway (x : Int) (k : Nat) : shrAway x k = roundAway ((x : Rat) * pow2 (-(k : Int))) := by
  have hf : ⌊|(x : Rat) * pow2 (-(k : Int))| + 1 / 2⌋ = (((x.natAbs + 2 ^ k / 2) / 2 ^ k : Nat) : Int) := by
    rw [abs_mul, abs_of_pos (pow2_pos _), ← Int.cast_abs, Int.abs_eq_natAbs, pow2_eq_zpow, zpow_neg, zpow_natCast]
    cases k with
    | zero => simpa using (Int.floor_natCast_add x.natAbs (1 / 2 : Rat)).trans (by norm_num)
    | succ k =>
      have h2 : (2 : Nat) ^ (k + 1) / 2 = 2 ^ k := by rw [pow_succ]; omega
      rw [h2, Int.natCast_ediv, ← Rat.floor_intCast_div_natCast]
      congr 1
      push_cast
      rw [pow_succ]
      field_simp
  rw [← natAbs_roundAway] at hf
  have hp := pow2_pos (-(k : Int))
  unfold shrAway
  dsimp only
  split
  · next h =>
    have := roundAway_nonpos (mul_neg_of_neg_of_pos (show (x : Rat) < 0 by exact_mod_cast h) hp)
    omega
  · next h =>
    have := roundAway_nonneg (mul_nonneg (show (0 : Rat) ≤ x by exact_mod_cast not_lt.1 h) hp.le)
    omega

/-- A shift left or right is the rounded product with the power of two. -/
theorem shift_eq_roundAway (m s : Int) :
    (if 0 ≤ s then m * 2 ^ s.toNat else shrAway m (-s).toNat) = roundAway ((m : Rat) * pow2 s) := by
  split
  · next h => rw [pow2_toNat h, ← Int.cast_mul, roundAway_intCast]
  · next h => rw [shrAway_eq_roundAway, Int.toNat_of_nonneg (by omega), neg_neg]

/-- Within the limits nothing saturates. -/
theorem clampI_of_mem {lo hi x : Int} (h1 : lo ≤ x) (h2 : x ≤ hi) : clampI lo hi x = x := by
  rw [clampI, if_neg h1.not_gt, if_neg h2.not_gt]

/-! ### BF24 (R46, R457) -/

theorem bfM_range (w : Word) : -131072 ≤ bfM w ∧ bfM w ≤ 131071 := by
  have : fld w 23 6 < 262144 := Nat.mod_lt _ (by decide)
  unfold bfM
  dsimp only
  split <;> omega

theorem bfE_range (w : Word) : -32 ≤ bfE w ∧ bfE w ≤ 31 := by
  have : fld w 5 0 < 64 := Nat.mod_lt _ (by decide)
  unfold bfE
  dsimp only
  split <;> omega

/-- A mantissa and an exponent of the format are read back from their code. -/
theorem bf_bfCode {m e : Int} (hm : -131072 ≤ m ∧ m ≤ 131071) (he : -32 ≤ e ∧ e ≤ 31) :
    bf (bfCode m e) = (m : Rat) * pow2 (e - 17) := by
  obtain ⟨hm1, hm2⟩ := hm
  obtain ⟨he1, he2⟩ := he
  have hw : (bfCode m e).toNat = (m % 262144).toNat * 64 + (e % 64).toNat := by
    rw [bfCode, BitVec.toNat_ofNat, Nat.mod_eq_of_lt]; omega
  have h1 : fld (bfCode m e) 23 6 = (m % 262144).toNat := by
    simp only [fld, hw, Nat.shiftRight_eq_div_pow]; omega
  have h2 : fld (bfCode m e) 5 0 = (e % 64).toNat := by
    simp only [fld, hw, Nat.shiftRight_eq_div_pow]; omega
  have hM : bfM (bfCode m e) = m := by
    rw [bfM, h1]; split <;> omega
  have hE : bfE (bfCode m e) = e := by
    rw [bfE, h2]; split <;> omega
  rw [bf, hM, hE]

/-- The exponent of a normalised code before its limits: the smallest that holds the value (R46). -/
def bfExp (x : Rat) : Int :=
  if x < 0 ∧ pow2 (floorLog2 |x|) = |x| then floorLog2 |x| else floorLog2 |x| + 1

theorem ite_neg_eq_abs (q : Rat) : (if q < 0 then -q else q) = |q| := by
  split
  · next h => exact (abs_of_neg h).symm
  · next h => exact (abs_of_nonneg (not_lt.1 h)).symm

theorem abs_le_pow2_bfExp {x : Rat} (hx : x ≠ 0) : |x| ≤ pow2 (bfExp x) ∧ (0 < x → |x| < pow2 (bfExp x)) := by
  obtain ⟨-, h⟩ := pow2_floorLog2 (abs_pos.2 hx)
  unfold bfExp
  split
  · next hc => exact ⟨hc.2.ge, fun h0 => absurd hc.1 h0.not_gt⟩
  · exact ⟨h.le, fun _ => h⟩

theorem bfExp_le {x : Rat} {e : Int} (hx : x ≠ 0) (h : |x| ≤ pow2 e) (hp : 0 < x → |x| < pow2 e) : bfExp x ≤ e := by
  have ha := abs_pos.2 hx
  unfold bfExp
  split
  · exact floorLog2_le ha h
  · next hc =>
    rcases hx.lt_or_gt with h0 | h0
    · have hl : pow2 (floorLog2 |x|) < |x| := lt_of_le_of_ne (pow2_floorLog2 ha).1 fun h => hc ⟨h0, h⟩
      exact pow2_lt_iff.1 (hl.trans_le h)
    · exact floorLog2_lt ha (hp h0)

/-- The code of a value that is whole at the code's exponent (R457). -/
theorem toBF_of_whole {x : Rat} {n f : Int} (h0 : x ≠ 0) (hf : f = if bfExp x < -32 then -32 else bfExp x)
    (hn : x * pow2 (17 - f) = n) (hn' : n ≠ 131072) (hf' : f ≤ 31) :
    toBF x = if n = -65536 ∧ -32 < f then bfCode (-131072) (f - 1) else bfCode n f := by
  have hr : roundAway (x * pow2 (17 - f)) = n := by rw [hn, roundAway_intCast]
  have h32 : ¬ 32 < f := by omega
  unfold toBF
  simp only [ite_neg_eq_abs]
  rw [if_neg h0, ← bfExp, ← hf, hr, if_neg hn', if_neg h32, if_neg hf'.not_gt]

theorem pow2_seventeen : pow2 17 = 131072 := by decide +kernel

/-- The exponent of the code is at most that of any code of the value. -/
theorem bfExp_format_le {m e : Int} (hm : -131072 ≤ m ∧ m ≤ 131071) (h0 : (m : Rat) * pow2 (e - 17) ≠ 0) :
    bfExp ((m : Rat) * pow2 (e - 17)) ≤ e := by
  have hp : pow2 e = 131072 * pow2 (e - 17) := by rw [← pow2_seventeen, pow2_mul, add_sub_cancel]
  have hpe := pow2_pos (e - 17)
  have hm1 : (-131072 : Rat) ≤ m := by exact_mod_cast hm.1
  have hm2 : (m : Rat) < 131072 := by exact_mod_cast Int.lt_add_one_iff.2 hm.2
  refine bfExp_le h0 ?_ fun hpos => ?_
  · rw [hp, abs_mul, abs_of_pos hpe]
    exact mul_le_mul_of_nonneg_right (abs_le.2 ⟨hm1, hm2.le⟩) hpe.le
  · rw [abs_of_pos hpos, hp]
    exact mul_lt_mul_of_pos_right hm2 hpe

/-- A value that is whole at its exponent, or at a larger one, has a mantissa of the format there. -/
theorem whole_range {x : Rat} {n f : Int} (h0 : x ≠ 0) (hf : bfExp x ≤ f) (hn : x * pow2 (17 - f) = n) :
    -131072 ≤ n ∧ n < 131072 := by
  have hup : pow2 f * pow2 (17 - f) = 131072 := by rw [pow2_mul, add_sub_cancel, pow2_seventeen]
  obtain ⟨hb, hb'⟩ := abs_le_pow2_bfExp h0
  have hfx := pow2_le_iff.2 hf
  have hpf := pow2_pos (17 - f)
  have hx : x < pow2 f := by
    by_cases hpos : 0 < x
    · exact (le_abs_self x).trans_lt ((hb' hpos).trans_le hfx)
    · exact (not_lt.1 hpos).trans_lt (pow2_pos f)
  have h1 := mul_le_mul_of_nonneg_right (abs_le.1 (hb.trans hfx)).1 hpf.le
  have h2 := mul_lt_mul_of_pos_right hx hpf
  rw [neg_mul, hn, hup] at h1
  rw [hn, hup] at h2
  exact ⟨by exact_mod_cast h1, by exact_mod_cast h2⟩

/-- The encoding takes a value that is in the format exactly (R46). -/
theorem bf_toBF {m e : Int} (hm : -131072 ≤ m ∧ m ≤ 131071) (he : -32 ≤ e ∧ e ≤ 31) :
    bf (toBF ((m : Rat) * pow2 (e - 17))) = (m : Rat) * pow2 (e - 17) := by
  by_cases h0 : (m : Rat) * pow2 (e - 17) = 0
  · rw [h0]; decide +kernel
  have hle := bfExp_format_le hm h0
  obtain ⟨x, hx⟩ : ∃ x, x = (m : Rat) * pow2 (e - 17) := ⟨_, rfl⟩
  rw [← hx] at h0 hle ⊢
  obtain ⟨f, hf⟩ : ∃ f, f = if bfExp x < -32 then -32 else bfExp x := ⟨_, rfl⟩
  obtain ⟨hf1, hf2, hf3⟩ : -32 ≤ f ∧ f ≤ e ∧ bfExp x ≤ f := by rw [hf]; split <;> omega
  obtain ⟨n, hn⟩ : ∃ n : Int, x * pow2 (17 - f) = n :=
    ⟨m * 2 ^ (e - f).toNat, by rw [← mul_pow2_sub hf2, hx, mul_assoc, pow2_mul]; congr 2; ring⟩
  have hxn : x = (n : Rat) * pow2 (f - 17) := by
    rw [← hn, mul_assoc, pow2_mul, sub_add_sub_cancel', sub_self, pow2_zero, mul_one]
  obtain ⟨hn1, hn2⟩ := whole_range h0 hf3 hn
  rw [toBF_of_whole h0 hf hn hn2.ne (hf2.trans he.2)]
  split
  · next hc =>
    -- the least mantissa of the exponent below stands for the same value
    have h2 : pow2 (f - 17) = 2 * pow2 (f - 1 - 17) := by
      rw [← pow2_one, pow2_mul]; congr 1; ring
    rw [bf_bfCode (by omega) (by omega), hxn, hc.1, h2]
    push_cast
    ring
  · rw [bf_bfCode ⟨hn1, by omega⟩ (by omega), hxn]

/-- Every code has a normalised code of the same value (R46). -/
theorem bf_toBF_bf (w : Word) : bf (toBF (bf w)) = bf w := bf_toBF (bfM_range w) (bfE_range w)

end Sys2Proof.Machine
end

section
/-! PROOFS: the arithmetic of a stage: a value as a word, products and their sums, the clamp (R53, R56, R57, R150). -/

-- The package as one text: its declarations are elaborated one after another, to hold few threads.
set_option Elab.async false

namespace Sys2Proof.Machine

/-! ### An exact value as a word (R54, R57) -/

/-- A word's exponent before its upper limit: the least, from -32 up, at which the mantissa has at most 25 bits. -/
def sigExp (q : Rat) : Int := if floorLog2 |q| + 1 < -32 then -32 else floorLog2 |q| + 1

/-- A value that is whole at its exponent, and there below 2^25, is that mantissa and that exponent. -/
theorem sigOf_of_whole {q : Rat} {n : Int} (h0 : q ≠ 0) (hn : q * pow2 (25 - sigExp q) = n) (hn' : n.natAbs ≠ 33554432)
    (he : sigExp q ≤ 31) : sigOf q = ⟨n, sigExp q⟩ := by
  have hr : roundAway (q * pow2 (25 - sigExp q)) = n := by rw [hn, roundAway_intCast]
  unfold sigOf
  simp only [ite_neg_eq_abs]
  rw [if_neg h0, ← sigExp, hr, if_neg hn', if_neg he.not_gt]

theorem pow2_twentyfive : pow2 25 = 33554432 := by decide +kernel

theorem abs_lt_pow2_sigExp {q : Rat} (h0 : q ≠ 0) : |q| < pow2 (sigExp q) := by
  refine (pow2_floorLog2 (abs_pos.2 h0)).2.trans_le (pow2_le_iff.2 ?_)
  unfold sigExp
  split <;> omega

theorem sigExp_le {q : Rat} {e : Int} (h0 : q ≠ 0) (h : |q| < pow2 e) (he : -32 ≤ e) : sigExp q ≤ e := by
  have := floorLog2_lt (abs_pos.2 h0) h
  unfold sigExp
  split <;> omega

theorem sigOf_val_of_lt {m e : Int} (hm : m.natAbs < 33554432) (he : -32 ≤ e) (he' : e ≤ 31) :
    (sigOf ((m : Rat) * pow2 (e - 25))).val = (m : Rat) * pow2 (e - 25) := by
  obtain ⟨q, hq⟩ : ∃ q, q = (m : Rat) * pow2 (e - 25) := ⟨_, rfl⟩
  rw [← hq]
  by_cases h0 : q = 0
  · rw [h0]; decide +kernel
  have hqe : |q| < pow2 e := by
    have hm' : |(m : Rat)| < 33554432 := by rw [← Int.cast_abs, Int.abs_eq_natAbs]; exact_mod_cast hm
    rw [hq, abs_mul, abs_of_pos (pow2_pos _), show pow2 e = 33554432 * pow2 (e - 25) by rw [← pow2_twentyfive, pow2_mul, add_sub_cancel]]
    exact mul_lt_mul_of_pos_right hm' (pow2_pos _)
  have hf := sigExp_le h0 hqe he
  obtain ⟨n, hn⟩ : ∃ n : Int, q * pow2 (25 - sigExp q) = n :=
    ⟨m * 2 ^ (e - sigExp q).toNat, by rw [← mul_pow2_sub hf, hq, mul_assoc, pow2_mul]; congr 2; ring⟩
  have hn' : n.natAbs < 33554432 := by
    have h := mul_lt_mul_of_pos_right (abs_lt_pow2_sigExp h0) (pow2_pos (25 - sigExp q))
    rw [pow2_mul, add_sub_cancel, pow2_twentyfive, ← abs_of_pos (pow2_pos (25 - sigExp q)), ← abs_mul, hn, ← Int.cast_abs,
      Int.abs_eq_natAbs] at h
    exact_mod_cast h
  rw [sigOf_of_whole h0 hn hn'.ne (hf.trans he'), Sig.val, ← hn, mul_assoc, pow2_mul, sub_add_sub_cancel', sub_self, pow2_zero, mul_one]

/-- A value of 25 bits enters exactly (R57); a mantissa of 2^25 is halved at the next exponent. -/
theorem sigOf_val_exact {m e : Int} (hm : m.natAbs ≤ 33554432) (he : -32 ≤ e) (he' : e ≤ 30) :
    (sigOf ((m : Rat) * pow2 (e - 25))).val = (m : Rat) * pow2 (e - 25) := by
  rcases hm.lt_or_eq with h | h
  · exact sigOf_val_of_lt h he (by omega)
  · obtain ⟨k, rfl⟩ : ∃ k, m = k * 2 := ⟨m / 2, by omega⟩
    have hq : ((k * 2 : Int) : Rat) * pow2 (e - 25) = (k : Rat) * pow2 (e + 1 - 25) := by
      rw [show e + 1 - 25 = 1 + (e - 25) by ring, ← pow2_mul, pow2_one]
      push_cast
      ring
    rw [hq]
    exact sigOf_val_of_lt (by omega) (by omega) (by omega)

/-- A limit enters exactly (R57). -/
theorem sigOf_puI {l : Int} (h1 : -32768 ≤ l) (h2 : l ≤ 32767) : (sigOf (puI l)).val = puI l := by
  have h : puI l = (l : Rat) * pow2 (11 - 25) := by rw [puI, show pow2 (11 - 25) = 1 / 16384 by decide +kernel]; ring
  rw [h]
  exact sigOf_val_exact (by omega) (by decide) (by decide)

/-! ### The clamp of a stage (R150) -/

theorem limit_of_unclamped {g : Stg} (h : g.clamp = false) (x : Sig) : g.limit x = x := by simp [Stg.limit, h]

/-- A clamped value is limited by number, and a limit is taken exactly. -/
theorem limit_val {g : Stg} (x : Sig) (h : g.clamp = true) (h1 : -32768 ≤ g.lmin) (h2 : g.lmin ≤ g.lmax) (h3 : g.lmax ≤ 32767) :
    (g.limit x).val = clampR (puI g.lmin) (puI g.lmax) x.val := by
  unfold Stg.limit clampR
  rw [if_neg (by simp [h])]
  split
  · exact sigOf_puI h1 (h2.trans h3)
  · split
    · exact sigOf_puI (h1.trans h2) h3
    · rfl

/-! ### Products and their sums (R56) -/

/-- A product is exact. -/
theorem prod_val (x : Sig) (k : Word) : ((prod x k).1 : Rat) * pow2 ((prod x k).2 - 42) = x.val * bf k := by
  rw [← bf_toBF_bf k, bf, Sig.val, prod, show x.e + bfE (toBF (bf k)) - 42 = (x.e - 25) + (bfE (toBF (bf k)) - 17) by ring, ← pow2_mul]
  push_cast
  ring

/-- A product of a word has 45 bits. -/
theorem natAbs_prod_le {x : Sig} (hx : x.m.natAbs ≤ 134217728) (k : Word) : (prod x k).1.natAbs ≤ 17592186044416 := by
  have hk : (bfM (toBF (bf k))).natAbs ≤ 131072 := by have := bfM_range (toBF (bf k)); omega
  calc (prod x k).1.natAbs = x.m.natAbs * (bfM (toBF (bf k))).natAbs := Int.natAbs_mul _ _
    _ ≤ 134217728 * 131072 := Nat.mul_le_mul hx hk

/-- The sum of the accumulator leaves it rounded to 28 bits at the exponent of the block (R56). -/
def leaveAcc (e top acc : Int) : Sig := ⟨clampI (-134217728) 134217727 (roundAway ((acc : Rat) * pow2 (top - 17 - e))), e⟩

theorem mac_of_products {e : Int} {xs : List (Sig × Word)} {p : Int × Int} {t : List (Int × Int)}
    (h : (xs.map fun x => prod x.1 x.2).filter (fun p => p.1 != 0) = p :: t) (ht : ∀ q ∈ t, q.2 = p.2) :
    mac e xs = leaveAcc e p.2 (accumulate (p :: t) p.2) := by
  have htop : t.foldl (fun a q => if a < q.2 then q.2 else a) p.2 = p.2 := by
    clear h
    induction t with
    | nil => rfl
    | cons q t ih =>
      rw [List.foldl_cons, ht q (by simp), if_neg (lt_irrefl _)]
      exact ih fun r hr => ht r (by simp [hr])
  unfold mac leaveAcc
  simp only [h, htop, shift_eq_roundAway]

theorem mac_of_no_product {e : Int} {xs : List (Sig × Word)}
    (h : (xs.map fun x => prod x.1 x.2).filter (fun p => p.1 != 0) = []) : mac e xs = ⟨0, e⟩ := by
  simp only [mac, h]

/-- A product of the largest exponent enters the accumulator as it is. -/
theorem shrAway_zero (x : Int) : shrAway x 0 = x := by
  rw [shrAway_eq_roundAway]; norm_num [pow2_zero, roundAway_intCast]

/-- Two products of one exponent are summed exactly: 48 bits hold them. -/
theorem accumulate_two {p q top : Int} (hp : p.natAbs ≤ 17592186044416) (hq : q.natAbs ≤ 17592186044416) :
    accumulate [(p, top), (q, top)] top = p + q := by
  simp only [accumulate, List.foldl_cons, List.foldl_nil, sub_self, Int.toNat_zero, shrAway_zero, zero_add]
  rw [clampI_of_mem (x := p) (by omega) (by omega), clampI_of_mem (by omega) (by omega)]

theorem accumulate_one {p top : Int} (hp : p.natAbs ≤ 17592186044416) : accumulate [(p, top)] top = p := by
  simp only [accumulate, List.foldl_cons, List.foldl_nil, sub_self, Int.toNat_zero, shrAway_zero, zero_add]
  exact clampI_of_mem (by omega) (by omega)

/-- What leaves the accumulator, as the rounded exact sum. -/
theorem leaveAcc_eq {e top acc : Int} {v : Rat} (h : (acc : Rat) * pow2 (top - 42) = v) :
    leaveAcc e top acc = ⟨clampI (-134217728) 134217727 (roundAway (v / pow2 (e - 25))), e⟩ := by
  rw [leaveAcc, ← h, mul_div_assoc, pow2_div, show top - 42 - (e - 25) = top - 17 - e by ring]

/-- One product is rounded once, at the exponent of the block. -/
theorem mac_one (e : Int) (x : Sig) (k : Word) (hx : x.m.natAbs ≤ 134217728) :
    mac e [(x, k)] = ⟨clampI (-134217728) 134217727 (roundAway (x.val * bf k / pow2 (e - 25))), e⟩ := by
  have hp := natAbs_prod_le hx k
  by_cases h0 : (prod x k).1 = 0
  · have hv : x.val * bf k = 0 := by rw [← prod_val, h0, Int.cast_zero, zero_mul]
    rw [mac_of_no_product (by simp [h0]), hv, zero_div]
    congr
    decide +kernel
  · have hacc : accumulate [prod x k] (prod x k).2 = (prod x k).1 := accumulate_one hp
    rw [mac_of_products (p := prod x k) (t := []) (by simp [h0]) (by simp), hacc, leaveAcc_eq (prod_val x k)]

/-- Two products of one exponent are rounded once, in their sum. -/
theorem mac_two (e : Int) (x y : Sig) (k l : Word) (hx : x.m.natAbs ≤ 134217728) (hy : y.m.natAbs ≤ 134217728)
    (hx0 : (prod x k).1 ≠ 0) (hy0 : (prod y l).1 ≠ 0) (he : (prod x k).2 = (prod y l).2) :
    mac e [(x, k), (y, l)] =
      ⟨clampI (-134217728) 134217727 (roundAway ((x.val * bf k + y.val * bf l) / pow2 (e - 25))), e⟩ := by
  have hp := natAbs_prod_le hx k
  have hq := natAbs_prod_le hy l
  have hacc : accumulate [prod x k, prod y l] (prod x k).2 = (prod x k).1 + (prod y l).1 := by
    rw [show prod y l = ((prod y l).1, (prod x k).2) by rw [he]]
    exact accumulate_two hp hq
  have hv : (((prod x k).1 + (prod y l).1 : Int) : Rat) * pow2 ((prod x k).2 - 42) = x.val * bf k + y.val * bf l := by
    rw [← prod_val, ← prod_val, ← he]
    push_cast
    ring
  rw [mac_of_products (p := prod x k) (t := [prod y l]) (by simp [hx0, hy0]) (by simp [he]), hacc, leaveAcc_eq hv]

end Sys2Proof.Machine
end

section
/-! PROOFS: the renormalisation of a stage block (R54, R55). -/

-- The package as one text: its declarations are elaborated one after another, to hold few threads.
set_option Elab.async false

namespace Sys2Proof.Machine

/-! ### The steps of a renormalisation -/

/-- The least exponent of the words that are not zero: all words are exact there. -/
def leastExp (y : Sig) (t : List Sig) : Int := t.foldl (fun a x => if x.e < a then x.e else a) y.e

/-- A word's mantissa at an exponent not above its own. -/
def alignTo (e : Int) (x : Sig) : Int := if x.m = 0 then 0 else x.m * 2 ^ (x.e - e).toNat

/-- The shift that brings the largest mantissa into its range, one more where rounding carries it out. -/
def normShift (big : Nat) : Int :=
  let s0 : Int := (Nat.log2 big : Int) - 24
  if 0 < s0 ∧ 33554432 ≤ (shrAway (big : Int) s0.toNat).natAbs then s0 + 1 else s0

/-- That shift, held where the exponent is at an end (R55). -/
def heldShift (e : Int) (big : Nat) : Int :=
  if 31 < e + normShift big then 31 - e else if e + normShift big < -32 then -32 - e else normShift big

/-- A mantissa shifted, rounded and saturated. -/
def shiftWord (s m : Int) : Int :=
  if 0 ≤ s then clampI (-134217728) 134217727 (shrAway m s.toNat) else m * 2 ^ (-s).toNat

/-- The eight words of a block, zeros after those of its stage (R53). -/
def blockWords (l : List Int) : List Int := (l ++ List.replicate 8 0).take 8

/-- A renormalisation aligns the words to the least exponent and shifts them all by one amount. -/
theorem renorm_of_words {xs t : List Sig} {y : Sig} {e s : Int} (h : xs.filter (fun x => x.m != 0) = y :: t) (he : e = leastExp y t)
    (hs : s = heldShift e (maxN ((xs.map (alignTo e)).map Int.natAbs))) :
    renorm xs = ⟨e + s, blockWords ((xs.map (alignTo e)).map (shiftWord s))⟩ := by
  subst hs he
  simp only [renorm, h]
  rfl

theorem renorm_of_zeros {xs : List Sig} (h : ∀ x ∈ xs, x.m = 0) : renorm xs = Block.init := by
  have hf : xs.filter (fun x => x.m != 0) = [] := List.filter_eq_nil_iff.2 fun x hx => by simp [h x hx]
  simp only [renorm, hf]

/-! ### Alignment -/

theorem leastExp_le {y x : Sig} {t : List Sig} (h : x ∈ y :: t) : leastExp y t ≤ x.e := by
  have hle (a : Int) (z : Sig) : (if z.e < a then z.e else a) ≤ a ∧ (if z.e < a then z.e else a) ≤ z.e := by split <;> omega
  rcases List.mem_cons.1 h with rfl | h
  · exact foldl_keeps (P := (· ≤ x.e)) (fun a z h => (hle a z).1.trans h) t le_rfl
  · exact foldl_of_mem (P := (· ≤ x.e)) (Q := fun _ => True) (fun _ _ h => h) (fun a z h => (hle a z).1.trans h)
      (fun a _ => (hle a x).2) h trivial

/-- A word aligned keeps its value. -/
theorem alignTo_val {e : Int} {x : Sig} (h : x.m ≠ 0 → e ≤ x.e) : (alignTo e x : Rat) * pow2 (e - 25) = x.val := by
  unfold alignTo Sig.val
  split
  · next h0 => simp [h0]
  · next h0 => rw [← mul_pow2_sub (h h0), mul_assoc, pow2_mul]; congr 2; ring

theorem alignTo_eq_zero {e : Int} {x : Sig} : alignTo e x = 0 ↔ x.m = 0 := by
  unfold alignTo
  split
  · next h => simp [h]
  · next h => simp [h]

/-! ### The largest mantissa -/

theorem le_maxN {l : List Nat} {n : Nat} (h : n ∈ l) : n ≤ maxN l := by
  have hle (a b : Nat) : a ≤ (if a < b then b else a) ∧ b ≤ (if a < b then b else a) := by split <;> omega
  exact foldl_of_mem (P := (n ≤ ·)) (Q := fun _ => True) (fun _ _ h => h) (fun a b h => h.trans (hle a b).1)
    (fun a _ => (hle a n).2) h trivial

theorem maxN_mem_or_zero (l : List Nat) : maxN l ∈ l ∨ maxN l = 0 := by
  have last (l : List Nat) (a : Nat) : l.foldl (fun a b => if a < b then b else a) a ∈ a :: l := by
    induction l generalizing a with
    | nil => simp
    | cons b l ih =>
      rw [List.foldl_cons]
      rcases List.mem_cons.1 (ih (if a < b then b else a)) with h | h
      · rw [h]; split <;> simp
      · exact List.mem_cons_of_mem _ (List.mem_cons_of_mem _ h)
  exact (List.mem_cons.1 (last l 0)).symm

/-- Shifted to its binary order the largest mantissa has 25 bits. -/
theorem order_shift_range {big : Nat} (h : big ≠ 0) :
    (16777216 : Rat) ≤ (big : Rat) * pow2 (-((Nat.log2 big : Int) - 24)) ∧
      (big : Rat) * pow2 (-((Nat.log2 big : Int) - 24)) < 33554432 := by
  have hp := pow2_pos (-((Nat.log2 big : Int) - 24))
  have h1 : pow2 (Nat.log2 big) ≤ (big : Rat) := by rw [pow2_eq_zpow]; exact_mod_cast Nat.log2_self_le h
  have h2 : (big : Rat) < pow2 (Nat.log2 big + 1) := by rw [pow2_eq_zpow]; exact_mod_cast Nat.lt_log2_self
  replace h1 := mul_le_mul_of_nonneg_right h1 hp.le
  replace h2 := mul_lt_mul_of_pos_right h2 hp
  rw [pow2_mul, show (Nat.log2 big : Int) + -((Nat.log2 big : Int) - 24) = 24 by ring, show pow2 24 = 16777216 by decide +kernel] at h1
  rw [pow2_mul, show (Nat.log2 big : Int) + 1 + -((Nat.log2 big : Int) - 24) = 25 by ring, pow2_twentyfive] at h2
  exact ⟨h1, h2⟩

/-- Shifted by its amount the largest mantissa rounds into [2^24, 2^25) (R54). -/
theorem normShift_range {big : Nat} (h : big ≠ 0) :
    (16777216 : Rat) ≤ (big : Rat) * pow2 (-normShift big) + 1 / 2 ∧ (big : Rat) * pow2 (-normShift big) + 1 / 2 < 33554432 := by
  obtain ⟨s0, hs0⟩ : ∃ s0, s0 = (Nat.log2 big : Int) - 24 := ⟨_, rfl⟩
  obtain ⟨h1, h2⟩ := order_shift_range h
  rw [← hs0] at h1 h2
  have hr (hp : 0 ≤ s0) :
      33554432 ≤ (shrAway (big : Int) s0.toNat).natAbs ↔ (33554432 : Rat) ≤ (big : Rat) * pow2 (-s0) + 1 / 2 := by
    rw [shrAway_eq_roundAway, Int.toNat_of_nonneg hp, le_natAbs_roundAway, Int.cast_natCast, abs_of_nonneg (by linarith)]
    norm_num
  unfold normShift
  simp only [← hs0]
  split
  · next hc =>
    -- rounding carries out: half of it is 2^24 less a quarter at most
    have hr := (hr hc.1.le).1 hc.2
    have hh : (big : Rat) * pow2 (-s0) = 2 * ((big : Rat) * pow2 (-(s0 + 1))) := by
      rw [show -s0 = 1 + -(s0 + 1) by ring, ← pow2_mul, pow2_one]; ring
    constructor <;> linarith
  · next hc =>
    refine ⟨by linarith, ?_⟩
    rcases lt_or_ge 0 s0 with hp | hp
    · exact not_le.1 fun hle => hc ⟨hp, (hr hp.le).2 hle⟩
    · -- a shift left is exact
      obtain ⟨k, hk⟩ : ∃ k : Int, (big : Rat) * pow2 (-s0) = k :=
        ⟨big * 2 ^ (-s0).toNat, by rw [pow2_toNat (by omega), Int.cast_mul, Int.cast_natCast]⟩
      rw [hk] at h2 ⊢
      have hk1 : (k : Rat) ≤ 33554431 := by exact_mod_cast Int.lt_add_one_iff.1 (show k < 33554431 + 1 by exact_mod_cast h2)
      linarith

/-! ### The words of the block -/

/-- A word that does not saturate is rounded. -/
theorem shiftWord_eq {s m : Int} (h : |(m : Rat) * pow2 (-s)| + 1 / 2 < 33554432) : shiftWord s m = roundAway ((m : Rat) * pow2 (-s)) := by
  have hr : (roundAway ((m : Rat) * pow2 (-s))).natAbs < 33554432 := natAbs_roundAway_lt.2 h
  unfold shiftWord
  split
  · next hs =>
    rw [shrAway_eq_roundAway, Int.toNat_of_nonneg hs]
    exact clampI_of_mem (by omega) (by omega)
  · next hs =>
    rw [← shift_eq_roundAway, if_pos (by omega)]

theorem heldShift_range {e : Int} (big : Nat) : -32 ≤ e + heldShift e big ∧ e + heldShift e big ≤ 31 := by
  unfold heldShift
  split
  · omega
  · split <;> omega

theorem normShift_le_heldShift {e : Int} {big : Nat} (h : e + heldShift e big < 31) : normShift big ≤ heldShift e big := by
  unfold heldShift at h ⊢
  split at h
  · omega
  · next h1 => rw [if_neg h1]; split <;> omega

theorem heldShift_eq {e : Int} {big : Nat} (h : e + heldShift e big < 31) (h' : -32 < e + heldShift e big) :
    heldShift e big = normShift big := by
  unfold heldShift at h h' ⊢
  split at h
  · omega
  · next h1 =>
    rw [if_neg h1] at h' ⊢
    split at h'
    · omega
    · next h2 => rw [if_neg h2]

/-- At the shift of the largest mantissa, or a larger one, every word is below 2^25. -/
theorem shifted_lt {big : Nat} {s m : Int} (hb : big ≠ 0) (hm : m.natAbs ≤ big) (hs : normShift big ≤ s) :
    |(m : Rat) * pow2 (-s)| + 1 / 2 < 33554432 := by
  refine lt_of_le_of_lt (add_le_add_left ?_ _) (normShift_range hb).2
  rw [abs_mul, abs_of_pos (pow2_pos _), ← Int.cast_abs, Int.abs_eq_natAbs, Int.cast_natCast]
  exact mul_le_mul (by exact_mod_cast hm) (pow2_le_iff.2 (by omega)) (pow2_pos _).le (Nat.cast_nonneg _)


/-! ### The block -/

section
variable {l : List Int}

theorem blockWords_length (l : List Int) : (blockWords l).length = 8 := by simp [blockWords]

theorem getD_blockWords {i : Nat} (hi : i < 8) : (blockWords l).getD i 0 = l.getD i 0 := by
  rw [blockWords, List.getD_eq_getElem?_getD, List.getD_eq_getElem?_getD, List.getElem?_take_of_lt hi, List.getElem?_append]
  split
  · rfl
  · next h =>
    rw [List.getElem?_eq_none (not_lt.1 h), List.getElem?_replicate]
    split <;> rfl

theorem mem_of_mem_blockWords {m : Int} (h : m ∈ blockWords l) : m ∈ l ∨ m = 0 :=
  (List.mem_append.1 (List.mem_of_mem_take h)).imp_right List.eq_of_mem_replicate

theorem mem_blockWords {m : Int} (hl : l.length ≤ 8) (h : m ∈ l) : m ∈ blockWords l := by
  rw [blockWords, List.take_append]
  exact List.mem_append_left _ (by rwa [List.take_of_length_le hl])

end

/-- What a renormalisation of words that are not all zero does: it shifts the words, aligned exactly, by the shift of the largest. -/
theorem renorm_spec {xs : List Sig} (hx : ∃ x ∈ xs, x.m ≠ 0) :
    ∃ (e s : Int) (big : Nat), big ≠ 0 ∧ s = heldShift e big ∧
      renorm xs = ⟨e + s, blockWords (xs.map fun x => shiftWord s (alignTo e x))⟩ ∧
      (∀ x ∈ xs, (alignTo e x).natAbs ≤ big ∧ (alignTo e x : Rat) * pow2 (e - 25) = x.val) ∧
      ∃ x ∈ xs, (alignTo e x).natAbs = big := by
  obtain ⟨z, hz, hz0⟩ := hx
  have nonzero {x : Sig} (hx : x ∈ xs) (hx0 : x.m ≠ 0) : x ∈ xs.filter fun x => x.m != 0 :=
    List.mem_filter.2 ⟨hx, by simpa using hx0⟩
  obtain ⟨y, t, hf⟩ := List.exists_cons_of_ne_nil (List.ne_nil_of_mem (nonzero hz hz0))
  obtain ⟨e, he⟩ : ∃ e, e = leastExp y t := ⟨_, rfl⟩
  obtain ⟨big, hbig⟩ : ∃ big, big = maxN ((xs.map (alignTo e)).map Int.natAbs) := ⟨_, rfl⟩
  have hle (x : Sig) (hx : x ∈ xs) : (alignTo e x).natAbs ≤ big :=
    hbig ▸ le_maxN (List.mem_map_of_mem (List.mem_map_of_mem hx))
  have hb0 : big ≠ 0 := by
    have h1 := hle z hz
    have h2 : alignTo e z ≠ 0 := fun h => hz0 (alignTo_eq_zero.1 h)
    omega
  refine ⟨e, heldShift e big, big, hb0, rfl, ?_, fun x hx => ⟨hle x hx, ?_⟩, ?_⟩
  · rw [renorm_of_words hf he rfl, ← hbig, List.map_map]
    rfl
  · exact alignTo_val fun hx0 => he ▸ leastExp_le (hf ▸ nonzero hx hx0)
  · have hm := (maxN_mem_or_zero ((xs.map (alignTo e)).map Int.natAbs)).resolve_right (hbig ▸ hb0)
    rw [← hbig, List.map_map] at hm
    exact List.mem_map.1 hm

/-- A rounded word is within half a unit of the exact one. -/
theorem abs_word_sub_le (a e s : Int) :
    |(roundAway ((a : Rat) * pow2 (-s)) : Rat) * pow2 (e + s - 25) - (a : Rat) * pow2 (e - 25)| ≤ pow2 (e + s - 26) := by
  have ha : (a : Rat) * pow2 (e - 25) = (a : Rat) * pow2 (-s) * pow2 (e + s - 25) := by
    rw [mul_assoc, pow2_mul]; congr 2; ring
  have hu : pow2 (e + s - 26) = 1 / 2 * pow2 (e + s - 25) := by
    rw [show (1 / 2 : Rat) = pow2 (-1) by norm_num [pow2], pow2_mul]; congr 1; ring
  rw [ha, hu, ← sub_mul, abs_mul, abs_of_pos (pow2_pos (e + s - 25))]
  exact mul_le_mul_of_nonneg_right (abs_roundAway_sub_le _) (pow2_pos _).le

theorem renorm_length {xs : List Sig} (hx : ∃ x ∈ xs, x.m ≠ 0) : (renorm xs).m.length = 8 := by
  obtain ⟨e, s, big, -, -, hr, -⟩ := renorm_spec hx
  rw [hr]
  exact blockWords_length _

/-- The exponent of a block is within its limits (R55). -/
theorem renorm_exp_range {xs : List Sig} (hx : ∃ x ∈ xs, x.m ≠ 0) : -32 ≤ (renorm xs).e ∧ (renorm xs).e ≤ 31 := by
  obtain ⟨e, s, big, -, rfl, hr, -⟩ := renorm_spec hx
  rw [hr]
  exact heldShift_range big

/-- Below the upper limit of the exponent every mantissa is below 2^25, and above the lower one the largest has 25 bits (R54). -/
theorem renorm_mantissas {xs : List Sig} (hl : xs.length ≤ 8) (hx : ∃ x ∈ xs, x.m ≠ 0) (he : (renorm xs).e < 31) :
    (∀ m ∈ (renorm xs).m, m.natAbs < 33554432) ∧ (-32 < (renorm xs).e → ∃ m ∈ (renorm xs).m, 16777216 ≤ m.natAbs) := by
  obtain ⟨e, s, big, hb, rfl, hr, hle, z, hz, hzb⟩ := renorm_spec hx
  rw [hr] at he ⊢
  have hlt (x : Sig) (hx : x ∈ xs) := shifted_lt hb (hle x hx).1 (normShift_le_heldShift he)
  constructor
  · intro m hm
    rcases mem_of_mem_blockWords hm with hm | rfl
    · obtain ⟨x, hx, rfl⟩ := List.mem_map.1 hm
      rw [shiftWord_eq (hlt x hx)]
      exact natAbs_roundAway_lt.2 (hlt x hx)
    · decide
  · intro he'
    refine ⟨_, mem_blockWords (by simpa using hl) (List.mem_map_of_mem hz), ?_⟩
    rw [shiftWord_eq (hlt z hz), le_natAbs_roundAway, heldShift_eq he he', abs_mul, abs_of_pos (pow2_pos _), ← Int.cast_abs,
      Int.abs_eq_natAbs, hzb]
    exact (normShift_range hb).1

/-- Below the upper limit of the exponent every word is within half a unit of what it was (R54, R55). -/
theorem renorm_word_near {xs : List Sig} (hl : xs.length ≤ 8) (hx : ∃ x ∈ xs, x.m ≠ 0) (he : (renorm xs).e < 31) {i : Nat}
    (hi : i < xs.length) : |((renorm xs).word i).val - (xs.getD i Sig.zero).val| ≤ pow2 ((renorm xs).e - 26) := by
  obtain ⟨e, s, big, hb, rfl, hr, hle, -⟩ := renorm_spec hx
  obtain ⟨h1, h2⟩ := hle xs[i] (List.getElem_mem hi)
  rw [hr] at he
  have hw : ((renorm xs).word i).m = roundAway ((alignTo e xs[i] : Rat) * pow2 (-heldShift e big)) := by
    rw [hr, ← shiftWord_eq (shifted_lt hb h1 (normShift_le_heldShift he)), Block.word, getD_blockWords (by omega),
      List.getD_eq_getElem _ _ (by simpa using hi), List.getElem_map]
  rw [List.getD_eq_getElem _ _ hi, ← h2, Sig.val, hw, Block.word, hr]
  exact abs_word_sub_le _ _ _

end Sys2Proof.Machine
end

section
/-! PROOFS: the laws of the stages and the preload of a hand-over (R148, R155). -/

-- The package as one text: its declarations are elaborated one after another, to hold few threads.
set_option Elab.async false

namespace Sys2Proof.Machine

/-! ### The laws of the stages (R148) -/

section
variable {g : Stg} (b : Block) (x : Sig)

theorem run_none (h : g.ty = 0) : g.run b x = (b, x) := by simp only [Stg.run, h]

theorem run_pi (h : g.ty = 1) : ∃ i, i = g.limit (mac b.e [(b.word 0, 0x400001), (x, g.coef 1)]) ∧
    g.run b x = (renorm [i], mac b.e [(x, g.coef 0), (i, 0x400001)]) :=
  ⟨_, rfl, by simp only [Stg.run, h]; rfl⟩

theorem run_pid (h : g.ty = 2) : ∃ i d, i = g.limit (mac b.e [(b.word 0, 0x400001), (x, g.coef 1)]) ∧
    d = mac b.e [(b.word 1, g.coef 3), (x, g.coef 2), (⟨-(b.word 2).m, b.e⟩, g.coef 2)] ∧
    g.run b x = (renorm [i, d, x], mac b.e [(x, g.coef 0), (i, 0x400001), (d, 0x400001)]) :=
  ⟨_, _, rfl, rfl, by simp only [Stg.run, h]; rfl⟩

theorem run_biq (h : g.ty = 3) : ∃ y, y = g.limit (mac b.e [(x, g.coef 0), (b.word 0, g.coef 1), (b.word 1, g.coef 2),
      (⟨-(b.word 2).m, b.e⟩, g.coef 3), (⟨-(b.word 3).m, b.e⟩, g.coef 4)]) ∧
    g.run b x = (renorm [x, b.word 0, y, b.word 2], y) :=
  ⟨_, rfl, by simp only [Stg.run, h]; rfl⟩

end

/-! ### The preload of a hand-over (R155) -/

/-- Stages without a BIQ pass on what they are given, and their gain is 1. -/
theorem steady_val_of_no_biq {gs : List Stg} (h : ∀ g ∈ gs, g.ty ≠ 3) (x : Sig) : (steady gs x).2 = x := by
  induction gs with
  | nil => rfl
  | cons g gs ih =>
    rw [steady, if_neg (h g (by simp))]
    exact ih fun k hk => h k (by simp [hk])

theorem dcGain_of_no_biq {gs : List Stg} (h : ∀ g ∈ gs, g.ty ≠ 3) : gs.foldl (fun a h => a * h.dcGain) 1 = 1 := by
  induction gs with
  | nil => rfl
  | cons g gs ih =>
    rw [List.foldl_cons, Stg.dcGain, if_neg (h g (by simp)), mul_one]
    exact ih fun k hk => h k (by simp [hk])

/-- A preload stage, unclamped and with no BIQ after it, takes the integrator that gives the output handed over. -/
theorem preloadStages_unclamped {g : Stg} {gs : List Stg} {x : Sig} {u q : Rat} (hp : g.pl = true) (hc : g.clamp = false)
    (hgs : ∀ h ∈ gs, h.ty ≠ 3) (hq : q = u - bf (g.coef 0) * x.val) (hq' : (sigOf q).val = q) :
    preloadStages (g :: gs) x u =
      ((if g.ty = 2 then renorm [sigOf q, Sig.zero, x] else renorm [sigOf q]) :: (steady gs (sigOf u)).1, sigOf u) := by
  have hu : bf (g.coef 0) * x.val + q = u := by rw [hq]; ring
  rw [preloadStages, if_pos hp]
  simp only [dcGain_of_no_biq hgs, div_one, limit_of_unclamped hc, ← hq, hq', hu, steady_val_of_no_biq hgs]

end Sys2Proof.Machine

section
open Sys2Proof Sys2Proof.Machine

/-- Settles O22: the laws by the type of the stage, products and their sums by the exact sum that is rounded once, the block by the
one shift of its words. -/
theorem stagesKeepTheirLaws : Obligations.StagesKeepTheirLaws := by
  refine ⟨fun g b x h => run_none b x h, fun g b x h => run_pi b x h, fun g b x h => run_pid b x h, fun g b x h => run_biq b x h,
    mac_one, mac_two, fun m e => sigOf_val_exact, fun g x h => limit_of_unclamped h x, fun g x => limit_val x,
    fun xs => renorm_of_zeros, ?_, fun g gs b bs x => rfl, ?_⟩
  · rintro xs b hl hx rfl
    obtain ⟨h1, h2⟩ := renorm_exp_range hx
    refine ⟨renorm_length hx, h1, h2, fun he => ?_⟩
    obtain ⟨h3, h4⟩ := renorm_mantissas hl hx he
    refine ⟨h3, h4, fun i hi => ?_⟩
    obtain ⟨h5, h6⟩ := abs_le.1 (renorm_word_near hl hx he hi)
    constructor <;> linarith
  · intro g gs x u q hp _ hc hgs hq hq' hu
    rw [preloadStages_unclamped hp hc hgs hq hq']
    exact ⟨hu, rfl⟩
end
end

section
/-! PROOFS: while a reset is asserted or the derived clocks stand, only the unclocked commands act (R65, R276, R360, R412). -/

-- The package as one text: its declarations are elaborated one after another, to hold few threads.
set_option Elab.async false

namespace Sys2Proof.Machine

/-- A reset is asserted or the derived clocks stand. -/
abbrev State.Stopped (s : State) : Prop := s.dev.rst = true ∨ s.dev.clkStop = true

section
variable {s : State} {h : Fin 3}

theorem State.Stopped.not_served (hs : s.Stopped) : served s = false := by
  obtain h1 | h1 := hs <;> simp [served, h1]

theorem State.Stopped.gap (hs : s.Stopped) (c : Option (Fin 3)) (due : Option Nat) (msg : Bool) : s.gap c due msg = 0 := by
  obtain h1 | h1 := hs <;> simp [State.gap, h1]

/-- No cycle passes, so it does not matter whose command begins, and when it is due. -/
theorem State.Stopped.begin_eq (hs : s.Stopped) (c : Option (Fin 3)) (due : Option Nat) (msg : Bool) : s.begin c due msg = s.begin := by
  simp [State.begin, State.passed, hs.gap, hs.not_served]

theorem State.Stopped.begin (hs : s.Stopped) : s.begin.Stopped := hs

theorem next_clocked_of_stopped (hs : s.Stopped) (f : State → State) (c : Option (Fin 3) := none) (due : Option Nat := none)
    (msg : Bool := false) : (.next (clocked f (s.begin c due msg)) : Host.Outcome State Fault Refusal) = .next s.begin := by
  rw [hs.begin_eq, clocked_stopped hs.begin]

theorem writeCmd_of_not_served {a : Nat} {w : Word} (hs : served s = false) : writeCmd h a w s = s := by simp [writeCmd, hs]

theorem readCmd_of_not_served {a : Nat} (hs : served s = false) : readCmd h a s = s := by simp [readCmd, hs]

theorem next_writeCmd_of_stopped (hs : s.Stopped) (a : Nat) (w : Word) :
    (.next (writeCmd h a w (s.begin h)) : Host.Outcome State Fault Refusal) = .next s.begin := by
  rw [hs.begin_eq, writeCmd_of_not_served hs.begin.not_served]

theorem next_readCmd_of_stopped (hs : s.Stopped) (a : Nat) :
    (.next (readCmd h a (s.begin h)) : Host.Outcome State Fault Refusal) = .next s.begin := by
  rw [hs.begin_eq, readCmd_of_not_served hs.begin.not_served]

theorem sbDisable_of_stopped (hs : s.Stopped) (w : Word) (sent : Nat) : exec (.sbDisable h w sent) s = .next s.begin := by
  change Host.Outcome.next (writeCmd h _ _ (clocked (wireBytes sent) (s.begin h))) = _
  rw [hs.begin_eq, clocked_stopped hs.begin, writeCmd_of_not_served hs.begin.not_served]

theorem spiWord_of_stopped (hs : s.Stopped) (k : Fin 2) (w : Word) : exec (.spiWord k w) s = .next s.begin := by
  change Host.Outcome.next (spiWord k w (s.begin _)) = _
  simp [spiWord, hs.begin_eq, hs.begin.not_served]

theorem hpcRegisterWrite_of_stopped (hs : s.Stopped) (w : Word) : exec (.hpcRegisterWrite w) s = .next s.begin := by
  change Host.Outcome.next (hpcRegisterWrite w (s.begin _)) = _
  simp [hpcRegisterWrite, hs.begin_eq, hs.begin.not_served]

theorem hpcPecByte_of_stopped (hs : s.Stopped) (b : Byte) : exec (.hpcPecByte b) s = .next s.begin := by
  change Host.Outcome.next (hpcPecByte b (s.begin _)) = _
  simp [hpcPecByte, hs.begin_eq, hs.begin.not_served]

end

/-- The commands by how they begin: a clocked one, an access of a host, a byte or word on a port, or one that is not clocked at all. -/
theorem exec_of_stopped (c : Instr) {s : State} (hs : s.Stopped) (hu : c.Unclocked = false) : exec c s = .next s.begin := by
  cases c with
  | frameTick | rcMeasurement | windowConversion | vsWindow | vsRange | vsFail | voltageMeasurementEnd | controlConversionStart
    | controlConversionEnd | offsetMeasurement | auxConversion | auxRange | sarSelfCheck | spaConversion | sppPeriodMeasured | sppLoss
    | gridzcEdge | gridLock | missedPeriod | gridUnlock | captureTick | captureDone | periodBoundary | delayLineCalibration | generatorStart
    | tripAccept | engineUpdate | engineParityError | bankSwitch | bankCopyBack | engUtilWindow | precheckEntry | shortCheckResult
    | prebiasEntry | rampEntry | limitEntry | railStopto | restartDelayExpiry | automaticRestart | sequenceRankStart | sequenceRankStop
    | railSeqto | railFollow | followingErrorRearm | phaseShed | phaseAdd | phTrimsat | dripEntry | railBraketo | phSenseImpl | phOpen
    | cbcPulseEnd | voltageLimitStands | voltageLimitClears | thermalLimitStands | thermalLimitClears | dieTemperatureGuard | devSupply
    | cupMeasurementDone | injectionEnd | faultAccept | collectorSelfFault | aliveToggle | deskmateFrameReceive | deskmateFrameProcess
    | linkLost | formationTimeout | digestCompute | twinDutyMismatch | takeover | swapEdge | gangFrameSend | gangFrameReceive | gangTimeout
    | nvOperationStart | pageProgramDone | sectorEraseDone | tallyBitDone | tallyIncrement | powerFail | powerFailRecover | pollDue
    | stageBusTransferStart | pollComplete | sbArblost | busRecovery | stuckRecoveryRetry | sbHostTransactionDone | perfWrap
    | bandwidthWindowEnd | bootEnd | freeRunningConversion =>
    exact next_clocked_of_stopped hs _ _ _ _
  | clkFrameLoRead | capdataRead | engStdatRead | perfCtrRead => exact next_readCmd_of_stopped hs _
  | phCfgWrite | railCfgWrite | baseRegisterWrite | captureArm | captureRelease | phLoad | phPerWrite | phCmpWrite | phOfsWrite
    | phDtWrite | phEnable | phDisable | tripClr | rcompCommit | engineHalt | engineRelease | engClearOverrun | engClearLatency
    | engClearPeak | railSrcWrite | railStart | railStop | railClr | domainStart | domainStop | rtabEntryWrite | rtabZero | cupStart
    | cupStop | cupArst | cupRel | fcLatClear | fcClrfirst | fcExit | faultInject | twinHandover | twinPrst | twinRejoin | nvRead | nvProg
    | nvErase | nvAppend | nvFind | nvFindseq | hostErrclr | hostFrmclr | pgAclWrite | pageSelWrite | pageLock | pageUnlock | pgEvtClear
    | sbHostTransaction | sbPollWrite | sbEnable | perfRun | perfClr | perfOvfClear | devGo | devIdle | devSoftReset | registerWrite =>
    exact next_writeCmd_of_stopped hs _ _
  | sbDisable h w sent => exact sbDisable_of_stopped hs w sent
  | spiWord k w => exact spiWord_of_stopped hs k w
  | hpcRegisterWrite w => exact hpcRegisterWrite_of_stopped hs w
  | hpcPecByte b => exact hpcPecByte_of_stopped hs b
  | referenceLoss | pllUnlock | pllRelock | powerOnReset | resetn | testen | twinCommandedReset | resetRelease | boundaryScan
    | spiFrameBegin | spiFrameEnd | hpcPointerSet | hpcRegisterRead | hpcTransferEnd | hpcSclTimeout =>
    exact absurd hu (by simp [Instr.Unclocked])

end Sys2Proof.Machine

section
open Sys2Proof Sys2Proof.Machine

/-- Settles O38: a clocked command meets its guard, an access and a byte on a port find no host served, and no cycle passes. -/
theorem nothingIsClockedInResetOrClockLoss : Obligations.NothingIsClockedInResetOrClockLoss :=
  fun c _ hs hu => exec_of_stopped c hs hu

end
end

section
/-! PROOFS: the reads with a side effect: what an accepted read leaves (R73, R102, R162, R403, R433). -/

-- The package as one text: its declarations are elaborated one after another, to hold few threads.
set_option Elab.async false

namespace Sys2Proof.Machine

section
variable {s : State} {h : Fin 3} {a : Nat}

/-- The state that an accepted read of register `a` leaves. -/
def State.read (s : State) (h : Fin 3) (a : Nat) : State := readNoted h a (readEffect h a (s.begin h))

theorem next_readCmd (hr : s.Reads h a) :
    (.next (readCmd h a (s.begin h)) : Host.Outcome State Fault Refusal) = .next (s.read h a) := by
  obtain ⟨⟨⟨hrst, hclk⟩, hst⟩, hc⟩ := hr
  exact congrArg _ <| readCmd_accepted (served_iff.2 ⟨hrst, hclk, hst⟩) hc

theorem readNoted_eq : readNoted h a s =
    { s with perf := (readNoted h a s).perf, ports := { s.ports with idRead := (readNoted h a s).ports.idRead } } := by
  unfold readNoted perf
  split <;> rfl

@[simp] theorem readNoted_reg (k : Nat) : (readNoted h a s).reg k = s.reg k := by rw [readNoted_eq]; rfl
@[simp] theorem readNoted_twin : (readNoted h a s).twin = s.twin := by rw [readNoted_eq]

theorem readEffect_eq : readEffect h a s = { s with bank := (readEffect h a s).bank } := eq_take_of_only (readEffect_only s h a)

/-- An accepted read moves no more than an accepted write may. -/
theorem read_wrote : s.read h a = s.wrote (s.read h a) := by
  unfold State.read
  rw [readNoted_eq, readEffect_eq]
  rfl

theorem read_twin : (s.read h a).twin = s.twin := by
  unfold State.read
  rw [readNoted_twin, readEffect_eq]
  rfl

/-! ### The registers after a read -/

theorem readEffect_frameLo : readEffect h 0x010A s = s.setReg (hostKey h 0x010B) (BitVec.ofNat 32 (s.dev.frame / 4294967296)) := rfl

theorem readEffect_perfCtr {n : Nat} (hn : n < 31) :
    readEffect h (0x0520 + n) s = s.setReg (hostKey h 0x050B) (BitVec.ofNat 32 (s.perf.ctr.getD (n + 1) 0)) := by
  unfold readEffect
  rw [if_neg (by simp only [Pg.CLK, Reg.CLK_FRAME_LO]; omega), if_pos (by simp [Pg.PERF, Reg.PERF_CTR]; omega)]
  simp [Pg.PERF, Reg.PERF_CTR, Reg.PERF_SNAPHI]

theorem readEffect_capData : readEffect h 0x0D46 s =
    s.setReg 0x0D45 (BitVec.ofNat 32 ((fld (s.reg 0x0D45) 11 0 + 2) % 4096)) := rfl

theorem readEffect_lastCtr : readEffect h 0x053F s = s := rfl
theorem readEffect_stDat : readEffect h 0x0E12 s = s := rfl

theorem read_reg (k : Nat) : (s.read h a).reg k = (readEffect h a (s.begin h)).reg k := readNoted_reg k

/-- A read that writes register `k` leaves the other registers as they were. -/
theorem sameRegs_of_setReg {k : Nat} {v : Word} (he : readEffect h a (s.begin h) = (s.begin h).setReg k v) :
    SameRegs [k] s (s.read h a) := fun j hj => by
  rw [read_reg, he, reg_setReg_ne (by simpa using hj)]
  rfl

theorem sameRegs_of_noEffect (he : readEffect h a (s.begin h) = s.begin h) (ks : List Nat) : SameRegs ks s (s.read h a) :=
  fun j _ => by rw [read_reg, he]; rfl

theorem reg_of_setReg {k : Nat} {v : Word} (hw : s.StoresWf) (he : readEffect h a (s.begin h) = (s.begin h).setReg k v) :
    (s.read h a).reg k = v := by
  rw [read_reg, he]
  exact reg_setReg_same hw.1

theorem hostKey_ne {g h a : Nat} (hgh : g ≠ h) : hostKey g a ≠ hostKey h a := by unfold hostKey; omega

theorem readReg_frameHi (t : State) (g : Nat) : readReg t g 0x010B = t.reg (hostKey g 0x010B) := rfl
theorem readReg_snapHi (t : State) (g : Nat) : readReg t g 0x050B = t.reg (hostKey g 0x050B) := rfl

/-- CLK_UPTIME counts the million frames of a second in 32 bits (R72). -/
theorem readReg_uptime (g : Nat) : (readReg s g 0x010C).toNat = s.dev.frame / 1000000 % 2 ^ 32 := by
  change (BitVec.ofNat 32 (uptime s)).toNat = _
  simp [uptime]

/-! ### The reads -/

theorem clkFrameLo_read (hw : s.StoresWf) : SameRegs [hostKey h 0x010B] s (s.read h 0x010A) ∧
    readReg (s.read h 0x010A) h 0x010B = BitVec.ofNat 32 (s.dev.frame / 4294967296) ∧
    ∀ g < 3, g ≠ h.val → readReg (s.read h 0x010A) g 0x010B = readReg s g 0x010B := by
  have same : SameRegs [hostKey h 0x010B] s (s.read h 0x010A) := sameRegs_of_setReg readEffect_frameLo
  refine ⟨same, reg_of_setReg hw readEffect_frameLo, fun g _ hg => ?_⟩
  rw [readReg_frameHi, readReg_frameHi]
  exact same _ (by simpa using hostKey_ne hg)

theorem perfCtr_read (hw : s.StoresWf) (n : Fin 32) : SameRegs [hostKey h 0x050B] s (s.read h (0x0520 + n.val)) ∧
    (n.val < 31 → readReg (s.read h (0x0520 + n.val)) h 0x050B = BitVec.ofNat 32 ((s.begin h).perf.ctr.getD (n.val + 1) 0)) ∧
    (n.val = 31 → SameRegs [] s (s.read h (0x0520 + n.val))) := by
  by_cases hn : n.val < 31
  · exact ⟨sameRegs_of_setReg (readEffect_perfCtr hn), fun _ => reg_of_setReg hw (readEffect_perfCtr hn), fun h31 => by omega⟩
  · have h31 : n.val = 31 := by omega
    rw [h31]
    exact ⟨sameRegs_of_noEffect readEffect_lastCtr _, fun hlt => by omega, fun _ => sameRegs_of_noEffect readEffect_lastCtr _⟩

end
end Sys2Proof.Machine

section
open Sys2Proof Sys2Proof.Machine

/-- Settles O28: an accepted read is its one register, if it writes one, and the marks that every access leaves. -/
theorem snapshotReads : Obligations.SnapshotReads := by
  refine ⟨fun h s hw hr => ?_, fun h n s hw hr => ?_, fun h s hw hr => ?_, fun h s _ hr => ?_, fun s h => readReg_uptime h⟩
  · obtain ⟨same, own, others⟩ := clkFrameLo_read (h := h) hw
    exact ⟨_, next_readCmd hr, read_wrote, same, read_twin, own, others⟩
  · obtain ⟨same, next, last⟩ := perfCtr_read (h := h) hw n
    exact ⟨_, next_readCmd hr, read_wrote, same, read_twin, next, last⟩
  · exact ⟨_, next_readCmd hr, read_wrote, sameRegs_of_setReg readEffect_capData, read_twin,
      reg_of_setReg hw readEffect_capData⟩
  · exact ⟨_, next_readCmd hr, read_wrote, sameRegs_of_noEffect readEffect_stDat _, read_twin⟩

end
end

section
/-! PROOFS: a rail that leaves DRIP at a frame edge begins RAMP there, so IF is set and not filtered (R211, R220). -/

-- The package as one text: its declarations are elaborated one after another, to hold few threads.
set_option Elab.async false

namespace Sys2Proof.Machine

/-- A rail in DRIP at 1 pu of current, IF at 0, whose reference stands far above its target (the default setpoint, 0). -/
def leavingDripRail : Rail := { Rail.init with st := .drip, frames := 1, irail := 16384, ref := 60000 * 65536 }

/-- An ACTIVE device in the last cycle of a frame, whose rail 3 is about to leave DRIP (R220). -/
def leavingDrip : State :=
  { State.reset with
    dev := { Dev.init 0 with st := .active, rst := false, pllUp := true }
    rails := State.reset.rails.set 3 leavingDripRail
    perf := { Perf.init with at_ := 99 } }

/-- No free cycle passes behind the last cycle of a frame. -/
theorem freeCycles_of_lastCycle {s : State} (h : 99 ≤ s.perf.at_) : freeCycles s = 0 := by
  simp only [freeCycles, freeUntil]
  omega

theorem leavingDrip_begin : leavingDrip.begin = { leavingDrip with cyc := 1 } := by
  have gap : leavingDrip.gap none none false = 0 := freeCycles_of_lastCycle (s := leavingDrip) (Nat.le_refl 99)
  simp only [State.begin, gap]
  rfl

/-- IF is set to the whole current, 16384 in 2^-16 code; the filter would have moved it by a 1024th of that. -/
theorem leavingDrip_ifilt :
    ((clocked (frameTick [] [] .undriven [] false []) leavingDrip.begin).rail 3).ifilt = 16384 * 65536 := by
  rw [leavingDrip_begin]
  decide +kernel

theorem leavingDrip_filtered :
    (((leavingDrip.rail 3).ifilt : Int) + shrAway (((leavingDrip.rail 3).irail.natAbs * 65536 : Nat) - ((leavingDrip.rail 3).ifilt : Int))
      (fld (leavingDrip.rr 3 0x38) 27 24)).toNat = 1024 * 1024 := by
  decide +kernel

end Sys2Proof.Machine

section
open Sys2Proof Sys2Proof.Machine

/-- Refutes O30: a rail in DRIP whose reference is not at its target leaves DRIP at the frame edge and begins RAMP there, so its IF is
set to the current (R211), where the statement has it filtered. -/
theorem not_frameTickAdvances : ¬ Obligations.FrameTickAdvances := by
  intro ⟨_, _, h⟩
  obtain ⟨t, ht, -, -, -, -, -, -, -, -, rails, -⟩ :=
    h [] [] .undriven [] false [] leavingDrip ⟨⟨rfl, rfl⟩, nofun⟩ rfl rfl
  obtain ⟨-, -, -, -, filtered⟩ := rails rfl (.inl rfl) 3 (by decide) rfl rfl rfl
  have hf := filtered (by decide) (by decide)
  have hi : (t.rail 3).ifilt = 16384 * 65536 := (Host.Outcome.next.inj ht) ▸ leavingDrip_ifilt
  rw [hi, leavingDrip_filtered] at hf
  exact absurd hf (by decide)

end
end

section
/-! PROOFS: a clock loss, the return of the clocks, and the measurement of the RC oscillator (R64-R69, R303, R305, R316). -/

-- The package as one text: its declarations are elaborated one after another, to hold few threads.
set_option Elab.async false

namespace Sys2Proof.Machine

/-! ### The Gradebook at a clock loss (R69) -/

/-- What the Gradebook's operations move beside their own state. -/
abbrev nvParts : List Part := [.perf, .nv, .msgs, .stand]

section
variable (s : State)

theorem nvStartProg_only (o : NvOp) (bytes : List (Nat × Nat)) (a q size : Nat) : Only nvParts s (nvStartProg o bytes a q size s) := by
  refine only_then (l := [.perf]) (m := [.nv]) ?_ (upd_nv _ _)
  split <;> exact perf_only _ _ _ _

theorem nvAppend_only (o : NvOp) (size : Nat) (q : Option Nat) (mk : Nat → List Nat) (tail : List Nat) (x : Nat × Option Nat) :
    Only nvParts s (nvAppend o size q mk tail x s) := by
  unfold nvAppend
  simp only
  split <;> exact nvStartProg_only _ _ _ _ _ _

theorem nvStartErase_only (o : NvOp) (sec : Nat) : Only nvParts s (nvStartErase o sec s) :=
  only_then (l := [.perf]) (m := [.nv]) (perf_only _ _ _ _) (upd_nv _ _)

theorem dropNaming_only : Only [.nv] s (dropNaming s) := only_ite only_refl (upd_nv s _)

theorem nvDrop_only (o : NvOp) : Only nvParts s (nvDrop o s) := by
  unfold nvDrop
  refine only_then (l := [.nv]) (m := [.msgs, .stand]) ?_ (setCond_only _ _ _ _)
  split
  · exact upd_nv s _
  · exact upd_nv s _
  · exact only_trans (upd_nv s _) (dropNaming_only _)
  · exact only_trans (upd_nv s _) (dropNaming_only _)
  · exact upd_nv s _

/-- An operation that starts programs, erases, or is dropped. -/
theorem nvStart_only (o : NvOp) (rest : List NvOp) : Only nvParts s (nvStart o rest s) := by
  have queue (q : List NvOp) : Only nvParts s { s with nv := { s.nv with queue := q } } := only_mono (upd_nv s _)
  unfold nvStart
  simp only
  split
  · exact only_trans (queue _) (nvStartProg_only _ _ _ _ _ _)
  · split
    · split
      · exact only_trans (queue _) (nvDrop_only _ _)
      · exact nvAppend_only _ _ _ _ _ _ _
    · split
      · exact only_trans (queue _) (nvStartProg_only _ _ _ _ _ _)
      · split
        · exact only_trans (queue _) (nvAppend_only _ _ _ _ _ _ _)
        · exact only_trans (queue _) (nvDrop_only _ _)
  · exact only_trans (queue _) (nvStartProg_only _ _ _ _ _ _)
  · exact only_trans (queue _) (nvStartProg_only _ _ _ _ _ _)
  · exact only_trans (queue _) (nvStartErase_only _ _ _)
  · exact only_trans (queue _) (nvStartErase_only _ _ _)
  · exact only_trans (queue _) (nvStartProg_only _ _ _ _ _ _)
  · split
    · exact only_trans (queue _) (nvDrop_only _ _)
    · exact only_trans (queue _) (nvAppend_only _ _ _ _ _ _ _)
  · split
    · exact queue _
    · split
      · exact only_trans (queue _) (nvDrop_only _ _)
      · exact only_trans (queue _) (nvAppend_only _ _ _ _ _ _ _)

theorem nvIndex_only (r : Rec) : Only [.nv] s (nvIndex r s) := upd_nv s _
theorem moveTo_only (x : Nat) : Only [.nv] s (moveTo x s) := upd_nv s _
theorem endNvHost_only (n : Nat) : Only [.nv] s (endNvHost n s) := upd_nv s _

theorem nvOpened_only (c : NvCur) : Only [.nv] s (nvOpened c s) := by
  unfold nvOpened
  refine only_ite only_refl ?_
  split
  · exact only_refl
  · exact only_ite only_refl (only_trans (nvIndex_only s _) (upd_nv _ _))

theorem nvVoided_only (c : NvCur) : Only [.nv] s (nvVoided c s) :=
  only_ite only_refl (only_ite (only_trans (nvOpened_only s c) (moveTo_only _ _)) (only_trans (nvOpened_only s c) (upd_nv _ _)))

end

/-- The register of the pairing stays, where others may be written. -/
abbrev TwinCfgStays (s t : State) : Prop := t.reg 0x0908 = s.reg 0x0908

theorem twinCfg_setReg {s : State} {k : Nat} (hk : 0x0908 ≠ k) (v : Word) : TwinCfgStays s (s.setReg k v) := reg_setReg_ne hk

/-- The Gradebook's parts move, and registers but that of the pairing. -/
def NvMoves (s t : State) : Prop := Only (.bank :: nvParts) s t ∧ TwinCfgStays s t

section
variable {s t u : State}

theorem NvMoves.refl : NvMoves s s := ⟨only_refl, rfl⟩

theorem NvMoves.trans (h : NvMoves s t) (g : NvMoves t u) : NvMoves s u := ⟨only_trans h.1 g.1, g.2.trans h.2⟩

theorem NvMoves.ofOnly {l : List Part} (h : Only l s t) (hl : l ⊆ nvParts := by decide) : NvMoves s t :=
  have h := only_mono (m := nvParts) h hl
  ⟨only_mono h, only_reg h 0x0908⟩

theorem NvMoves.setReg {k : Nat} {v : Word} (h : NvMoves s t) (hk : 0x0908 ≠ k) : NvMoves s (t.setReg k v) :=
  h.trans ⟨only_mono (setReg_only _ _ _), twinCfg_setReg hk v⟩

theorem NvMoves.ite {c : Prop} [Decidable c] (h : NvMoves s t) (g : NvMoves s u) : NvMoves s (if c then t else u) := by
  split
  · exact h
  · exact g

end

/-- Of what follows a commit, a host's append alone writes a register, NV_RSEQ (R356). -/
theorem nvCommitted_moves (c : NvCur) (s : State) : NvMoves s (nvCommitted c s) := by
  unfold nvCommitted
  refine (NvMoves.ofOnly (nvOpened_only s c)).trans ?_
  generalize nvOpened c s = t
  have fresh (r : Rec) (x : Nat) (u : State) : Only [.nv] u (moveTo x (nvIndex r u)) :=
    only_trans (nvIndex_only _ _) (moveTo_only _ _)
  simp only
  split
  case h_1 => exact .ofOnly (fresh _ _ _)
  case h_2 => exact .trans (.ofOnly (fresh _ _ _)) (.ofOnly (nvStart_only _ _ _))
  case h_3 => exact .ofOnly (fresh _ _ _)
  case h_4 => exact .ofOnly (only_trans (only_trans (nvIndex_only _ _) (nvIndex_only _ _)) (only_trans (upd_nv _ _) (moveTo_only _ _)))
  case h_5 => exact .ofOnly (only_trans (fresh _ _ _) (upd_nv _ _))
  case h_6 => exact .ofOnly (only_trans (only_trans (fresh _ _ _) (moveTo_only _ _)) (upd_nv _ _))
  case h_7 =>
    exact .trans (.setReg (.ofOnly (fresh _ _ _)) (by decide)) (.ofOnly (endNvHost_only _ _))
  case h_8 => exact .ofOnly (fresh _ _ _)
  case h_9 =>
    split
    · exact .refl
    · refine (NvMoves.ofOnly (only_trans (upd_nv _ _) (fresh _ _ _))).trans (.ite ?_ (.refl))
      exact .ofOnly (only_trans (moveTo_only _ _) (upd_nv _ _))
  case h_10 => exact .ofOnly (endNvHost_only _ _)
  case h_11 =>
    refine .ite ?_ (.refl)
    split
    · exact .ofOnly (nvStart_only _ _ _)
    · exact .refl
  case h_12 => exact .refl

theorem nvClockLoss_idle {s : State} (h : s.nv.cur = none) : nvClockLoss s = s := by simp [nvClockLoss, h]

theorem nvClockLoss_moves (s : State) : NvMoves s (nvClockLoss s) := by
  unfold nvClockLoss
  split
  · exact .refl
  · next c _ =>
    extract_lets cut host ended _ marked again
    have hcut : NvMoves s cut := .ofOnly (nvCut_only s)
    have hended : NvMoves cut ended := .ite (.ofOnly (endNvHost_only _ _)) .refl
    have hmarked : NvMoves ended marked := by
      unfold marked
      split
      · exact .ofOnly (upd_nv _ _)
      · exact .ofOnly (upd_nv _ _)
      · exact .ofOnly (upd_nv _ _)
      · exact .refl
    have hagain (u : State) : NvMoves u (again u) := by
      unfold again
      split
      · exact .ofOnly (upd_nv _ _)
      · exact .ofOnly (upd_nv _ _)
      · exact .refl
    refine (hcut.trans (hended.trans hmarked)).trans (.ite ?_ (.ite (nvCommitted_moves c _) ?_))
    · split
      · exact .refl
      · exact .ofOnly (upd_nv _ _)
    · exact (NvMoves.ofOnly (nvVoided_only _ c)).trans (hagain _)

/-! ### What goes on waiting (R274) -/

/-- A message of the same key that is real where the other is. -/
def Msg.Covers (m n : Msg) : Prop := m.src = n.src ∧ m.kind = n.kind ∧ m.addr = n.addr ∧ (n.real = true → m.real = true)

/-- Merging drops no message. -/
theorem mergeRev_covers {clk src kind addr : Nat} {inj real : Bool} {l l' : List Msg}
    (h : mergeRev clk src kind addr inj real l = some l') :
    ∀ n ∈ l, ∃ m ∈ l', m.Covers n := by
  induction l generalizing l' with
  | nil => simp
  | cons a t ih =>
    simp only [mergeRev] at h
    intro n hn
    split at h
    · split at h
      · cases h
        rcases List.mem_cons.1 hn with rfl | hn
        · exact ⟨_, List.mem_cons_self, rfl, rfl, rfl, fun hr => by simp [hr]⟩
        · exact ⟨n, List.mem_cons_of_mem _ hn, rfl, rfl, rfl, id⟩
      · cases h
    · obtain ⟨l'', hl, rfl⟩ := Option.map_eq_some_iff.1 h
      rcases List.mem_cons.1 hn with rfl | hn
      · exact ⟨n, List.mem_cons_self, rfl, rfl, rfl, id⟩
      · obtain ⟨m, hm, hc⟩ := ih hl n hn
        exact ⟨m, List.mem_cons_of_mem _ hm, hc⟩

/-- The device and the register of the pairing stay, and every real message that waits goes on waiting. -/
structure Stays (s t : State) : Prop where
  dev : t.dev = s.dev
  cfg : TwinCfgStays s t
  waits : ∀ src kind addr, s.Waits src kind addr → t.Waits src kind addr

section
variable {s t u : State}

theorem Stays.refl : Stays s s := ⟨rfl, rfl, fun _ _ _ => id⟩

theorem Stays.trans (h : Stays s t) (g : Stays t u) : Stays s u :=
  ⟨g.dev.trans h.dev, g.cfg.trans h.cfg, fun a b c hw => g.waits a b c (h.waits a b c hw)⟩

theorem Stays.ite {c : Prop} [Decidable c] (h : Stays s t) (g : Stays s u) : Stays s (if c then t else u) := by
  split
  · exact h
  · exact g

theorem Stays.foldl {α : Type} {f : State → α → State} (hf : ∀ s a, Stays s (f s a)) (xs : List α) : Stays s (xs.foldl f s) := by
  induction xs generalizing s with
  | nil => exact .refl
  | cons a t ih => exact (hf s a).trans ih

theorem Stays.ofOnly {l : List Part} (h : Only l s t) (hd : .dev ∉ l := by decide) (hb : .bank ∉ l := by decide)
    (hm : .msgs ∉ l := by decide) : Stays s t :=
  ⟨only_dev h hd, only_reg h _ hb, fun _ _ _ hw => by rwa [State.Waits, only_msgs h hm]⟩

/-- Messages that cover those before them. -/
theorem Stays.ofCovers (h : Only [.msgs] s t) (hc : ∀ n ∈ s.fc.pend, ∃ m ∈ t.fc.pend, m.Covers n) : Stays s t := by
  refine ⟨only_dev h, only_reg h _, ?_⟩
  rintro _ _ _ ⟨n, hn, rfl, rfl, rfl, hr⟩
  obtain ⟨m, hm, h1, h2, h3, h4⟩ := hc n hn
  exact ⟨m, hm, h1, h2, h3, h4 hr⟩

end

section
variable (s : State)

theorem raise_stays (src kind addr : Nat) (inj real : Bool) : Stays s (raise src kind addr inj real s) := by
  refine .ofCovers (raise_only s src kind addr inj real) ?_
  unfold raise
  split
  · exact fun n hn => ⟨n, hn, rfl, rfl, rfl, id⟩
  · split
    · next l hl => exact fun n hn => by simpa using mergeRev_covers hl n (by simpa using hn)
    · exact fun n hn => ⟨n, by simp [hn], rfl, rfl, rfl, id⟩

theorem event_stays (src addr : Nat) : Stays s (event src addr s) := raise_stays s _ _ _ _ _

theorem setCond_stays (src addr : Nat) (on : Bool) : Stays s (setCond src addr on s) := by
  unfold setCond
  refine .ite (.ite .refl ?_) (.ite ?_ .refl)
  · exact (raise_stays s src 1 addr false true).trans (.ofOnly (upd_stand _ _))
  · exact (raise_stays s src 2 addr false true).trans (.ofOnly (upd_stand _ _))

theorem setReg_stays {k : Nat} (hk : 0x0908 ≠ k) (v : Word) : Stays s (s.setReg k v) := ⟨rfl, twinCfg_setReg hk v, fun _ _ _ => id⟩

theorem endInjection_stays (done byRail : Bool) : Stays s (endInjection done byRail s) := by
  unfold endInjection
  refine .trans (.trans (.ofOnly (upd_cup s _)) (.ite (.ofOnly (upd_capt _ _)) .refl)) (.ite (event_stays _ _ _) (event_stays _ _ _))

theorem endNow_stays : Stays s (endNow s) := by
  unfold endNow
  split
  · exact endInjection_stays s _ _
  · exact endInjection_stays s _ _

theorem bankKey_ne (a : Nat) : 0x0908 ≠ bankKey a := by unfold bankKey; omega

theorem switchBank_stays (r : Nat) : Stays s (switchBank r s) := by
  unfold switchBank
  refine .trans ?_ (event_stays _ _ _)
  refine .trans ?_ (.ite (.ofOnly (cupAgain_only _)) .refl)
  refine .trans ?_ (.ofOnly (modRail_only _ r _))
  exact .trans (.foldl (fun t o => setReg_stays t (bankKey_ne _) _) coefOffs) (setReg_stays _ (bankKey_ne _) _)

theorem switchIfPending_stays (r : Nat) : Stays s (switchIfPending r s) :=
  .ite (.trans (.ofOnly (modRail_only s r _)) (switchBank_stays _ r)) .refl

theorem endPrecheck_stays (r : Nat) : Stays s (endPrecheck r s) :=
  .trans (setCond_stays s _ _ _) (.foldl (fun t _ => .trans (setCond_stays t _ _ _) (setCond_stays _ _ _ _)) _)

/-- A rail's marks change, and a condition of it. -/
theorem modRail_setCond_stays (r src addr : Nat) (f : Rail → Rail) : Stays s (setCond src addr false (s.modRail r f)) :=
  .trans (.ofOnly (modRail_only s r f)) (setCond_stays _ _ _ _)

theorem stopCommon_stays (st : RailState) (r : Nat) : Stays s (stopCommon st r s) := by
  unfold stopCommon
  refine .trans ?_ (.ofOnly (modRail_only _ r _))
  refine .trans ?_ (modRail_setCond_stays _ r _ _ _)
  refine .trans ?_ (modRail_setCond_stays _ r _ _ _)
  refine .trans ?_ (modRail_setCond_stays _ r _ _ _)
  refine .trans ?_ (switchIfPending_stays _ r)
  refine .trans ?_ (.ofOnly (restRail_only _ _ r))
  refine .trans ?_ (.ofOnly (dropQueued_only _ r))
  exact .trans (.ite (endPrecheck_stays s r) .refl) (.ite (endNow_stays _) .refl)

theorem enterFaulted_stays (src addr r : Nat) : Stays s (enterFaulted src addr r s) := by
  unfold enterFaulted
  exact .trans (stopCommon_stays s .faulted r) (.ofOnly (modRail_only _ r _))

theorem toFaulted_stays (src addr r : Nat) : Stays s (toFaulted src addr r s) := by
  unfold toFaulted
  split
  · exact .refl
  · exact .refl
  · exact .ofOnly (modRail_only s r _)
  · exact enterFaulted_stays s src addr r

theorem leaveActive_stays : Stays s (leaveActive s) := by
  unfold leaveActive
  refine .trans ?_ (.ite (endNow_stays _) .refl)
  refine .trans ?_ (.ofOnly (only_loop (fun t k => modDom_only t k _) 4))
  exact .ofOnly (only_loop (fun t r => modRail_only t r _) 16)

theorem lossRails_stays : Stays s (lossRails s) := .trans (leaveActive_stays s) (.foldl (fun t r => toFaulted_stays t _ _ r) _)

/-! ### The messages of a clock loss (R66) -/

theorem frozen_covers (n : Nat) (m : Msg) : (m.frozen n).Covers m := by
  unfold Msg.frozen
  split <;> exact ⟨rfl, rfl, rfl, id⟩

theorem freezeStamps_stays (n : Nat) : Stays s { s with fc := { s.fc with pend := s.fc.pend.map (Msg.frozen n) } } :=
  .ofCovers (upd_msgs s _) fun m hm => ⟨m.frozen n, List.mem_map_of_mem hm, frozen_covers n m⟩

theorem event_waits {s : State} (src addr : Nat) (h : s.dev.clkStop = false) : (event src addr s).Waits src 0 addr := raise_waits h

theorem lossMessages_stays : Stays s (lossMessages s) :=
  .trans (.trans (.ite (event_stays s _ _) .refl) (.ite (event_stays _ _ _) .refl)) (freezeStamps_stays _ _)

/-- Each loss detected has its message (R66). -/
theorem lossMessages_waits {s : State} (hc : s.dev.clkStop = false) :
    (s.dev.lossRef = true → (lossMessages s).Waits 0x01 0 0) ∧ (s.dev.lossPll = true → (lossMessages s).Waits 0x02 0 0) := by
  unfold lossMessages
  extract_lets ref pll
  have href : Stays s ref := .ite (event_stays s _ _) .refl
  have hpll : Stays ref pll := .ite (event_stays ref _ _) .refl
  constructor
  · intro h
    have hw : ref.Waits 0x01 0 0 := by
      unfold ref
      rw [if_pos h]
      exact event_waits Src.CLK_REF_LOSS 0 hc
    exact (freezeStamps_stays pll _).waits _ _ _ (hpll.waits _ _ _ hw)
  · intro h
    have hw : pll.Waits 0x02 0 0 := by
      unfold pll
      rw [if_pos (by rw [href.dev]; exact h)]
      exact event_waits Src.CLK_PLL_UNLOCK 0 (by rw [href.dev]; exact hc)
    exact (freezeStamps_stays pll _).waits _ _ _ hw

end

/-! ### The clocks stop (R64, R65, R316) -/

section
variable {s : State}

theorem abandonPorts_only (s : State) : Only [.perf, .ports] s (abandonPorts s) := by
  unfold abandonPorts
  refine only_then (l := [.perf]) (m := [.ports]) ?_ (upd_ports _ _)
  exact only_trans (only_loop (fun t _ => only_ite (cutUnit_only t _) only_refl) 2) (only_ite (cutUnit_only _ 2) only_refl)

/-- What a loss that finds the clocks running does at once: outputs freeze, transfers and a flash operation end. -/
def State.halted (s : State) : State := if s.dev.clkStop then s else nvClockLoss (abandonPorts (freezeAll s))

/-- The device states that a clock loss turns to SAFE. -/
def State.entersSafe (s : State) : Bool := s.dev.st == .idle || s.dev.st == .active || s.dev.st == .standby

/-- The state of the device after a clock loss. -/
def State.lossState (s : State) : DevState := if s.entersSafe then .safe else s.dev.st

/-- What a clock loss leaves of the parts that it does not mark itself. -/
def State.struck (s : State) : State := if s.entersSafe then setEvt Pg.FC 4 s.halted else s.halted

/-- What a clock loss may move beside the device, the collector's SAFE and the pair. -/
abbrev lossParts : List Part := [.bank, .phases, .ports, .perf, .nv, .msgs, .stand]

theorem halted_only (s : State) : Only lossParts s s.halted := by
  refine only_ite only_refl ?_
  refine only_then (l := [.phases, .perf, .ports]) (m := .bank :: nvParts) ?_ (nvClockLoss_moves _).1
  exact only_then (m := [.perf, .ports]) (freezeAll_only s) (abandonPorts_only _)

theorem halted_twinCfg (s : State) : TwinCfgStays s s.halted := by
  unfold State.halted
  split
  · rfl
  · refine (nvClockLoss_moves _).2.trans ?_
    exact (only_reg (abandonPorts_only _) _).trans (only_reg (freezeAll_only s) _)

theorem halted_pend (h : s.nv.cur = none) : s.halted.fc.pend = s.fc.pend := by
  unfold State.halted
  split
  · rfl
  · have hcur : (abandonPorts (freezeAll s)).nv.cur = none := by
      rw [only_nv (abandonPorts_only _), only_nv (freezeAll_only s), h]
    rw [nvClockLoss_idle hcur, only_msgs (abandonPorts_only _), only_msgs (freezeAll_only s)]

theorem struck_only (s : State) : Only lossParts s s.struck :=
  only_ite (only_then (m := [.bank]) (halted_only s) (setEvt_only _ _ _)) (halted_only s)

theorem struck_twinCfg (s : State) : TwinCfgStays s s.struck := by
  unfold State.struck
  split
  · exact (twinCfg_setReg (by decide) _).trans (halted_twinCfg s)
  · exact halted_twinCfg s

theorem struck_pend (h : s.nv.cur = none) : s.struck.fc.pend = s.fc.pend := by
  unfold State.struck
  split
  · exact (only_msgs (setEvt_only s.halted Pg.FC 4)).trans (halted_pend h)
  · exact halted_pend h

/-- A clock loss past the PLL's first lock: the marks it leaves on the device, on SAFE and on the pair. -/
theorem clockLoss_marks (ref : Bool) (hr : s.dev.rst = false) (hp : s.dev.pllUp = true) :
    let t := clockLoss ref s
    t.dev.clkStop = true ∧ t.dev.st = s.lossState ∧
      (if ref then t.dev.lossRef = true else t.dev.lossPll = true) ∧
      t.dev.refLoss = (if ref then satInc 65535 s.dev.refLoss else s.dev.refLoss) ∧
      t.dev.pllUnlk = (if ref then s.dev.pllUnlk else satInc 65535 s.dev.pllUnlk) ∧
      t.fc = { s.struck.fc with safe := s.struck.fc.safe || s.lossState == .safe } ∧ t.rails = s.struck.rails ∧ t.eng = s.struck.eng ∧
      t.twin = { s.struck.twin with
        pst := if s.lossState == .safe && s.struck.twin.pst == .forming then .orphan else s.struck.twin.pst, tx := none
        pattern := (s.lossState == .safe || s.lossState == .locked) && bit (s.struck.reg 0x0908) 31 } := by
  intro t
  have ht : t = clockLoss ref s := rfl
  rw [clockLoss, if_neg (by simp [hr, hp])] at ht
  rw [ht]
  refine ⟨rfl, rfl, ?_, rfl, rfl, rfl, rfl, rfl, rfl⟩
  cases ref
  · exact Bool.or_true _
  · exact Bool.or_true _

theorem lossState_of_entering (h : s.dev.st ∈ [DevState.idle, .active, .standby]) : s.lossState = .safe := by
  simp only [List.mem_cons, List.not_mem_nil, or_false] at h
  rcases h with h | h | h <;> simp [State.lossState, State.entersSafe, h]

theorem lossState_of_staying (h : s.dev.st ∈ [DevState.boot, .safe, .locked]) : s.lossState = s.dev.st := by
  simp only [List.mem_cons, List.not_mem_nil, or_false] at h
  rcases h with h | h | h <;> simp [State.lossState, State.entersSafe, h]

/-- A clock loss, with the frame it keeps. -/
theorem clockLoss_silences (ref : Bool) (hr : s.dev.rst = false) (hp : s.dev.pllUp = true) :
    let t := clockLoss ref s
    t.dev.clkStop = true ∧ t.Quiet ∧ t.NoDrive ∧ (if ref then t.dev.lossRef = true else t.dev.lossPll = true) ∧
      (s.dev.st ∈ [DevState.idle, .active, .standby] → t.dev.st = .safe ∧ t.fc.safe = true) ∧
      (s.dev.st ∈ [DevState.boot, .safe, .locked] → t.dev.st = s.dev.st) ∧
      t.dev.refLoss = (if ref then satInc 65535 s.dev.refLoss else s.dev.refLoss) ∧
      t.dev.pllUnlk = (if ref then s.dev.pllUnlk else satInc 65535 s.dev.pllUnlk) ∧
      (s.nv.cur = none → t.fc.pend = s.fc.pend) ∧ t.rails = s.rails ∧ t.eng = s.eng ∧
      t.twin = { s.twin with tx := none, pst := if t.dev.st = .safe ∧ s.twin.pst = .forming then .orphan else s.twin.pst
                             pattern := (t.dev.st == .safe || t.dev.st == .locked) && bit (s.reg 0x0908) 31 } := by
  intro t
  obtain ⟨hstop, hst, hlost, href, hpll, hfc, hrails, heng, htwin⟩ := clockLoss_marks ref hr hp
  have hcfg := struck_twinCfg s
  have honly := struck_only s
  refine ⟨hstop, quiet_of_not_active (.inr (.inl hstop)), fun k _ => drvHigh_of_not_active k (.inr (.inl hstop)), hlost, fun h => ?_,
    fun h => hst.trans (lossState_of_staying h), href, hpll, fun h => ?_, hrails.trans (only_rails honly),
    heng.trans (only_eng honly), ?_⟩
  · refine ⟨hst.trans (lossState_of_entering h), ?_⟩
    rw [hfc, lossState_of_entering h]
    exact Bool.or_true _
  · rw [hfc]
    exact struck_pend h
  · rw [htwin, hst, only_twin honly, hcfg]
    simp

end

/-! ### The clocks return (R66, R305) -/

section
variable {s : State}

theorem pollBack_only (n : Nat) (s : State) : Only [.sb] s (pollBack n s) := by
  unfold pollBack
  extract_lets e seen u
  have hu : Only [.sb] s u := upd_sb s _
  exact only_trans hu (only_ite (upd_sb u _) only_refl)

theorem sbAfterLoss_only (s : State) : Only [.perf, .sb] s (sbAfterLoss s) := by
  unfold sbAfterLoss
  extract_lets u v
  have hu : Only [.perf] s u := only_ite (cutUnit_only s 3) only_refl
  have hv : Only [.sb] u v := by
    unfold v
    split
    · exact upd_sb _ _
    · exact only_trans (pollBack_only _ _) (upd_sb _ _)
    · exact only_refl
  exact only_then (m := [.sb]) hu (only_trans hv (upd_sb v _))

theorem firstEdge_only (s : State) : Only [.clk, .perf, .grid] s (firstEdge s) := by
  unfold firstEdge
  refine only_then (l := [.clk, .perf, .grid]) ?_ (perf_only _ _ _ _)
  refine only_then (l := [.grid]) (m := [.clk, .perf]) (upd_grid s { s.grid.upTo s (incNow s) with accAt := 50 * s.dev.frame }) ?_
  exact only_then (l := [.clk]) (m := [.perf]) (upd_clk _ (s.clk + 1)) (upd_perf _ _)

/-- The clocks run again, and the lanes carry frames. -/
def State.running (s : State) : State :=
  { s with dev := { s.dev with clkStop := false }, twin := { s.twin with pattern := false } }

/-- The marks of the loss are taken back. -/
def State.cleared (s : State) : State := { s with dev := { s.dev with lossRef := false, lossPll := false, fresh := false } }

/-- What the relock does between the two, of a device past BOOT. -/
def State.relocked (s : State) : State := linkEdge (lossRails (lossMessages (sbAfterLoss (firstEdge s))))

theorem pllRelock_eq (hr : s.dev.rst = false) (hc : s.dev.clkStop = true) (hb : s.dev.st ≠ .boot) :
    pllRelock s = s.running.relocked.cleared := by
  have hdev : (sbAfterLoss (firstEdge s.running)).dev = s.running.dev :=
    (only_dev (sbAfterLoss_only _)).trans (only_dev (firstEdge_only _))
  have hboot : ((sbAfterLoss (firstEdge s.running)).dev.st == .boot) = false := by
    rw [hdev]
    simpa [State.running] using hb
  rw [pllRelock, if_neg (by simp [hr, hc]), if_neg hb]
  change State.cleared (if (sbAfterLoss (firstEdge s.running)).dev.st == .boot then _ else _) = _
  rw [hboot]
  rfl

theorem judgeReady_only (s : State) : Only [.twin] s (judgeReady s) := only_ite (upd_twin s _) (only_ite (upd_twin s _) only_refl)
theorem sendLink_only (s : State) : Only [.twin] s (sendLink s) := upd_twin s _

theorem takeSnaps_only (s : State) : Only [.twin] s (takeSnaps s) := by
  unfold takeSnaps
  split
  · exact only_refl
  · exact only_ite only_refl (upd_twin s _)

theorem takeSnaps_tx (s : State) : (takeSnaps s).twin.tx = s.twin.tx := by
  unfold takeSnaps
  split
  · rfl
  · split <;> rfl

/-- A device that is no standby sets no rail states. -/
theorem railStates_of_driving (h : s.dev.st ≠ .standby) : railStates s = s := by simp [railStates, follows, h]

theorem judgeLoss_stays (s : State) : Stays s (judgeLoss s) := by
  unfold judgeLoss
  refine .trans ?_ (setCond_stays _ _ _ _)
  exact .trans (.ofOnly (upd_twin s _)) (.ite (setCond_stays _ _ _ _) .refl)

theorem beginLink_driving (h : s.dev.st ≠ .standby) : beginLink s = takeSnaps (sendLink (judgeReady s)) := by
  rw [beginLink, railStates_of_driving]
  rwa [only_dev (judgeReady_only s)]

theorem beginLink_stays (h : s.dev.st ≠ .standby) : Stays s (beginLink s) := by
  rw [beginLink_driving h]
  exact .ofOnly (only_trans (only_trans (judgeReady_only s) (sendLink_only _)) (takeSnaps_only _))

/-- The frame that begins carries the number of the device's frame (R306). -/
theorem beginLink_tx (h : s.dev.st ≠ .standby) : ∃ f, (beginLink s).twin.tx = some f ∧ f.hb.toNat = s.dev.frame % 65536 := by
  rw [beginLink_driving h, takeSnaps_tx, ← only_dev (judgeReady_only s)]
  exact ⟨_, rfl, by simp [linkFrame]⟩

theorem linkEdge_stays (h : s.dev.st ≠ .standby) : Stays s (linkEdge s) := by
  refine .ite (.trans (judgeLoss_stays s) (beginLink_stays ?_)) .refl
  rwa [(judgeLoss_stays s).dev]

theorem linkEdge_tx (h : s.dev.st ≠ .standby) (ho : twinOn s = true) :
    ∃ f, (linkEdge s).twin.tx = some f ∧ f.hb.toNat = s.dev.frame % 65536 := by
  rw [linkEdge, if_pos ho, ← (judgeLoss_stays s).dev]
  exact beginLink_tx (by rwa [(judgeLoss_stays s).dev])

/-- Of a device in SAFE or LOCKED whose clocks run again: what the loss raises waits, and a paired one begins a frame. -/
theorem relocked_facts (hr : s.dev.rst = false) (hc : s.dev.clkStop = false) (hst : s.dev.st = .safe ∨ s.dev.st = .locked) :
    s.relocked.dev = s.dev ∧ (s.dev.lossRef = true → s.relocked.Waits 0x01 0 0) ∧
      (s.dev.lossPll = true → s.relocked.Waits 0x02 0 0) ∧
      (bit (s.reg 0x0908) 31 = true → ∃ f, s.relocked.twin.tx = some f ∧ f.hb.toNat = s.dev.frame % 65536) := by
  unfold State.relocked
  have hu : Stays s (sbAfterLoss (firstEdge s)) := .trans (.ofOnly (firstEdge_only s)) (.ofOnly (sbAfterLoss_only _))
  generalize sbAfterLoss (firstEdge s) = u at hu ⊢
  have hm := lossMessages_stays u
  have hl := lossRails_stays (lossMessages u)
  have hall : Stays s (lossRails (lossMessages u)) := hu.trans (hm.trans hl)
  have hns : s.dev.st ≠ .standby := by rcases hst with h | h <;> simp [h]
  have hnb : s.dev.st ≠ .boot := by rcases hst with h | h <;> simp [h]
  have he := linkEdge_stays (s := lossRails (lossMessages u)) (by rwa [hall.dev])
  obtain ⟨href, hpll⟩ := lossMessages_waits (s := u) (by rw [hu.dev, hc])
  rw [hu.dev] at href hpll
  refine ⟨he.dev.trans hall.dev, fun h => he.waits _ _ _ (hl.waits _ _ _ (href h)), fun h => he.waits _ _ _ (hl.waits _ _ _ (hpll h)),
    fun h => ?_⟩
  have hon : twinOn (lossRails (lossMessages u)) = true := by
    have hserved : served (lossRails (lossMessages u)) = true := by
      rw [served_iff, hall.dev]
      exact ⟨hr, hc, hnb⟩
    have hcfg : bit ((lossRails (lossMessages u)).reg 0x0908) 31 = true := by rw [hall.cfg, h]
    exact Bool.and_eq_true_iff.2 ⟨hserved, hcfg⟩
  rw [← hall.dev]
  exact linkEdge_tx (by rwa [hall.dev]) hon

theorem pllRelock_facts (hr : s.dev.rst = false) (hc : s.dev.clkStop = true) (hst : s.dev.st = .safe ∨ s.dev.st = .locked) :
    let t := pllRelock s
    t.dev.clkStop = false ∧ t.dev.st = s.dev.st ∧ t.Quiet ∧ t.dev.lossRef = false ∧ t.dev.lossPll = false ∧
      (s.dev.lossRef = true → t.Waits 0x01 0 0) ∧ (s.dev.lossPll = true → t.Waits 0x02 0 0) ∧
      (bit (s.reg 0x0908) 31 = true → ∃ f, t.twin.tx = some f ∧ f.hb.toNat = s.dev.frame % 65536) := by
  intro t
  have hb : s.dev.st ≠ .boot := by rcases hst with h | h <;> simp [h]
  have ht : t = s.running.relocked.cleared := pllRelock_eq hr hc hb
  obtain ⟨hdev, href, hpll, htx⟩ := relocked_facts (s := s.running) hr rfl hst
  have hstop : t.dev.clkStop = false := by
    rw [ht]
    exact congrArg Dev.clkStop hdev
  have hsame : t.dev.st = s.dev.st := by
    rw [ht]
    exact (congrArg Dev.st hdev :)
  refine ⟨hstop, hsame, quiet_of_not_active (.inr (.inr ?_)), ?_, ?_, ?_, ?_, ?_⟩
  · rw [hsame]
    rcases hst with h | h <;> simp [h]
  · rw [ht]; rfl
  · rw [ht]; rfl
  · rw [ht]; exact href
  · rw [ht]; exact hpll
  · rw [ht]; exact htx

end

/-! ### The RC oscillator (R68) -/

section
variable {s : State}

/-- The device after a measurement. -/
def Dev.measured (count : Nat) (d : Dev) : Dev :=
  let good := decide (28800 ≤ count ∧ count ≤ 35200)
  let run := if good = d.rcOk then 0 else d.rcRun + 1
  { d with rcMeas := min 65535 count, rcAge := 0, rcRun := if 2 ≤ run then 0 else run, rcOk := if 2 ≤ run then good else d.rcOk }

theorem rcMeasurement_eq (n : Nat) (hs : s.Runs) (hp : s.dev.pllUp = true) (ha : 1000 ≤ s.dev.rcAge) :
    rcMeasurement n s = setCond Src.CLK_RC_FAIL 0 (!(s.dev.measured n).rcOk) { s with dev := s.dev.measured n } := by
  obtain ⟨hr, hc⟩ := hs
  rw [rcMeasurement, if_neg (by simp [hr, hc, hp, ha])]
  simp [Dev.measured, Bool.decide_and]

theorem rcMeasurement_early (n : Nat) (h : s.dev.rcAge < 1000) : rcMeasurement n s = s := by simp [rcMeasurement, h]

theorem measured_agree {n : Nat} {d : Dev} (h : decide (28800 ≤ n ∧ n ≤ 35200) = d.rcOk) :
    (d.measured n).rcOk = d.rcOk ∧ (d.measured n).rcRun = 0 := by simp [Dev.measured, h]

theorem measured_second {n : Nat} {d : Dev} (h : decide (28800 ≤ n ∧ n ≤ 35200) ≠ d.rcOk) (hr : 1 ≤ d.rcRun) :
    (d.measured n).rcOk = !d.rcOk := by
  have hrun : 2 ≤ d.rcRun + 1 := by omega
  simp only [Dev.measured, if_neg h, if_pos hrun]
  exact Bool.eq_not.2 h

theorem measured_first {n : Nat} {d : Dev} (h : decide (28800 ≤ n ∧ n ≤ 35200) ≠ d.rcOk) (hr : d.rcRun = 0) :
    (d.measured n).rcOk = d.rcOk ∧ (d.measured n).rcRun = 1 := by
  simp only [Dev.measured, if_neg h, hr]
  exact ⟨rfl, rfl⟩

/-- A condition set or taken back stands as asked. -/
theorem setCond_stands_iff (src addr : Nat) (on : Bool) (s : State) : (setCond src addr on s).Stands src addr ↔ on = true := by
  cases on
  · simpa [State.Stands] using setCond_off_stand
  · simpa [State.Stands] using setCond_on_stand

end

end Sys2Proof.Machine

section
open Sys2Proof Sys2Proof.Machine

/-- Settles O29: a loss marks the device and the pair and leaves rails and engine; what the relock runs drops no message; RCOK is decided by
the measurement's agreement and the count of those before it. -/
theorem clockLossAndReturn : Obligations.ClockLossAndReturn := by
  refine ⟨fun b s hr hp => ?_, fun s hr hc hst => ⟨_, rfl, pllRelock_facts (s := s.begin) hr hc hst⟩,
    fun n s hs hp ha _ => ?_, fun n s h => ?_⟩
  · have he : exec (if b then .referenceLoss else .pllUnlock) s = .next (clockLoss b s.begin) := by cases b <;> rfl
    exact ⟨_, he, clockLoss_silences b hr hp⟩
  · have he : exec (.rcMeasurement n) s =
        .next (setCond Src.CLK_RC_FAIL 0 (!(s.dev.measured n).rcOk) { s.begin with dev := s.dev.measured n }) :=
      congrArg Host.Outcome.next ((clocked_runs (s := s.begin) hs.1 hs.2).trans (rcMeasurement_eq (s := s.begin) n hs hp ha))
    have honly := setCond_only { s.begin with dev := s.dev.measured n } Src.CLK_RC_FAIL 0 (!(s.dev.measured n).rcOk)
    have hdev := only_dev honly
    have hall := only_then (l := [.dev]) (n := [.dev, .msgs, .stand]) (upd_dev s.begin (s.dev.measured n)) honly
    refine ⟨_, he, eq_take_of_only hall, ?_, ?_, ?_, ?_, ?_, ?_⟩
    · rw [hdev]; rfl
    · rw [hdev]; rfl
    · rw [setCond_stands_iff, hdev]
      simp
    · rw [hdev]; exact measured_agree
    · rw [hdev]; exact measured_second
    · rw [hdev]; exact measured_first
  · refine congrArg Host.Outcome.next ?_
    unfold clocked
    split
    · rfl
    · exact rcMeasurement_early n h

end
end

section
/-! PROOFS: commands that a running device carries out, and the results of cupping measurements and the snapshot capture (R101, R103,
R258-R265). -/

-- The package as one text: its declarations are elaborated one after another, to hold few threads.
set_option Elab.async false

namespace Sys2Proof.Machine

/-! ### Commands of a running device (R65, R74) -/

section
variable {s : State} {f : State → State} {c : Option (Fin 3)} {d : Option Nat} {m : Bool}

/-- While no reset is asserted and the clocks run, a clocked command does its work on the state begun. -/
theorem next_clocked_of_runs (h : s.Runs) :
    (.next (clocked f (s.begin c d m)) : Host.Outcome State Fault Refusal) = .next (f (s.begin c d m)) :=
  congrArg _ (clocked_runs h.1 h.2)

theorem sensing_iff : sensing s = true ↔ s.Works := by simp [sensing, and_assoc]

theorem sensing_begin (h : s.Works) : sensing (s.begin c d m) = true := sensing_iff.2 h

end

/-! ### Angles of a response (R258) -/

/-- The angle in a quadrant does not depend on the magnitude. -/
theorem quadAng_div (x y : Rat) {n : Rat} (hn : 0 < n) : quadAng (x / n) (y / n) = quadAng x y := by
  have key (a b : Rat) : x / n * a ≤ y / n * b ↔ x * a ≤ y * b := by
    rw [div_mul_eq_mul_div, div_mul_eq_mul_div, div_le_div_iff_of_pos_right hn]
  simp only [quadAng, key]

theorem ang16_div (x y : Rat) {n : Rat} (hn : 0 < n) : ang16 (x / n) (y / n) = ang16 x y := by
  simp only [ang16, ← neg_div, quadAng_div _ _ hn, div_pos_iff_of_pos_right hn, le_div_iff₀ hn, div_le_iff₀ hn, div_lt_iff₀ hn, zero_mul]

/-! ### Results of the cupping unit (R258-R265) -/

section
variable {s : State} {m : CupSums}

/-- The size of the loop gain is that of the response over that of the stimulus (R258). -/
theorem loopGain_normSq (m : CupSums) (hx : m.xs * m.xs + m.xc * m.xc ≠ 0) :
    ((loopGain m).1 ^ 2 + (loopGain m).2 ^ 2) * (m.xs * m.xs + m.xc * m.xc) = m.us * m.us + m.uc * m.uc := by
  have h : (m.us * m.xs + m.uc * m.xc) ^ 2 + (m.uc * m.xs - m.us * m.xc) ^ 2 =
      (m.us * m.us + m.uc * m.uc) * (m.xs * m.xs + m.xc * m.xc) := by ring
  simp only [loopGain, div_pow, neg_sq, ← add_div, h]
  rw [sq, mul_div_mul_right _ _ hx, div_mul_cancel₀ _ hx]

/-- A response that is not zero has the argument of -U / X, whatever its magnitude (R258). -/
theorem argOf_loopGain (hx : m.xs * m.xs + m.xc * m.xc ≠ 0) (hu : m.us * m.us + m.uc * m.uc ≠ 0) :
    argOf s (loopGain m).1 (loopGain m).2 = ang16 (-(m.us * m.xs + m.uc * m.xc)) (-(m.uc * m.xs - m.us * m.xc)) := by
  have hpos : 0 < m.xs * m.xs + m.xc * m.xc :=
    lt_of_le_of_ne (add_nonneg (mul_self_nonneg _) (mul_self_nonneg _)) hx.symm
  have hne : ¬ ((loopGain m).1 = 0 ∧ (loopGain m).2 = 0) := fun ⟨h1, h2⟩ => hu (by simp [← loopGain_normSq m hx, h1, h2])
  rw [argOf, if_neg hne]
  exact ang16_div _ _ hpos

/-- The cupping unit with a measurement's results written (R258). -/
def measuredCup (s : State) (m : CupSums) : Cup :=
  { s.cup with result := none, gain := gainOf s m, ph := argOf s (loopGain m).1 (loopGain m).2
               pm := (argOf s (loopGain m).1 (loopGain m).2 + 0x8000) % 65536 }

/-- The cupping unit asked to end at the next zero, as done, unless it ends already (R263). -/
def Cup.finish (c : Cup) : Cup := { c with ending := if c.ending.isNone then some (true, false) else c.ending }

/-- A sweep's state with the measured point in it (R265). -/
def sweepPoint (s : State) (m : CupSums) : State :=
  { s with capt := { s.capt with sweep := s.capt.sweep ++ pointSamples s.cup.f (measuredCup s m).gain (measuredCup s m).ph }
           cup := { measuredCup s m with pts := s.cup.pts ++ [(s.cup.f, (measuredCup s m).gain, (measuredCup s m).ph)] } }

/-- What the end of a sweep's point leaves: whether the results are computed or the next point begins, the unit runs, and the points, the
latest gain and phase stay. -/
structure PointsStay (s u : State) : Prop where
  only : Only [.cup] s u
  run : u.cup.run = s.cup.run
  result : u.cup.result = s.cup.result
  gain : u.cup.gain = s.cup.gain
  ph : u.cup.ph = s.cup.ph
  pts : u.cup.pts = s.cup.pts

theorem PointsStay.trans {u v : State} (h : PointsStay s u) (g : PointsStay u v) : PointsStay s v :=
  ⟨only_trans h.only g.only, g.run.trans h.run, g.result.trans h.result, g.gain.trans h.gain, g.ph.trans h.ph, g.pts.trans h.pts⟩

theorem sweepResult_stays (s : State) : PointsStay s (sweepResult s) := by
  unfold sweepResult
  extract_lets l op any c u d
  have hu : PointsStay s u := by
    show PointsStay s (match firstPair _ l with | none => _ | some (a, b) => _)
    split <;> exact ⟨upd_cup _ _, rfl, rfl, rfl, rfl, rfl⟩
  clear_value u
  refine hu.trans ?_
  split <;> exact ⟨upd_cup _ _, rfl, rfl, rfl, rfl, rfl⟩

theorem cupRestart_stays (s : State) : PointsStay s (cupRestart s) := ⟨upd_cup _ _, rfl, rfl, rfl, rfl, rfl⟩

theorem cupDone_single (hr : s.cup.result = some m) (hrun : s.cup.run = true) (h : s.cup.mode = 0) :
    cupDone s = { s with cup := (measuredCup s m).finish } := by
  unfold cupDone
  rw [hr]
  dsimp only
  rw [if_neg (by simp [hrun])]
  split
  · rfl
  · omega
  · contradiction

theorem cupDone_continuous (hr : s.cup.result = some m) (hrun : s.cup.run = true) (h : s.cup.mode = 1) :
    cupDone s = { s with cup := measuredCup s m } := by
  unfold cupDone
  rw [hr]
  dsimp only
  rw [if_neg (by simp [hrun])]
  split
  · omega
  · rfl
  · contradiction

/-- A sweep's point is kept; then the results are computed and the end is asked for, or the next point begins (R260, R261). -/
theorem cupDone_sweep (hr : s.cup.result = some m) (hrun : s.cup.run = true) (h : 2 ≤ s.cup.mode) :
    PointsStay (sweepPoint s m) (cupDone s) := by
  unfold cupDone
  rw [hr]
  dsimp only
  rw [if_neg (by simp [hrun])]
  split
  · omega
  · omega
  · split
    · exact (sweepResult_stays (sweepPoint s m)).trans ⟨upd_cup _ _, rfl, rfl, rfl, rfl, rfl⟩
    · refine PointsStay.trans ?_ (cupRestart_stays _)
      exact ⟨upd_cup (sweepPoint s m) _, rfl, rfl, rfl, rfl, rfl⟩

theorem cupDone_only (s : State) (hr : s.cup.result = some m) (hrun : s.cup.run = true) : Only [.cup, .capt] s (cupDone s) := by
  match hm : s.cup.mode with
  | 0 => rw [cupDone_single hr hrun hm]; exact only_mono (upd_cup s _)
  | 1 => rw [cupDone_continuous hr hrun hm]; exact only_mono (upd_cup s _)
  | n + 2 => 
    have hp : Only [.cup, .capt] s (sweepPoint s m) := only_then (upd_capt s (sweepPoint s m).capt) (upd_cup _ (sweepPoint s m).cup)
    exact only_then hp (cupDone_sweep hr hrun (by omega)).only

/-- Whatever the mode, a measurement's result is taken, and its gain and phase are written (R258). -/
theorem cupDone_written (hr : s.cup.result = some m) (hrun : s.cup.run = true) :
    (cupDone s).cup.result = none ∧ (cupDone s).cup.run = true ∧ (cupDone s).cup.gain = gainOf s m ∧
      (cupDone s).cup.ph = argOf s (loopGain m).1 (loopGain m).2 := by
  match hm : s.cup.mode with
  | 0 => rw [cupDone_single hr hrun hm]; exact ⟨rfl, hrun, rfl, rfl⟩
  | 1 => rw [cupDone_continuous hr hrun hm]; exact ⟨rfl, hrun, rfl, rfl⟩
  | n + 2 =>
    have h := cupDone_sweep hr hrun (by omega)
    exact ⟨h.result, h.run.trans hrun, h.gain, h.ph⟩

theorem injectionEnd_eq {done byRail : Bool} (hrun : s.cup.run = true) (hz : s.cup.zero = true) (he : s.cup.ending = some (done, byRail)) :
    injectionEnd s = endInjection done byRail s := by simp [injectionEnd, hrun, hz, he]

theorem endInjection_cup (done byRail : Bool) (s : State) : (endInjection done byRail s).cup =
    { s.cup with run := false, ending := none, zero := false, result := none, last := if done then 1 else 2 } := by
  unfold endInjection
  dsimp only
  split <;> rw [only_cup (event_only _ _ _)] <;> split <;> rfl

theorem endInjection_capt (done byRail : Bool) (s : State) :
    (endInjection done byRail s).capt = if s.cup.mode = 2 then { s.capt with st := 2 } else s.capt := by
  unfold endInjection
  dsimp only
  split <;> rw [only_capt (event_only _ _ _)] <;> split <;> rfl

/-- CUP_DONE or CUP_ABORT says how an injection ended (R263). -/
theorem endInjection_waits (done byRail : Bool) {s : State} (hc : s.dev.clkStop = false) :
    if done then (endInjection done byRail s).Waits 0x21 0 s.cup.rail
    else (endInjection done byRail s).Waits 0x22 0 (s.cup.rail + if byRail then 2048 else 0) := by
  cases done <;> simp only [endInjection, Bool.false_eq_true, if_true, if_false]
  · split <;> exact event_waits _ _ hc
  · split <;> exact event_waits _ _ hc

/-! ### Snapshot capture (R101, R103) -/

/-- A tick of a triggered capture stores each channel's latest result while its share is not full. -/
theorem captureTick_triggered (hw : sensing s = true) (hst : s.capt.st = 1) (ho : s.capt.owner = 1) (ht : s.capt.trig ≠ none) :
    (captureTick s).capt.trig = s.capt.trig ∧ (captureTick s).capt.chans = (s.capt.chans.zip s.capt.sel).map fun x =>
      if x.1.length < s.capt.share then c16 (chanValue s x.2) :: x.1 else x.1 := by
  obtain ⟨n, hn⟩ := Option.ne_none_iff_exists'.1 ht
  simp [captureTick, hw, hst, ho, hn]

/-- A tick of a running capture moves the capture unit alone, goes on running, and forgets the source seen. -/
theorem captureTick_runs (hw : sensing s = true) (hst : s.capt.st = 1) (ho : s.capt.owner = 1) :
    captureTick s = { s with capt := (captureTick s).capt } ∧ (captureTick s).capt.st = 1 ∧ (captureTick s).capt.owner = 1 ∧
      (captureTick s).capt.srcSeen = false ∧ (captureTick s).capt.chans.length = (s.capt.chans.zip s.capt.sel).length := by
  have h : ¬ (!sensing s || s.capt.st ≠ 1 || s.capt.owner ≠ 1) = true := by simp [hw, hst, ho]
  unfold captureTick
  rw [if_neg h]
  exact ⟨rfl, hst, ho, rfl, List.length_map _⟩

theorem captureDone_full (hw : sensing s = true) (hst : s.capt.st = 1) (ho : s.capt.owner = 1) (ht : s.capt.trig ≠ none)
    (hf : ∀ l ∈ s.capt.chans, l.length = s.capt.share) : captureDone s = event Src.CAP_DONE 0 { s with capt := { s.capt with st := 2 } } := by
  obtain ⟨n, hn⟩ := Option.ne_none_iff_exists'.1 ht
  refine if_neg ?_
  simp [hw, hst, ho, hn, List.all_eq_true.2 fun l hl => beq_iff_eq.2 (hf l hl)]

end

end Sys2Proof.Machine

section
open Sys2Proof Sys2Proof.Machine

/-- Settles O47: a measurement's end by the unit's mode, the end of an injection by the operation that ends it, the capture by its guards. -/
theorem measurementsAndCaptureRun : Obligations.MeasurementsAndCaptureRun := by
  refine ⟨fun m s hs hrun hr hx => ?_, fun done byRail s hs hrun hz he => ?_, fun s hs hst ho => ?_, fun s hs hst ho ht hf => ?_⟩
  · obtain ⟨hres, hrun', hg, hp⟩ := cupDone_written (s := s.begin) hr hrun
    have ho : Only [.cup, .capt, .msgs] s.begin (cupDone s.begin) := only_mono (cupDone_only s.begin hr hrun)
    refine ⟨cupDone s.begin, next_clocked_of_runs hs, eq_take_of_only ho, hres, hrun', ?_, fun hu => ?_, fun hm => ?_, fun hm => ?_, fun hm he => ?_⟩
    · rw [hg, gainOf]; exact if_neg hx
    · rw [hp, argOf_loopGain hx hu]
    · rcases (by omega : s.cup.mode = 0 ∨ s.cup.mode = 1) with h | h
      · rw [cupDone_single (s := s.begin) hr hrun h]; exact ⟨rfl, rfl, rfl⟩
      · rw [cupDone_continuous (s := s.begin) hr hrun h]; exact ⟨rfl, rfl, rfl⟩
    · have hk := cupDone_sweep (s := s.begin) hr hrun hm.ge
      rw [hk.pts, hk.gain, hk.ph, only_capt hk.only]
      exact ⟨rfl, rfl⟩
    · rw [cupDone_single (s := s.begin) hr hrun hm]
      exact if_pos (by simp [measuredCup, he])
  · have he' : injectionEnd s.begin = endInjection done byRail s.begin := injectionEnd_eq hrun hz he
    refine ⟨endInjection done byRail s.begin, (next_clocked_of_runs hs).trans (congrArg _ he'),
      eq_take_of_only (endInjection_only s.begin done byRail), endInjection_cup .., endInjection_capt .., endInjection_waits done byRail hs.2⟩
  · obtain ⟨h1, h2, h3, h4, h5⟩ := captureTick_runs (sensing_begin (c := none) (d := none) (m := false) hs) hst ho
    exact ⟨captureTick s.begin, next_clocked_of_runs hs.1, h1, h2, h3, h4, h5, captureTick_triggered (sensing_begin hs) hst ho⟩
  · refine ⟨captureDone s.begin, next_clocked_of_runs hs.1, ?_, ?_⟩
    · rw [captureDone_full (sensing_begin hs) hst ho ht hf]
      exact event_waits _ _ hs.1.2
    · rw [captureDone_full (sensing_begin hs) hst ho ht hf]
      exact eq_take_of_only (event_only _ _ _)

end
end

section
/-! PROOFS: the auxiliary converter, its checks, the die temperature and the supplies (R94, R95, R248, R297). -/

-- The package as one text: its declarations are elaborated one after another, to hold few threads.
set_option Elab.async false

namespace Sys2Proof.Machine

/-! ### Conditions judged (R79, R95, R248) -/

theorem judge_stands {c : Cond} {n m : Nat} (h : c.on = false) (hn : n ≤ c.up) : (c.judge n m).on = true := by simp [Cond.judge, h, hn]

theorem judge_clears {c : Cond} {n m : Nat} (h : c.on = true) (hm : m ≤ c.dn) : (c.judge n m).on = false := by simp [Cond.judge, h, hm]

/-- What stands at another address is not moved by a condition (R272). -/
theorem setCond_stands_other {src addr src' addr' : Nat} (on : Bool) (s : State) (h : (src', addr') ≠ (src, addr)) :
    (setCond src addr on s).Stands src' addr' ↔ s.Stands src' addr' := by
  cases on
  · simp [State.Stands, setCond_off_standing, h]
  · refine ⟨fun hs => ?_, stands_setCond_on⟩
    unfold setCond at hs
    rw [if_pos rfl] at hs
    split at hs
    · exact hs
    · have hr : (raise src 1 addr false true s).fc.stand = s.fc.stand := only_stand (raise_only ..)
      simpa [State.Stands, hr, h] using hs

/-! ### What follows a channel's failure (R23, R225) -/

theorem channelFailed_only (s : State) : Only [.rails, .phases, .perf, .msgs] s (channelFailed s) :=
  only_then (ffLose_only s) (obsCheck_only _)

theorem channelFailed_stands (s : State) (src addr : Nat) : (channelFailed s).Stands src addr ↔ s.Stands src addr := by
  rw [State.Stands, only_stand (channelFailed_only s)]

/-- A channel's condition that is judged stands as judged. -/
theorem channelCond_stands_iff (src addr : Nat) (on : Bool) (s : State) :
    (channelFailed (setCond src addr on s)).Stands src addr ↔ on = true := by
  rw [channelFailed_stands, setCond_stands_iff]

theorem channelCond_aux (src addr : Nat) (on : Bool) (s : State) : (channelFailed (setCond src addr on s)).aux = s.aux := by
  rw [only_aux (channelFailed_only _), only_aux (setCond_only ..)]

/-! ### The slots of a round (R94) -/

section
variable {s : State} {slot v : Nat}

theorem auxSlot_only (slot v : Nat) (s : State) : Only [.aux, .rails, .phases] s (auxSlot slot v s) := by
  unfold auxSlot
  dsimp only
  refine only_ite (only_ite (only_mono (upd_aux s _)) ?_) (only_ite (only_mono (upd_aux s _)) (only_mono (upd_aux s _)))
  exact only_then (l := [.aux]) (upd_aux s _) (ffRestore_only _ _)

/-- A slot moves no slot of the round. -/
theorem auxSlot_round (slot v : Nat) (s : State) : (auxSlot slot v s).aux.round = s.aux.round := by
  unfold auxSlot
  dsimp only
  split
  · split
    · rfl
    · rw [only_aux (ffRestore_only _ _)]
  · split <;> rfl

/-- A channel's slot writes its code and its scaled value (R94). -/
theorem auxSlot_channel (h : slot < 16) :
    (auxSlot slot v s).aux.raw = s.aux.raw.set slot (v % 16384) ∧ (auxSlot slot v s).aux.val = s.aux.val.set slot
      (scaledPU s (((v % 16384 : Nat) : Rat) * (1.6 / 16384)) (s.pg Pg.SAMP (Reg.SAMP_AUXSCALE + slot))) := by
  unfold auxSlot
  rw [if_pos h]
  dsimp only
  split
  · exact ⟨rfl, rfl⟩
  · rw [only_aux (ffRestore_only _ _)]
    exact ⟨rfl, rfl⟩

theorem auxSlot_die : (auxSlot 16 v s).aux.tdie = s16 v ∧ (auxSlot 16 v s).aux.raw = s.aux.raw := ⟨rfl, rfl⟩
theorem auxSlot_vcore : (auxSlot 17 v s).aux.vcore = v := rfl
theorem auxSlot_vana : (auxSlot 18 v s).aux.vana = v := rfl
theorem auxSlot_vio : (auxSlot 19 v s).aux.vio = v := rfl

theorem auxRound_congr {s t : State} (h : t.bank = s.bank) : auxRound t = auxRound s := by simp only [auxRound, State.pg, State.reg, h]

theorem auxRound_ne_nil (s : State) : auxRound s ≠ [] := by simp [auxRound]

/-- The state with the slots still to be converted in the round. -/
def State.roundAt (s : State) (l : List Nat) : State := { s with aux := { s.aux with round := l } }

/-- The slot in front of the round completes; behind the last one the next round is taken (R94). -/
theorem auxConversion_slot {rest : List Nat} (hw : sensing s = true)
    (hr : (if s.aux.round = [] then auxRound s else s.aux.round) = slot :: rest) :
    auxConversion v s = if rest.isEmpty then nextRound (auxSlot slot v (s.roundAt rest)) else auxSlot slot v (s.roundAt rest) := by
  have hrun : ¬ (!sensing s) = true := by simp [hw]
  unfold auxConversion
  rw [if_neg hrun]
  cases h : s.aux.round with
  | nil =>
    rw [if_pos h] at hr
    simp only [hr]
    rfl
  | cons k t =>
    rw [if_neg (by simp [h]), h] at hr
    cases hr
    rfl

/-- A conversion leaves the auxiliary converter as its slot does, but for the round. -/
theorem auxConversion_aux {rest : List Nat} (hw : sensing s = true)
    (hr : (if s.aux.round = [] then auxRound s else s.aux.round) = slot :: rest) :
    (auxConversion v s).aux =
      { (auxSlot slot v (s.roundAt rest)).aux with round := if rest = [] then auxRound s else rest } := by
  rw [auxConversion_slot hw hr]
  cases rest with
  | nil =>
    have hb : auxRound (auxSlot slot v (s.roundAt [])) = auxRound s := 
      auxRound_congr (t := auxSlot slot v (s.roundAt [])) (s := s.roundAt []) (only_bank (auxSlot_only ..))
    rw [if_pos List.isEmpty_nil, if_pos rfl, ← hb]
    rfl
  | cons k t =>
    have hround : (auxSlot slot v (s.roundAt (k :: t))).aux.round = k :: t := auxSlot_round ..
    rw [if_neg (by simp), if_neg (by simp)]
    generalize auxSlot slot v (s.roundAt (k :: t)) = u at hround ⊢
    rw [← hround]

end

/-! ### The reference of the self-check (R95) -/

/-- The check's bounds in volts: code 12288 is 1.2 V of the 1.6 V span. -/
theorem sarGood_eq (code : Nat) :
    sarGood code = decide (1.2 * 0.995 ≤ (code : Rat) * (1.6 / 16384) ∧ (code : Rat) * (1.6 / 16384) ≤ 1.2 * 1.005) := by
  have h1 : 12288 * 995 ≤ code * 1000 ↔ (1.2 : Rat) * 0.995 ≤ (code : Rat) * (1.6 / 16384) := by
    rw [← Nat.cast_le (α := Rat)]
    push_cast
    constructor <;> intro h <;> linarith
  have h2 : code * 1000 ≤ 12288 * 1005 ↔ (code : Rat) * (1.6 / 16384) ≤ 1.2 * 1.005 := by
    rw [← Nat.cast_le (α := Rat)]
    push_cast
    constructor <;> intro h <;> linarith
  simp only [sarGood, h1, h2, Bool.decide_and]

/-- After a second result of one kind the self-check stands as that result says. -/
theorem judge_second {c : Cond} {ok : Bool} (h : if ok then 1 ≤ c.dn else 1 ≤ c.up) : ((c.count (!ok) ok).judge 2 2).on = !ok := by
  have inc (n : Nat) (hn : 1 ≤ n) : 2 ≤ satInc 1000000 n := by unfold satInc; split <;> omega
  cases ok with
  | true =>
    cases hon : c.on with
    | true => exact judge_clears hon (inc _ h)
    | false => simp [Cond.judge, Cond.count, hon]
  | false =>
    cases hon : c.on with
    | true => simp [Cond.judge, Cond.count, hon]
    | false => exact judge_stands hon (inc _ h)

/-! ### The internal monitors (R248, R297) -/

section
variable {s : State}

theorem dieGuard_eq (hw : s.Works) : dieGuard s =
    setCond Src.DEV_TSHUT 0 (s.aux.dieShut.judge 4 4).on (setCond Src.DEV_TWARN 0 (s.aux.dieWarn.judge 4 4).on
      { s with aux := { s.aux with dieWarn := s.aux.dieWarn.judge 4 4, dieShut := s.aux.dieShut.judge 4 4 } }) :=
  if_neg (by simp [hw.1.1, hw.1.2, hw.2])

theorem devSupply_eq (n : Nat) (hw : s.Works) : devSupply n s =
    setCond Src.DEV_SUPPLY n ((s.aux.supply.getD n Cond.init).judge 4 4).on
      { s with aux := { s.aux with supply := s.aux.supply.set n ((s.aux.supply.getD n Cond.init).judge 4 4) } } :=
  if_neg (by simp [hw.1.1, hw.1.2, hw.2])

theorem dieGuard_only (hw : s.Works) : Only [.aux, .msgs, .stand] s (dieGuard s) := by
  rw [dieGuard_eq hw]
  exact only_then (l := [.aux, .msgs, .stand]) (only_then (l := [.aux]) (upd_aux s _) (setCond_only ..)) (setCond_only ..)

/-- DEV_TWARN and DEV_TSHUT stand as their conditions are judged. -/
theorem dieGuard_stands (hw : s.Works) : ((dieGuard s).Stands 0x07 0 ↔ (s.aux.dieWarn.judge 4 4).on = true) ∧
    ((dieGuard s).Stands 0x08 0 ↔ (s.aux.dieShut.judge 4 4).on = true) := by
  rw [dieGuard_eq hw]
  exact ⟨(setCond_stands_other _ _ (by decide)).trans (setCond_stands_iff ..), setCond_stands_iff ..⟩

theorem devSupply_only (n : Nat) (hw : s.Works) : Only [.aux, .msgs, .stand] s (devSupply n s) := by
  rw [devSupply_eq n hw]
  exact only_then (l := [.aux]) (upd_aux s _) (setCond_only ..)

theorem devSupply_aux (n : Nat) (hw : s.Works) : (devSupply n s).aux = { s.aux with supply := (devSupply n s).aux.supply } := by
  rw [devSupply_eq n hw, only_aux (setCond_only ..)]

theorem devSupply_stands (n : Nat) (hw : s.Works) :
    (devSupply n s).Stands 0x09 n ↔ ((s.aux.supply.getD n Cond.init).judge 4 4).on = true := by
  rw [devSupply_eq n hw]
  exact setCond_stands_iff ..

theorem auxRange_eq (n : Nat) (s : State) : auxRange n s = channelFailed (setCond Src.AUX_RANGE n ((s.aux.range.getD n Cond.init).judge 4 4).on
    { s with aux := { s.aux with range := s.aux.range.set n ((s.aux.range.getD n Cond.init).judge 4 4) } }) := rfl

/-- A channel's range condition is as judged, and AUX_RANGE stands with it (R95). -/
theorem auxRange_judges {n : Nat} (hl : n < s.aux.range.length) :
    ((auxRange n s).aux.range.getD n Cond.init) = (s.aux.range.getD n Cond.init).judge 4 4 ∧
      ((auxRange n s).Stands 0x75 n ↔ ((s.aux.range.getD n Cond.init).judge 4 4).on = true) := by
  rw [auxRange_eq, channelCond_aux]
  exact ⟨by simp [hl], channelCond_stands_iff ..⟩

theorem sarSelfCheck_eq (code : Nat) (hw : sensing s = true) : sarSelfCheck code s =
    channelFailed (setCond Src.SAR_SELF 0 ((s.aux.sarSelf.count (!sarGood code) (sarGood code)).judge 2 2).on
      { s with aux := { s.aux with sarSelf := (s.aux.sarSelf.count (!sarGood code) (sarGood code)).judge 2 2 } }) :=
  if_neg (by simp [hw])

end

end Sys2Proof.Machine

section
open Sys2Proof Sys2Proof.Machine

/-- Settles O34: a conversion by its slot, each condition by how it is judged. -/
theorem auxiliaryConverter : Obligations.AuxiliaryConverter := by
  refine ⟨fun v slot rest s hw hr => ?_, fun n s hs hl hon hup => ?_, fun n s hs hl hon hdn => ?_, fun c b s hw hb h => ?_,
    fun s hw => ?_, fun n s hw => ?_⟩
  · refine ⟨_, next_clocked_of_runs hw.1, ?_⟩
    have hr' : (if s.begin.aux.round = [] then auxRound s.begin else s.begin.aux.round) = slot :: rest := hr
    rw [auxConversion_aux (sensing_begin hw) hr']
    refine ⟨rfl, fun h => ?_, fun h => ?_, fun h => ?_, fun h => ?_, fun h => ?_⟩
    · obtain ⟨hraw, hval⟩ := auxSlot_channel (s := s.begin.roundAt rest) (v := v.toNat) h
      refine ⟨hraw, fun hne => hval.trans ?_⟩
      have ha : 0x0D10 + slot = Pg.SAMP * 256 + (Reg.SAMP_AUXSCALE + slot) := by simp only [Pg.SAMP, Reg.SAMP_AUXSCALE]; omega
      rw [ha] at hne ⊢
      exact congrArg (List.set s.aux.val slot) (if_neg hne)
    · subst h; exact auxSlot_die
    · subst h; exact auxSlot_vcore (s := s.begin.roundAt rest)
    · subst h; exact auxSlot_vana (s := s.begin.roundAt rest)
    · subst h; exact auxSlot_vio (s := s.begin.roundAt rest)
  · obtain ⟨hj, hst⟩ := auxRange_judges (s := s.begin) (n := n) (by simp [hl])
    have hon' := judge_stands (m := 4) hon hup
    exact ⟨_, next_clocked_of_runs hs, (congrArg Cond.on hj).trans hon', hst.2 hon'⟩
  · obtain ⟨hj, hst⟩ := auxRange_judges (s := s.begin) (n := n) (by simp [hl])
    have hon' := judge_clears (n := 4) hon hdn
    exact ⟨_, next_clocked_of_runs hs, (congrArg Cond.on hj).trans hon', fun hx => Bool.false_ne_true (hon'.symm.trans (hst.1 hx))⟩
  · refine ⟨_, next_clocked_of_runs hw.1, ?_⟩
    have hg : sarGood c.toNat = b := (sarGood_eq c.toNat).trans hb.symm
    rw [sarSelfCheck_eq _ (sensing_begin hw), hg, channelCond_aux, channelCond_stands_iff]
    have hj : ((s.aux.sarSelf.count (!b) b).judge 2 2).on = !b := judge_second h
    exact ⟨hj, by simp [hj]⟩
  · obtain ⟨hwarn, hshut⟩ := dieGuard_stands (s := s.begin) hw
    refine ⟨_, next_clocked_of_runs hw.1, ?_, fun hon h => hwarn.2 (judge_stands hon h), fun hon h hx => ?_,
      fun hon h => hshut.2 (judge_stands hon h), fun hon h hx => ?_⟩
    · exact eq_take_of_only (dieGuard_only (s := s.begin) hw)
    · exact Bool.false_ne_true ((judge_clears hon h).symm.trans (hwarn.1 hx))
    · exact Bool.false_ne_true ((judge_clears hon h).symm.trans (hshut.1 hx))
  · have hst := devSupply_stands (s := s.begin) n hw
    refine ⟨_, next_clocked_of_runs hw.1, ?_, fun hon h => hst.2 (judge_stands hon h), fun hon h hx => ?_⟩
    · refine (eq_take_of_only (devSupply_only (s := s.begin) n hw)).trans ?_
      exact congrArg (fun a => ({ s.conds (devSupply n s.begin) with aux := a } : State)) (devSupply_aux (s := s.begin) n hw)
    · exact Bool.false_ne_true ((judge_clears hon h).symm.trans (hst.1 hx))

end
end

section
/-! PROOFS: the analogue and the pulse setpoint inputs (R96, R97). -/

-- The package as one text: its declarations are elaborated one after another, to hold few threads.
set_option Elab.async false

namespace Sys2Proof.Machine

/-! ### Registers of the setpoint inputs -/

section
variable (s : State) (n : Nat)

theorem pg_spaCfg : s.pg Pg.SETIN (Reg.SETIN_SPA_CFG + n) = s.reg (0x0A08 + n) := congrArg s.reg (by simp only [Pg.SETIN, Reg.SETIN_SPA_CFG]; omega)
theorem pg_spaOfs : s.pg Pg.SETIN (Reg.SETIN_SPA_OFS + n) = s.reg (0x0A0C + n) := congrArg s.reg (by simp only [Pg.SETIN, Reg.SETIN_SPA_OFS]; omega)
theorem pg_sppCfg : s.pg Pg.SETIN (Reg.SETIN_SPP_CFG + n) = s.reg (0x0A10 + n) := congrArg s.reg (by simp only [Pg.SETIN, Reg.SETIN_SPP_CFG]; omega)
theorem pg_sppOfs : s.pg Pg.SETIN (Reg.SETIN_SPP_OFS + n) = s.reg (0x0A14 + n) := congrArg s.reg (by simp only [Pg.SETIN, Reg.SETIN_SPP_OFS]; omega)

end

/-! ### Analogue setpoints (R96) -/

section
variable {s : State}

/-- An input after a conversion: its history and the setpoint of the mean of the latest codes. -/
def spaInput (s : State) (n raw : Nat) : Spa :=
  let c := s.reg (0x0A08 + n)
  let hist := (raw :: (s.spa.getD n ⟨[], 0⟩).hist).take 128
  let used := hist.take (2 ^ fld c 26 24)
  ⟨hist, toPU16 (puI (s16 (fld (s.reg (0x0A0C + n)) 15 0)) + bf (setFld c 31 24 0) * ((sumN used : Rat) / (used.length : Rat) * (1.6 / 16384)))⟩

theorem spaConversion_eq (n raw : Nat) (hw : sensing s = true) : spaConversion n raw s =
    if raw = 0x3FFF then event Src.SPA_RANGE n { s with spa := s.spa.set n (spaInput s n raw) }
    else { s with spa := s.spa.set n (spaInput s n raw) } := by
  have hrun : ¬ (!sensing s) = true := by simp [hw]
  unfold spaConversion
  rw [if_neg hrun, pg_spaCfg, pg_spaOfs]
  rfl

theorem spaConversion_only (n raw : Nat) (hw : sensing s = true) : Only [.spa, .msgs] s (spaConversion n raw s) := by
  rw [spaConversion_eq n raw hw]
  exact only_ite (only_then (l := [.spa]) (upd_spa s _) (event_only ..)) (only_mono (upd_spa s _))

theorem spaConversion_spa (n raw : Nat) (hw : sensing s = true) : (spaConversion n raw s).spa = s.spa.set n (spaInput s n raw) := by
  rw [spaConversion_eq n raw hw]
  split
  · exact (event_only _ Src.SPA_RANGE n).2 .spa (by decide)
  · rfl

/-- A code at full scale raises SPA_RANGE. -/
theorem spaConversion_range (n : Nat) (hw : sensing s = true) : (spaConversion n 0x3FFF s).Waits 0x77 0 n := by
  rw [spaConversion_eq n _ hw, if_pos rfl]
  exact event_waits _ _ (sensing_iff.1 hw).1.2

end

/-! ### The glitch filter of a pulse input (R97) -/

section
variable {g h l k i : Nat}

/-- Two levels that the filter lets pass, the first of them high. -/
theorem deglitch_pulse (hh : g ≤ h) (hl : g ≤ l) : deglitch g [(true, h), (false, l)] = [(false, 0), (true, h), (false, l)] := by
  simp [deglitch, Nat.not_lt.2 hh, Nat.not_lt.2 hl]

/-- A level shorter than the filter belongs to the level around it. -/
theorem deglitch_glitch (hh : g ≤ h) (hl : g ≤ l) (hk : k < g) :
    deglitch g [(true, h), (false, k), (true, i), (false, l)] = [(false, 0), (true, h + k + i), (false, l)] := by
  simp [deglitch, Nat.not_lt.2 hh, Nat.not_lt.2 hl, hk]

theorem deglitch_nil (g : Nat) : deglitch g [] = [(false, 0)] := rfl

theorem sppQuiet_pulse (tout q : Nat) (hh : g ≤ h) (hl : g ≤ l) :
    sppQuiet g tout q [(true, h), (false, l)] = (decide (tout ≤ q) && decide (400 * tout ≤ l)) := by
  simp [sppQuiet, deglitch_pulse hh hl]

end

/-! ### Pulse setpoints (R97) -/

section
variable {s : State} {n : Nat}

/-- A pulse input as it stands. -/
abbrev State.sppOf (s : State) (n : Nat) : Spp := s.spp.getD n ⟨0, 0, 0, 0, false⟩

/-- The filter of a pulse input, in CNT. -/
abbrev sppGlitch (s : State) (n : Nat) : Nat := 8 * fld (s.reg (0x0A10 + n)) 27 24

/-- A pulse input after a valid period of `period` CNT, high for `high`. -/
def sppInput (s : State) (n period high : Nat) : Spp :=
  ⟨toPU16 ((high : Rat) / (period : Rat)), toPU16 (puI (s16 (fld (s.reg (0x0A14 + n)) 15 0)) +
    bf (setFld (s.reg (0x0A10 + n)) 31 24 0) * ((high : Rat) / (period : Rat))), 0, 0, false⟩

theorem sppPeriodMeasured_none {l : List (Bool × Nat)} (h : sppPeriod (sppGlitch s n) l = none) : sppPeriodMeasured n l s = s := by
  unfold sppPeriodMeasured
  rw [pg_sppCfg, h]
  split <;> rfl

theorem sppPeriodMeasured_valid {l : List (Bool × Nat)} {p h : Nat} (hw : sensing s = true) (hl : sppPeriod (sppGlitch s n) l = some (p, h))
    (h1 : 4000 ≤ p) (h2 : p ≤ 400000) :
    sppPeriodMeasured n l s = setCond Src.SPP_LOSS n false { s with spp := s.spp.set n (sppInput s n p h) } := by
  have hrun : ¬ (!sensing s) = true := by simp [hw]
  unfold sppPeriodMeasured
  rw [if_neg hrun, pg_sppCfg, pg_sppOfs, hl]
  exact if_pos ⟨h1, h2⟩

theorem sppPeriodMeasured_invalid {l : List (Bool × Nat)} {p h : Nat} (hw : sensing s = true)
    (hl : sppPeriod (sppGlitch s n) l = some (p, h)) (hp : p < 4000 ∨ 400000 < p) :
    sppPeriodMeasured n l s = { s with spp := s.spp.set n { s.sppOf n with bad := satInc 4 (s.sppOf n).bad, quiet := 0 } } := by
  have hrun : ¬ (!sensing s) = true := by simp [hw]
  unfold sppPeriodMeasured
  rw [if_neg hrun, pg_sppCfg, hl]
  exact if_neg (by omega)

/-- An input of which no edge has come for TOUT frames (R97). -/
abbrev sppSilent (s : State) (n : Nat) (l : List (Bool × Nat)) : Bool :=
  sppQuiet (sppGlitch s n) (fld (s.reg (0x0A14 + n)) 31 16) (s.sppOf n).quiet l

theorem sppLoss_stands {l : List (Bool × Nat)} (hb : bit (s.reg (0x0A10 + n)) 31 = true) (hx : (s.sppOf n).loss = false)
    (hq : 4 ≤ (s.sppOf n).bad ∨ sppSilent s n l = true) :
    sppLoss n l s = setCond Src.SPP_LOSS n true { s with spp := s.spp.set n { s.sppOf n with loss := true } } := by
  unfold sppLoss
  rw [pg_sppCfg, pg_sppOfs]
  exact if_pos (by simp only [hb, hx, Bool.not_false, Bool.true_and, Bool.or_eq_true, decide_eq_true_eq]; exact hq)

theorem sppLoss_not {l : List (Bool × Nat)} (hb : (s.sppOf n).bad < 4) (hq : sppSilent s n l = false) : sppLoss n l s = s := by
  have hbad : decide (4 ≤ (s.sppOf n).bad) = false := decide_eq_false (by omega)
  unfold sppLoss
  rw [pg_sppCfg, pg_sppOfs]
  exact if_neg (by simp only [hbad, hq, Bool.or_false, Bool.and_false]; decide)

theorem setSpp_only (l : List Spp) (src addr : Nat) (on : Bool) : Only [.spp, .msgs, .stand] s (setCond src addr on { s with spp := l }) :=
  only_then (l := [.spp]) (upd_spp s l) (setCond_only ..)

theorem setSpp_spp (l : List Spp) (src addr : Nat) (on : Bool) : (setCond src addr on { s with spp := l }).spp = l :=
  (setCond_only { s with spp := l } src addr on).2 .spp (by decide)

end

end Sys2Proof.Machine

section
open Sys2Proof Sys2Proof.Machine

/-- Settles O35: an analogue conversion by the input it leaves, the filter by its fold over the levels, a measured period by its length, the
loss by its condition. -/
theorem setpointInputs : Obligations.SetpointInputs := by
  refine ⟨fun n c s hw => ?_, fun g h l k i hh hl hk => ⟨?_, ?_⟩, fun n a x s h => ?_, fun n a x p h s hw hl h1 h2 => ?_,
    fun n a x p h s hw hl hp => ?_, fun n l s hs hb hx hq => ?_, fun g tout q => ?_, fun g tout q a b ha hb _ _ => sppQuiet_pulse tout q ha hb,
    fun n l s hb hq => ?_⟩
  · have hse : sensing s.begin = true := sensing_begin hw
    refine ⟨spaConversion n c.toNat s.begin, _, next_clocked_of_runs hw.1, eq_take_of_only (spaConversion_only _ _ hse), rfl,
      spaConversion_spa _ _ hse, fun hc => ?_⟩
    rw [hc]
    exact spaConversion_range n hse
  · simp [sppPeriod, deglitch_pulse hh hl]
  · simp [sppPeriod, deglitch_glitch hh hl hk]
  · refine congrArg Host.Outcome.next ?_
    unfold clocked
    split
    · rfl
    · exact sppPeriodMeasured_none (s := s.begin) h
  · have he := sppPeriodMeasured_valid (s := s.begin) (sensing_begin hw) hl h1 h2
    refine ⟨_, (next_clocked_of_runs hw.1).trans (congrArg _ he), eq_take_of_only (setSpp_only (s := s.begin) ..), setSpp_spp .., setCond_off_stand⟩
  · exact (next_clocked_of_runs hw.1).trans (congrArg _ (sppPeriodMeasured_invalid (s := s.begin) (sensing_begin hw) hl hp))
  · have he := sppLoss_stands (s := s.begin) hb hx hq
    exact ⟨_, (next_clocked_of_runs hs).trans (congrArg _ he), eq_take_of_only (setSpp_only (s := s.begin) ..), setCond_on_stand, setSpp_spp ..⟩
  · simp [sppQuiet, deglitch_nil]
  · refine congrArg Host.Outcome.next ?_
    unfold clocked
    split
    · rfl
    · exact sppLoss_not (s := s.begin) hb hq

end
end

section
/-! PROOFS: the angle tracker: edges, lock, missed periods, loss of lock (R100, R191-R196, R204). -/

-- The package as one text: its declarations are elaborated one after another, to hold few threads.
set_option Elab.async false

namespace Sys2Proof.Machine

/-! ### Folds that change every rail -/

/-- Every rail below `n` is changed once, where the change reads nothing that the changes move. -/
theorem rail_loop_modRail {s : State} {f : State → Rail → Rail} (hf : ∀ u, Only [.rails] s u → f u = f s) (n : Nat) {r : Nat} (hr : r < 16) :
    (loop n (fun u r => u.modRail r (f u)) s).rail r = if r < n then f s (s.rail r) else s.rail r := by
  induction n with
  | zero => rfl
  | succ n ih =>
    have ho : Only [.rails] s (loop n (fun u r => u.modRail r (f u)) s) := only_loop (fun u r => modRail_only u r _) n
    have hl : loop (n + 1) (fun u r => u.modRail r (f u)) s = (loop n (fun u r => u.modRail r (f u)) s).modRail n (f s) := by
      rw [← hf _ ho]
      simp only [loop, List.range_succ, List.foldl_append, List.foldl_cons, List.foldl_nil]
    rw [hl, rail_modRail, ih]
    rcases Nat.lt_trichotomy r n with h | h | h
    · simp [h, h.ne', h.trans (Nat.lt_succ_self n)]
    · subst h; simp [hr]
    · simp [h.ne, h.not_gt, Nat.not_lt.2 h]

/-! ### A valid edge (R193, R194) -/

/-- The blend's length for a GRID_CFG word (R203). -/
def lenOf (w : Word) : Nat := if bit w 31 then 133336 else 160000

theorem lenOf_ne_zero (w : Word) : ((lenOf w : Nat) : Rat) ≠ 0 := by unfold lenOf; split <;> norm_num

/-- A length that does not change leaves the weight. -/
theorem weight_same (w : Word) (n : Nat) : (roundAway ((n * lenOf w : Nat) / ((lenOf w : Nat) : Rat))).toNat = n := by
  have h : ((n * lenOf w : Nat) : Rat) / ((lenOf w : Nat) : Rat) = ((n : Int) : Rat) := by
    push_cast
    exact mul_div_cancel_right₀ _ (lenOf_ne_zero w)
  rw [h, roundAway_intCast]
  rfl

/-- The blend weights keep their share of the blend's length where a word of GRID_CFG with another nominal frequency comes into force. -/
def reweigh (w : Word) (s : State) : State :=
  if bit w 31 == bit s.grid.cfg 31 then s
  else loop 16 (fun s r => s.modRail r fun x =>
    { x with w := (roundAway ((x.w * lenOf w : Nat) / ((lenOf s.grid.cfg : Nat) : Rat))).toNat }) s

theorem reweigh_only (w : Word) (s : State) : Only [.rails] s (reweigh w s) :=
  only_ite only_refl (only_loop (fun u r => modRail_only u r _) 16)

theorem reweigh_of_same {w : Word} {s : State} (h : bit w 31 = bit s.grid.cfg 31) : reweigh w s = s := if_pos (beq_iff_eq.2 h)

theorem reweigh_rail {r : Nat} (hr : r < 16) (w : Word) (s : State) : (reweigh w s).rail r =
    { s.rail r with w := (roundAway (((s.rail r).w * lenOf w : Nat) / ((lenOf s.grid.cfg : Nat) : Rat))).toNat } := by
  unfold reweigh
  split
  · next h =>
    have hl : lenOf w = lenOf s.grid.cfg := by simp only [lenOf, eq_of_beq h]
    rw [hl, weight_same]
  · refine (rail_loop_modRail (f := fun (u : State) (x : Rail) =>
      { x with w := (roundAway ((x.w * lenOf w : Nat) / ((lenOf u.grid.cfg : Nat) : Rat))).toNat }) (fun u hu => ?_) 16 hr).trans (if_pos hr)
    rw [only_grid hu]

section
variable {s : State} {t d : Nat}

/-- A valid edge moves the tracker and the blend weights (R193, R204). -/
theorem gridStep_only : Only [.grid, .rails] s (gridStep t d s) :=
  only_then (l := [.rails]) (m := [.grid]) (reweigh_only (s.pg Pg.GRID Reg.GRID_CFG) s) (upd_grid _ _)

theorem gridStep_rails : (gridStep t d s).rails = (reweigh (s.pg Pg.GRID Reg.GRID_CFG) s).rails := rfl
theorem gridStep_zcFrame : (gridStep t d s).grid.zcFrame = s.grid.zcFrame := rfl
theorem gridStep_zcCnt : (gridStep t d s).grid.zcCnt = s.grid.zcCnt := rfl
theorem gridStep_ref : (gridStep t d s).grid.ref = some t := rfl
theorem gridStep_per : (gridStep t d s).grid.per = d := rfl
theorem gridStep_valid : (gridStep t d s).grid.valid = true := rfl
theorem gridStep_cfg : (gridStep t d s).grid.cfg = s.pg Pg.GRID Reg.GRID_CFG := rfl
theorem gridStep_fEst (h : s.grid.lock = false) : (gridStep t d s).grid.fEst = 400000000 / (d : Rat) := if_neg (Bool.eq_false_iff.1 h)

end

/-! ### The classes of an edge (R191) -/

section
variable {s : State} {f c a high : Nat}

/-- The state with an accepted edge's time stamp. -/
def stamped (f c : Nat) (s : State) : State := { s with grid := { s.grid with zcFrame := f, zcCnt := c } }

theorem gridzcEdge_glitch (h : high < 8 * fld (s.reg 0x0A20) 7 0) : gridzcEdge f c high s = s :=
  if_pos (Bool.or_eq_true_iff.2 (.inr (decide_eq_true h)))

/-- An edge after which the pin stays high long enough is stamped and classed by its distance from the reference edge. -/
theorem gridzcEdge_stamped (hw : sensing s = true) (h : 8 * fld (s.reg 0x0A20) 7 0 ≤ high) :
    gridzcEdge f c high s =
      match s.grid.ref with
      | none => { stamped f c s with grid := { (stamped f c s).grid with ref := some (f * 400 + c) } }
      | some a =>
        if f * 400 + c - a < 5714286 then
          event Src.GRID_EDGE_REJ 0 { stamped f c s with grid := { (stamped f c s).grid with rej := satInc 0xFFFF s.grid.rej } }
        else if f * 400 + c - a ≤ 10000000 then gridStep (f * 400 + c) (f * 400 + c - a) (stamped f c s)
        else { stamped f c s with grid := { (stamped f c s).grid with ref := some (f * 400 + c), lcnt := 0, missed := 0 } } := by
  have hlt : decide (high < 8 * fld (s.pg Pg.SETIN Reg.SETIN_ZCFILT) 7 0) = false := decide_eq_false (Nat.not_lt.2 h)
  unfold gridzcEdge
  rw [if_neg (by rw [hw, hlt]; decide)]
  rfl

/-- What an edge beside a reference edge leaves, by its distance from it. -/
structure SecondEdge (s : State) (t a : Nat) (u : State) : Prop where
  only : Only [.grid, .rails, .msgs] s u
  rails : bit (s.reg 0x0B08) 31 = bit s.grid.cfg 31 ∨ u.grid.ref = some a ∨ 10000000 < t - a → u.rails = s.rails
  near : t - a < 5714286 → u.Waits 0x06 0 0 ∧ u.grid.ref = some a ∧ u.grid.rej = satInc 65535 s.grid.rej ∧ u.grid.fRun = s.grid.fRun
  inRange : 5714286 ≤ t - a → t - a ≤ 10000000 → u.grid.ref = some t ∧
    (∀ r < 16, u.rail r = { s.rail r with w := (roundAway (((s.rail r).w * blendLen u : Nat) / ((blendLen s : Nat) : Rat))).toNat }) ∧
    u.grid.per = t - a ∧ u.grid.valid = true ∧ u.fc.pend = s.fc.pend ∧ (s.grid.lock = false → u.grid.fEst = 400000000 / ((t - a : Nat) : Rat))
  far : 10000000 < t - a → u.grid.ref = some t ∧ u.grid.lcnt = 0 ∧ u.fc.pend = s.fc.pend

theorem gridStep_second {t a : Nat} (h1 : 5714286 ≤ t - a) (h2 : t - a ≤ 10000000) :
    SecondEdge s t a (gridStep t (t - a) s) := by
  refine ⟨only_mono gridStep_only, fun h => ?_, fun h => by omega, fun _ _ => ⟨gridStep_ref, fun r hr => ?_, gridStep_per, gridStep_valid,
    only_msgs gridStep_only, gridStep_fEst⟩, fun h => by omega⟩
  · rcases h with h | h | h
    · exact gridStep_rails.trans (congrArg State.rails (reweigh_of_same h))
    · have : t = a := Option.some.inj (gridStep_ref.symm.trans h)
      omega
    · omega
  · have hrail : (gridStep t (t - a) s).rail r = (reweigh (s.reg 0x0B08) s).rail r := by simp only [State.rail, gridStep_rails]; rfl
    rw [hrail, reweigh_rail hr, blendLen, gridStep_cfg]
    rfl

/-- Each class of a later edge (R191). -/
theorem gridzcEdge_second (hw : sensing s = true) (h : 8 * fld (s.reg 0x0A20) 7 0 ≤ high) (ha : s.grid.ref = some a) :
    SecondEdge s (f * 400 + c) a (gridzcEdge f c high s) ∧ (gridzcEdge f c high s).grid.zcFrame = f ∧
      (gridzcEdge f c high s).grid.zcCnt = c := by
  have hst : Only [.grid] s (stamped f c s) := upd_grid s _
  rw [gridzcEdge_stamped hw h, ha]
  dsimp only
  split
  · next hd =>
    have he := event_only { stamped f c s with grid := { (stamped f c s).grid with rej := satInc 0xFFFF s.grid.rej } } Src.GRID_EDGE_REJ 0
    have hall := only_then (l := [.grid]) (n := [.grid, .msgs]) (upd_grid s _) he
    have hg := only_grid he
    rw [hg]
    refine ⟨⟨only_mono hall, fun _ => only_rails hall, fun _ => ⟨event_waits _ _ (sensing_iff.1 hw).1.2, ?_⟩,
      fun _ => by omega, fun _ => by omega⟩, rfl, rfl⟩
    rw [hg]
    exact ⟨ha, rfl, rfl⟩
  · next hd =>
    split
    · next hd' =>
      obtain ⟨ho, hr, hn, hi, hf⟩ := gridStep_second (s := stamped f c s) (t := f * 400 + c) (Nat.not_lt.1 hd) hd'
      exact ⟨⟨only_then hst ho, hr, hn, hi, hf⟩, gridStep_zcFrame, gridStep_zcCnt⟩
    · next hd' =>
      exact ⟨⟨only_mono (l := [.grid]) (upd_grid s _), fun _ => rfl, fun _ => by omega, fun _ => by omega, fun _ => ⟨rfl, rfl, rfl⟩⟩, rfl, rfl⟩

end

/-! ### Lock, missed periods, loss of lock (R194, R195) -/

section
variable {s : State}

theorem gridLock_eq (hw : sensing s = true) (hl : s.grid.lock = false) (h0 : s.grid.lcnt ≠ 0) (hn : fld s.grid.cfg 23 20 ≤ s.grid.lcnt) :
    gridLock s = event Src.GRID_LOCK 0 { s with grid := { s.grid with lock := true, tooFar := false } } :=
  if_neg (by simp [hw, hl, h0, hn])

theorem missedPeriod_eq {a : Nat} (hw : sensing s = true) (ha : s.grid.ref = some a)
    (hd : (5 / 4 + (if s.grid.lock then (s.grid.missed : Rat) else 0)) * 400000000 / estNow s ≤ ((s.dev.frame * 400 : Nat) : Rat) - (a : Rat)) :
    missedPeriod s = { s with
      grid := if s.grid.lock then { s.grid with mcnt := satInc 15 s.grid.mcnt, missed := s.grid.missed + 1 } else { s.grid with lcnt := 0 } } := by
  unfold missedPeriod
  rw [ha]
  dsimp only
  rw [if_neg (by simpa [hw] using hd)]
  split <;> rfl

/-- A loss of lock goes to holdover at the estimated frequency (R195). -/
theorem gridUnlock_eq (hw : sensing s = true) (hl : s.grid.lock = true) (h : fld s.grid.cfg 27 24 ≤ s.grid.mcnt ∨ s.grid.tooFar = true) :
    ∃ g, g.lock = false ∧ g.fRun = s.grid.fEst ∧ g.ulk = satInc 65535 s.grid.ulk ∧
      gridUnlock s = event Src.GRID_UNLOCK (if fld s.grid.cfg 27 24 ≤ s.grid.mcnt then 0 else 1) { s with grid := g } := by
  have hc : ¬ (!sensing s || !s.grid.lock || !(decide (fld s.grid.cfg 27 24 ≤ s.grid.mcnt) || s.grid.tooFar)) = true := by
    simpa [hw, hl, or_iff_not_imp_left] using h
  unfold gridUnlock
  dsimp only
  rw [if_neg hc]
  simp only [decide_eq_true_eq]
  exact ⟨_, rfl, rfl, rfl, rfl⟩

end

end Sys2Proof.Machine

section
open Sys2Proof Sys2Proof.Machine

/-- Settles O36: an edge by its class, the lock and its loss by their conditions. -/
theorem angleTracker : Obligations.AngleTracker := by
  refine ⟨fun f c a hi s hw hh ha => ?_, fun s hw hl h0 hn => ?_, fun a s hw ha hd => ?_, fun s hw hl h => ?_, fun f c hi s hh => ?_,
    fun f c hi s hw hh ha => ?_⟩
  · obtain ⟨⟨ho, hr, hnear, hin, hfar⟩, hzf, hzc⟩ :=
      gridzcEdge_second (s := s.begin none (some (f * 400 + c))) (f := f) (c := c) (sensing_begin hw) hh ha
    exact ⟨_, next_clocked_of_runs hw.1, eq_take_of_only ho, hr, hzf, hzc, hnear, hin, hfar⟩
  · refine ⟨_, (next_clocked_of_runs hw.1).trans (congrArg _ (gridLock_eq (s := s.begin) (sensing_begin hw) hl h0 hn)),
      event_waits _ _ hw.1.2, eq_take_of_only (event_only _ _ _)⟩
  · exact (next_clocked_of_runs hw.1).trans (congrArg _ (missedPeriod_eq (s := s.begin) (sensing_begin hw) ha hd))
  · obtain ⟨g, hlock, hrun, hulk, he⟩ := gridUnlock_eq (s := s.begin) (sensing_begin hw) hl h
    have ho := event_only { s.begin with grid := g } Src.GRID_UNLOCK (if fld s.grid.cfg 27 24 ≤ s.grid.mcnt then 0 else 1)
    have hall := only_then (l := [.grid]) (n := [.grid, .msgs]) (upd_grid s.begin g) ho
    have hg := only_grid ho
    exact ⟨_, (next_clocked_of_runs hw.1).trans (congrArg _ he), eq_take_of_only hall, (congrArg Grid.lock hg).trans hlock,
      (congrArg Grid.fRun hg).trans hrun, (congrArg Grid.ulk hg).trans hulk, event_waits _ _ hw.1.2⟩
  · refine congrArg Host.Outcome.next ?_
    unfold clocked
    split
    · rfl
    · exact gridzcEdge_glitch (s := s.begin none (some (f * 400 + c))) hh
  · refine (next_clocked_of_runs hw.1).trans (congrArg _ ((gridzcEdge_stamped (sensing_begin hw) hh).trans ?_))
    rw [begin_grid, ha]
    rfl

end
end

section
/-! PROOFS: ENG_DBG and ENG_CLR: halt, release and clears of the engine (R92, R128, R140, R141, R145, R161, R163). -/

-- The package as one text: its declarations are elaborated one after another, to hold few threads.
set_option Elab.async false

namespace Sys2Proof.Machine

/-! ### What the lanes have taken, past an access (R138, R404) -/

theorem perfAdd_runs {chain counts : Nat → Bool} (fuel i n : Nat) (x : Perf) : (Perf.add chain counts fuel i n x).runs = x.runs := by
  induction fuel generalizing i n x with
  | zero => rfl
  | succ fuel ih =>
    unfold Perf.add
    dsimp only
    split
    · rfl
    · split
      · split
        · exact ih _ _ _
        · rfl
      · rfl

theorem addTo_runs (s : State) (which : Nat → Bool) (n : Nat) : (s.addTo which n).runs = s.perf.runs := by
  unfold State.addTo
  refine foldl_keeps (P := fun x : Perf => x.runs = s.perf.runs) (fun x i h => ?_) _ rfl
  split
  · rw [perfAdd_runs, h]
  · exact h

theorem perf_runs (evt inst n : Nat) (s : State) : (perf evt inst n s).perf.runs = s.perf.runs := by
  unfold perf
  split
  · rfl
  · exact addTo_runs _ _ _

theorem skipNamed_runs (a : Nat) (w : Word) (s : State) : (skipNamed a w s).perf.runs = s.perf.runs := by
  unfold skipNamed
  split
  · rfl
  · split <;> rfl

/-- An access takes no update off its lane and none onto one. -/
theorem written_onLane (s : State) (h : Fin 3) (a : Nat) (w : Word) (row : RegRow) :
    (s.written h a w row).perf.onLane = (s.begin h).perf.onLane := by
  have e : (s.written h a w row).perf.runs = (s.begin h).perf.runs := (perf_runs _ _ _ _).trans (skipNamed_runs _ _ _)
  funext q
  simp only [Perf.onLane, e]

/-! ### Changes of several generators -/

/-- A fold of changes of generators that depend on no phase changes each of those it names once. -/
theorem ph_fold_modGen {g : State → Nat → Gen → Gen} {p : Nat} (hp : p < 48) {l : List Nat} (hl : l.Nodup) (s : State)
    (hg : ∀ u, Only [.phases] s u → g u = g s) :
    (l.foldl (fun s q => s.modGen q (g s q)) s).ph p =
      if p ∈ l then { s.ph p with gen := g s p (s.ph p).gen } else s.ph p := by
  induction l generalizing s with
  | nil => rfl
  | cons a l ih =>
    obtain ⟨ha, hl⟩ := List.nodup_cons.1 hl
    have hs : Only [.phases] s (s.modGen a (g s a)) := modGen_only s a _
    rw [List.foldl_cons, ih hl _ fun u hu => (hg u (only_trans hs hu)).trans (hg _ hs).symm, hg _ hs, ph_modGen]
    by_cases h : p = a
    · subst h
      simp [ha, hp]
    · simp [h, Ne.symm h]

/-- The reference instant of a phase that refAll names is the instant; the others keep theirs. -/
theorem ph_refAll (f : Nat → Bool) (t : Nat) (s : State) {p : Nat} (hp : p < 48) :
    (refAll f t s).ph p = if f p then { s.ph p with gen := { (s.ph p).gen with ref := some t } } else s.ph p := by
  unfold refAll loop
  rw [← List.foldl_filter, ph_fold_modGen (g := fun _ _ x => { x with ref := some t }) hp (List.nodup_range.filter _) s fun _ _ => rfl]
  simp [hp]

/-- Phases that start in manual duty take the instant, or the one that DRVEN gives them (R27). -/
theorem ph_fold_startManual {l : List Nat} (hl : l.Nodup) (t : Nat) (s : State) {p : Nat} (hp : p < 48) :
    (l.foldl (startManual t) s).ph p = if p ∈ l then
      { s.ph p with gen := { (s.ph p).gen with ref := some (max t ((s.dom (domOfPh s p)).drvRise + 800)) } } else s.ph p :=
  ph_fold_modGen (g := fun s p x => { x with ref := some (max t ((s.dom (domOfPh s p)).drvRise + 800)) }) hp hl s
    fun u hu => by rw [eq_take_of_only hu]; rfl

theorem startManual_only (t : Nat) (s : State) (p : Nat) : Only [.phases] s (startManual t s p) := modGen_only s p _

/-! ### The state of a generator (R126) -/

/-- The row of R126 of a generator reads neither its count nor its reference instant. -/
theorem gst_congr {s t : State} (ho : Only [.phases] s t) {p : Nat} {c : Nat} {f : Option Nat}
    (hp : t.ph p = { s.ph p with gen := { (s.ph p).gen with count := c, ref := f } }) : gst t p = gst s p := by
  have e : t = s.take [.phases] t := eq_take_of_only ho
  have e1 : allFrozen t = allFrozen s := by rw [e]; rfl
  have e2 : enOf t p = enOf s p := by rw [e]; rfl
  have e3 : t.dev = s.dev := by rw [e]; rfl
  have e4 : railOf t p = railOf s p := by rw [e]; rfl
  have e5 : tripped t p = tripped s p := by rw [e]; rfl
  have e6 : t.rail = s.rail := by rw [e]; rfl
  unfold gst
  rw [e1, e2, e3, e4, e5, e6, hp]

/-- Where every generator is frozen, each shows it, and none drives. -/
theorem gst_of_allFrozen {s : State} (h : allFrozen s = true) (p : Nat) : gst s p = .frozen := if_pos h

theorem quiet_of_allFrozen {s : State} (h : allFrozen s = true) : s.Quiet :=
  fun hs _ _ => pins_hiZ hs (.inr (by rw [gst_of_allFrozen h]; decide))

/-! ### Halt (R92, R128, R161) -/

/-- A frozen generator keeps its count, and converts no control sample any more. -/
theorem freezeAll_ph (s : State) {p : Nat} (hp : p < 48) :
    (freezeAll s).ph p = { s.ph p with gen := (s.ph p).gen.freeze, sampled := false, converting := false } := by
  simp [freezeAll, State.ph, hp]

theorem isReg_engDbg : IsReg 0x0E10 .eng 0 (PType.eng.rowAt 0x10) := ⟨by decide, by decide, by decide, by decide⟩
theorem isReg_engClr : IsReg 0x0E0F .eng 0 (PType.eng.rowAt 0x0F) := ⟨by decide, by decide, by decide, by decide⟩

theorem haltEngine_only (s : State) : Only [.eng, .phases, .msgs] s (haltEngine s) := by
  unfold haltEngine
  dsimp only
  refine only_ite only_refl ?_
  exact only_then (m := [.phases, .msgs]) (upd_eng s _) (only_then (freezeAll_only _) (event_only _ _ _))

theorem engineHalt_acts {h : Fin 3} {s : State} (ht : s.Takes h 0x0E10 1) (hr : s.eng.haltReq = false) :
    ∃ t, exec (.engineHalt h) s = .next t ∧ SameRegs [0x0E10] s t ∧ t.Quiet ∧ (∀ p < 48, gst t p = .frozen) ∧ t.Waits 0x62 0 0 ∧
      t = { s.wrote t with
        eng := { s.eng with haltReq := true, halted := true, queue := s.eng.queue.filter (s.begin h).perf.onLane }, phases := t.phases
        fc := { s.fc with pend := t.fc.pend } } ∧
      ∀ p < 48, (t.ph p).gen.count = (s.ph p).gen.count ∧ (t.ph p).converting = false := by
  obtain ⟨u, hu⟩ : ∃ u, u = s.written h 0x0E10 1 (PType.eng.rowAt 0x10) := ⟨_, rfl⟩
  have hreq : u.eng.haltReq = false := hu ▸ hr
  obtain ⟨v, hv⟩ : ∃ v, v = freezeAll { u with
      eng := { u.eng with haltReq := true, halted := true, queue := u.eng.queue.filter u.perf.onLane } } := ⟨_, rfl⟩
  have hhalt : haltEngine u = event 0x62 0 v := by
    rw [haltEngine, if_neg (by simp [hreq]), hv]
  obtain ⟨t, htdef⟩ : ∃ t, t = event 0x62 0 v := ⟨_, rfl⟩
  have hvt : Only [.msgs] v t := htdef ▸ event_only _ _ _
  have hfrozen : allFrozen t = true := by
    have e : t.eng = v.eng := only_eng hvt
    simp [allFrozen, e, hv, freezeAll]
  have heng : t.eng = { s.eng with haltReq := true, halted := true, queue := s.eng.queue.filter (s.begin h).perf.onLane } := by
    rw [only_eng hvt, hv, hu, written_onLane]
    rfl
  have hot : Only [.eng, .phases, .msgs] u t := by
    rw [htdef, ← hhalt]
    exact haltEngine_only u
  refine ⟨t, ?_, fun k hk => ?_, quiet_of_allFrozen hfrozen, fun p _ => gst_of_allFrozen hfrozen p, ?_, ?_, fun p hp => ?_⟩
  · have hw := writeCmd_reg isReg_engDbg (by decide) ht
    refine congrArg Host.Outcome.next (hw.trans ?_)
    rw [← hu, htdef, ← hhalt]
    rfl
  · rw [only_reg hot, hu]
    exact written_sameRegs k hk
  · rw [htdef]
    refine event_waits _ _ ?_
    rw [hv, hu]
    exact ht.1.1.2
  · have e := written_frame [.eng, .phases, .msgs] (only_mono (hu ▸ hot))
    rw [← heng]
    exact e
  · rw [only_ph hvt, hv, freezeAll_ph _ hp, hu]
    exact ⟨rfl, rfl⟩

/-! ### Release (R27, R128, R163) -/

/-- The instant at which the generator of a phase starts when every generator restarts with the next frame edge (R27, R128). -/
def restartRef (s : State) (p : Nat) : Nat :=
  if railOf s p = none then max (nextCnt s) ((s.dom (domOfPh s p)).drvRise + 800) else nextCnt s

/-- The engine out of a halt. -/
def State.unhalted (s : State) : State := { s with eng := { s.eng with haltReq := false, halted := false } }

/-- Every count 0. -/
def zeroCounts (s : State) : State := { s with phases := s.phases.map fun x => { x with gen := { x.gen with count := 0 } } }

/-- The generator of a phase starts when all restart: it is not in STOP and waits for no first set. -/
def restarts (s : State) (p : Nat) : Bool := gst s p != .stop && !(s.ph p).joining

/-- The generators that are not in STOP restart from count 0 with the next frame edge. -/
def restartAll (s : State) : State :=
  let v := zeroCounts s
  let w := refAll (fun p => restarts v p && (railOf v p).isSome) (nextCnt v) v
  ((List.range 48).filter fun p => restarts v p && (railOf w p).isNone).foldl (startManual (nextCnt w)) w

theorem releaseEngine_eq {s : State} (h : s.eng.haltReq = true) :
    releaseEngine s = if allFrozen s.unhalted then s.unhalted else restartAll s.unhalted := by
  unfold releaseEngine
  rw [if_neg (by simp [h])]
  rfl

theorem zeroCounts_ph (s : State) {p : Nat} (hp : p < 48) :
    (zeroCounts s).ph p = { s.ph p with gen := { (s.ph p).gen with count := 0 } } := by
  simp [zeroCounts, State.ph, hp]

theorem restartAll_only (s : State) : Only [.phases] s (restartAll s) :=
  only_trans (upd_phases _ _) (only_trans (refAll_only _ _ _) (only_foldl (fun u p => startManual_only _ u p) _))

/-- The generators that restart have their instant, the others keep theirs. -/
theorem restartAll_ref (s : State) {p : Nat} (hp : p < 48) :
    (restartAll s).ph p = if restarts (zeroCounts s) p then
      { (zeroCounts s).ph p with gen := { ((zeroCounts s).ph p).gen with ref := some (restartRef s p) } } else (zeroCounts s).ph p := by
  unfold restartAll
  dsimp only
  obtain ⟨v, hv⟩ : ∃ v, v = zeroCounts s := ⟨_, rfl⟩
  obtain ⟨w, hwdef⟩ : ∃ w, w = refAll (fun p => restarts v p && (railOf v p).isSome) (nextCnt v) v := ⟨_, rfl⟩
  rw [← hv, ← hwdef]
  have hsv : Only [.phases] s v := hv ▸ upd_phases _ _
  have hvw : Only [.phases] s w := only_trans hsv (hwdef ▸ refAll_only _ _ _)
  have hvr : railOf v p = railOf s p := by rw [eq_take_of_only hsv]; rfl
  have hvn : nextCnt v = nextCnt s := by rw [eq_take_of_only hsv]; rfl
  have hrail : railOf w p = railOf s p := by rw [eq_take_of_only hvw]; rfl
  have hdom : (w.dom (domOfPh w p)).drvRise = (s.dom (domOfPh s p)).drvRise := by rw [eq_take_of_only hvw]; rfl
  have hnext : nextCnt w = nextCnt s := by rw [eq_take_of_only hvw]; rfl
  have hw : w.ph p = if restarts v p && (railOf s p).isSome then
      { v.ph p with gen := { (v.ph p).gen with ref := some (nextCnt s) } } else v.ph p := by
    rw [hwdef, ph_refAll _ _ v hp, hvr, hvn]
  rw [ph_fold_startManual (List.nodup_range.filter _) _ _ hp, hdom, hnext, hw]
  simp only [List.mem_filter, List.mem_range, hp, true_and, hrail, Bool.and_eq_true, restartRef]
  cases hr : railOf s p with
  | none => simp
  | some r => simp

/-- Every count is 0, and the generators that go have their instant. -/
theorem restartAll_ph (s : State) {p : Nat} (hp : p < 48) :
    (restartAll s).ph p = { s.ph p with gen := { (s.ph p).gen with
      count := 0
      ref := if gst (restartAll s) p = .stop ∨ (s.ph p).joining then (s.ph p).gen.ref else some (restartRef s p) } } := by
  have href := restartAll_ref s hp
  have hz := zeroCounts_ph s hp
  have hgst : gst (restartAll s) p = gst (zeroCounts s) p := by
    refine (gst_congr (restartAll_only s) (c := 0) (f := ((restartAll s).ph p).gen.ref) ?_).trans
      (gst_congr (upd_phases s _) (c := 0) (f := (s.ph p).gen.ref) hz).symm
    rw [href, hz]
    split <;> rfl
  have hre : restarts (zeroCounts s) p = !decide (gst (restartAll s) p = .stop ∨ (s.ph p).joining) := by
    rw [hgst, restarts, hz]
    by_cases hg : gst (zeroCounts s) p = .stop <;> simp [hg]
  rw [href, hz, hre]
  by_cases hc : gst (restartAll s) p = .stop ∨ (s.ph p).joining <;> simp [hc]

theorem engineRelease_acts {h : Fin 3} {s : State} (ht : s.Takes h 0x0E10 0) (hr : s.eng.haltReq = true) :
    ∃ t, exec (.engineRelease h) s = .next t ∧ SameRegs [0x0E10] s t ∧
      t = { s.wrote t with eng := { s.eng with haltReq := false, halted := false }, phases := t.phases } ∧
      (if allFrozen { s with eng := { s.eng with haltReq := false, halted := false } } then t.phases = s.phases
       else ∀ p < 48, t.ph p = { s.ph p with gen := { (s.ph p).gen with
         count := 0
         ref := if gst t p = .stop ∨ (s.ph p).joining then (s.ph p).gen.ref
                else if railOf s p = none then some (max ((s.dev.frame + 1) * 400) ((s.dom (domOfPh s p)).drvRise + 800))
                else some ((s.dev.frame + 1) * 400) } }) := by
  obtain ⟨u, hu⟩ : ∃ u, u = s.written h 0x0E10 0 (PType.eng.rowAt 0x10) := ⟨_, rfl⟩
  obtain ⟨t, htdef⟩ : ∃ t, t = if allFrozen u.unhalted then u.unhalted else restartAll u.unhalted := ⟨_, rfl⟩
  have hot : Only [.phases] u.unhalted t := htdef ▸ only_ite only_refl (restartAll_only _)
  have hout : Only [.eng, .phases] u t := only_then (upd_eng u _) hot
  have heng : t.eng = { s.eng with haltReq := false, halted := false } := by
    rw [only_eng hot, hu]
    rfl
  have hfro : allFrozen u.unhalted = allFrozen s.unhalted := by rw [hu]; rfl
  refine ⟨t, ?_, fun k hk => ?_, ?_, ?_⟩
  · have hw := writeCmd_reg isReg_engDbg (by decide) ht
    refine congrArg Host.Outcome.next (hw.trans ?_)
    rw [htdef, ← releaseEngine_eq (hu ▸ hr), ← hu]
    rfl
  · rw [only_reg hout, hu]
    exact written_sameRegs k hk
  · have e := written_frame [.eng, .phases] (only_mono (hu ▸ hout))
    rw [← heng]
    exact e
  · show if allFrozen s.unhalted then _ else _
    rw [hfro] at htdef
    by_cases hf : allFrozen s.unhalted = true
    · rw [if_pos hf] at htdef ⊢
      rw [htdef, hu]
      rfl
    · rw [if_neg hf] at htdef ⊢
      intro p hp
      have hph : u.unhalted.ph p = s.ph p := by rw [hu]; rfl
      have hcfg : u.pr p 0x08 = s.pr p 0x08 := by
        rw [hu]
        exact written_reg_ne (show (0x20 + p) * 256 + 0x08 ≠ 0x0E10 by omega)
      have href : restartRef u.unhalted p = restartRef s p := by
        have hrail : railOf u.unhalted p = railOf s p := railOf_congr hcfg
        unfold restartRef
        rw [hrail]
        cases hr : railOf s p with
        | none =>
          have hdom : domOfPh u.unhalted p = domOfPh s p := by
            simp only [domOfPh, hrail, hr]
            exact congrArg (fld · 9 8) hcfg
          rw [hdom, hu]
          rfl
        | some r =>
          rw [hu]
          rfl
      have e := restartAll_ph u.unhalted hp
      rw [← htdef, hph, href, restartRef] at e
      rw [e]
      by_cases hr : railOf s p = none <;> simp [hr, nextCnt]

/-! ### Clears (R140, R141, R145) -/

/-- A write of ENG_CLR stores nothing: its effect is the clear alone. -/
theorem engClr_acts {h : Fin 3} {s : State} {c : Instr} {w : Word} {e : Eng} (hs : s.StoresWf) (ht : s.Takes h 0x0E0F w)
    (hc : exec c s = .next (writeCmd h 0x0E0F w (s.begin h)))
    (he : ∀ u : State, u.eng = s.eng → clearEngine w u = { u with eng := e }) :
    ∃ t, exec c s = .next t ∧ SameRegs [] s t ∧ t = { s.wrote t with eng := e } := by
  obtain ⟨u, hu⟩ : ∃ u, u = s.written h 0x0E0F w (PType.eng.rowAt 0x0F) := ⟨_, rfl⟩
  refine ⟨{ u with eng := e }, ?_, fun k _ => ?_, ?_⟩
  · rw [hc, writeCmd_reg isReg_engClr (by decide) ht, ← he u (by rw [hu]; rfl), hu]
    rfl
  · show u.reg k = s.reg k
    by_cases hk : k = 0x0E0F
    · rw [hk, hu, written_reg hs]
      have hrw : (PType.eng.rowAt 0x0F).rwBits = 0#32 := by decide
      have hw1 : (PType.eng.rowAt 0x0F).w1c = 0 := by decide
      have hnot : ~~~ 0#32 = BitVec.allOnes 32 := by decide
      simp only [RegRow.stored, hrw, hw1, BitVec.and_zero, BitVec.or_zero, hnot, BitVec.and_allOnes]
    · rw [hu, written_reg_ne hk]
  · rw [hu]
    rfl

end Sys2Proof.Machine

section
open Sys2Proof Sys2Proof.Machine

/-- Settles O18: halt, release and the clears of ENG_CLR, each through what its write does. -/
theorem engineHaltAndClears : Obligations.EngineHaltAndClears :=
  ⟨fun _ _ _ ht hr => engineHalt_acts ht hr,
   fun _ _ _ ht hr => engineRelease_acts ht hr,
   fun _ _ hs ht => engClr_acts hs ht rfl fun u hu => by rw [← hu]; rfl,
   fun _ _ hs ht => engClr_acts hs ht rfl fun u hu => by rw [← hu]; rfl,
   fun _ _ hs ht => engClr_acts hs ht rfl fun u hu => by rw [← hu]; rfl⟩
end
end

section
/-! PROOFS: control and free-running conversions, offset measurement (R82, R83, R87, R88, R92, R139, R225, R227). -/

-- The package as one text: its declarations are elaborated one after another, to hold few threads.
set_option Elab.async false

namespace Sys2Proof.Machine

section
variable {s t u : State} {p : Nat}

/-! ### Triggers (R139, R141) -/

theorem addTrigger_only (at_ c : Nat) (s : State) : Only [.eng] s (addTrigger at_ c s) := upd_eng s _

/-- An overrun of context `c` is counted (R141). -/
def State.overrun (s : State) (c : Nat) : State := { s with eng := { s.eng with lastOvr := c, ovrCnt := satInc 4294967295 s.eng.ovrCnt } }

theorem State.overrun_only (s : State) (c : Nat) : Only [.eng] s (s.overrun c) := upd_eng s _

theorem enqueue_eq (at_ c : Nat) (s : State) : enqueue at_ c s =
    if s.eng.queue.any (fun q => q.ctx == c) then event 0x60 c (perf 0x12 c 1 (addTrigger at_ c (s.overrun c)))
    else addTrigger at_ c s := rfl

theorem enqueue_only (at_ c : Nat) (s : State) : Only [.eng, .perf, .msgs] s (enqueue at_ c s) := by
  rw [enqueue_eq]
  refine only_ite ?_ (only_mono (addTrigger_only _ _ _))
  refine only_then (l := [.eng]) (m := [.perf, .msgs]) (only_trans (s.overrun_only c) (addTrigger_only at_ c _)) ?_
  exact only_then (l := [.perf]) (m := [.msgs]) (perf_only _ _ _ _) (event_only _ _ _)

theorem enqueue_stays (at_ c : Nat) (s : State) : Stays s (enqueue at_ c s) := by
  rw [enqueue_eq]
  refine .ite ?_ (.ofOnly (addTrigger_only _ _ _))
  refine (Stays.ofOnly (l := [.eng]) (only_trans (s.overrun_only c) (addTrigger_only at_ c _))).trans ?_
  exact (Stays.ofOnly (perf_only _ _ _ _)).trans (event_stays _ _ _)

/-! ### What keeps a control sample (R82, R139, R225) -/

/-- What of a phase a control sample and the guard of dead reckoning rest on. -/
structure Sample where
  converting : Bool
  isamp : Int
  ilast : Int
  pst : Pst
  est : Bool
  pmCfg : List Word

def Phase.sample (x : Phase) : Sample := ⟨x.converting, x.isamp, x.ilast, x.pst, x.est, x.pmCfg⟩

/-- Only phase `p` moves of the phases, and it keeps its sample. -/
structure KeepsSample (p : Nat) (s t : State) : Prop where
  parts : Only [.phases, .eng, .perf, .msgs] s t
  others : OtherPhases p s t
  sample : (t.ph p).sample = (s.ph p).sample
  stays : Stays s t

theorem KeepsSample.refl : KeepsSample p s s := ⟨only_refl, fun _ _ => rfl, rfl, .refl⟩

theorem KeepsSample.trans (h : KeepsSample p s t) (g : KeepsSample p t u) : KeepsSample p s u :=
  ⟨only_trans h.parts g.parts, fun q hq => (g.others q hq).trans (h.others q hq), g.sample.trans h.sample, h.stays.trans g.stays⟩

theorem KeepsSample.ite {c : Prop} [Decidable c] (h : KeepsSample p s t) (g : KeepsSample p s u) :
    KeepsSample p s (if c then t else u) := by
  split
  · exact h
  · exact g

/-- A change of the phase that keeps the sample. -/
theorem keepsSample_modPh (s : State) (p : Nat) {f : Phase → Phase} (hf : ∀ x, (f x).sample = x.sample) :
    KeepsSample p s (s.modPh p f) := by
  refine ⟨only_mono (modPh_only s p f), fun q hq => ph_modPh_ne _ _ _ _ hq, ?_, .ofOnly (modPh_only s p f)⟩
  rw [ph_modPh]
  split
  · exact hf _
  · rfl

/-- What moves no phase keeps every sample. -/
theorem KeepsSample.ofOnly {l : List Part} (h : Only l s t) (hw : Stays s t) (hl : l ⊆ [.phases, .eng, .perf, .msgs] := by decide)
    (hn : .phases ∉ l := by decide) : KeepsSample p s t :=
  ⟨only_mono h hl, fun q _ => only_ph h q hn, by rw [only_ph h p hn], hw⟩

theorem event_keepsSample (src addr : Nat) (s : State) : KeepsSample p s (event src addr s) :=
  .ofOnly (event_only s _ _) (event_stays s _ _)

theorem enqueue_keepsSample (at_ c : Nat) (s : State) : KeepsSample p s (enqueue at_ c s) :=
  .ofOnly (enqueue_only at_ c s) (enqueue_stays at_ c s)

theorem triggerI_keepsSample (at_ p : Nat) (s : State) : KeepsSample p s (triggerI at_ p s) := by
  unfold triggerI
  split
  · exact .refl
  · extract_lets t
    have ht : KeepsSample p s t := by
      unfold t
      split
      · exact .refl
      · split
        · exact keepsSample_modPh s p fun _ => rfl
        · refine .trans ?_ (enqueue_keepsSample _ _ _)
          exact keepsSample_modPh s p fun _ => rfl
    split
    · exact ht
    · split
      · exact ht.trans (keepsSample_modPh t p fun _ => rfl)
      · refine .trans (.trans ht ?_) (enqueue_keepsSample _ _ _)
        exact keepsSample_modPh t p fun _ => rfl

/-! ### Conversions at an end of the range (R82) -/

/-- A conversion counts toward IS_RANGE, and moves nothing else of the phase. -/
theorem isRange_ph (p : Nat) (c : Int) (s : State) (hp : p < 48) :
    ∃ a n, (isRange p c s).ph p = { s.ph p with isArmed := a, isIn := n } := by
  unfold isRange
  split
  · split
    · exact ⟨_, _, (only_ph (event_only _ _ _) p).trans (ph_modPh_same _ _ _ hp)⟩
    · exact ⟨_, _, ph_modPh_same _ _ _ hp⟩
  · exact ⟨_, _, ph_modPh_same _ _ _ hp⟩

theorem isRange_only (p : Nat) (c : Int) (s : State) : Only [.phases, .msgs] s (isRange p c s) := by
  refine only_ite (only_ite ?_ (only_mono (modPh_only s p _))) (only_mono (modPh_only s p _))
  exact only_then (l := [.phases]) (modPh_only s p _) (event_only _ _ _)

theorem isRange_keepsSample (p : Nat) (c : Int) (s : State) : KeepsSample p s (isRange p c s) := by
  unfold isRange
  split
  · split
    · refine .trans ?_ (event_keepsSample _ _ _)
      exact keepsSample_modPh s p fun _ => rfl
    · exact keepsSample_modPh s p fun _ => rfl
  · exact keepsSample_modPh s p fun _ => rfl

/-! ### Observers (R225, R227) -/

/-- Whether the observer can run depends, of the phases, on the condition and the registers in force of its own. -/
theorem obsCan_congr (h : Only [.phases, .eng, .perf, .msgs] s t) (hpst : (t.ph p).pst = (s.ph p).pst)
    (hpm : (t.ph p).pmCfg = (s.ph p).pmCfg) : obsCan t p = obsCan s p := by
  have e := eq_take_of_only h
  have hrail : railOf t p = railOf s p := by rw [e]; rfl
  have hpm3 : pmOf t p 3 = pmOf s p 3 := congrArg (·.getD 3 0) hpm
  have hsrc : ffsrc t = ffsrc s := by rw [e]; rfl
  have hff : ffFailed t = ffFailed s := by rw [e]; rfl
  have hvs : vsFailed t = vsFailed s := by rw [e]; rfl
  have hst : t.rail = s.rail := by rw [e]; rfl
  simp only [obsCan, hrail, hpm3, hpst, hsrc, hff, hvs, hst]

/-- Where the phase is not on dead reckoning, or its observer can run, the check moves at most the seed of its estimate. -/
theorem obsCheck1_keepsSample (h : (s.ph p).est = true → (s.ph p).pst = .active → obsCan s p = true) :
    KeepsSample p s (obsCheck1 p s) := by
  have hlost : ([p].filter fun q => (s.ph q).est && (s.ph q).pst == .active && !obsCan s q) = [] := by
    simp only [List.filter_cons, List.filter_nil]
    rw [if_neg]
    intro hc
    obtain ⟨⟨h1, h2⟩, h3⟩ : ((s.ph p).est = true ∧ (s.ph p).pst = .active) ∧ obsCan s p = false := by simpa using hc
    simp [h h1 h2] at h3
  have e : obsCheck1 p s = s.modPh p fun x => { x with seeded := x.seeded && obsCan s p } := by
    unfold obsCheck1 obsCheckOf
    dsimp only
    rw [hlost]
    rfl
  rw [e]
  exact keepsSample_modPh s p fun _ => rfl

/-- What follows the check in an observer step keeps the sample. -/
theorem observerStep_keepsSample {r : Nat} (hr : railOf s p = some r) : KeepsSample p (obsCheck1 p s) (observerStep p s) := by
  unfold observerStep
  rw [hr]
  dsimp only
  split
  · exact keepsSample_modPh _ p fun _ => rfl
  · split
    · exact keepsSample_modPh _ p fun _ => rfl
    · exact keepsSample_modPh _ p fun _ => rfl

/-- An observer step whose phase does not lose its estimate keeps the sample. -/
theorem observerStep_keepsSample_of_can (h : (s.ph p).est = true → (s.ph p).pst = .active → obsCan s p = true) :
    KeepsSample p s (observerStep p s) := by
  cases hr : railOf s p with
  | none =>
    have e : observerStep p s = s := by rw [observerStep, hr]
    rw [e]
    exact .refl
  | some r => exact (obsCheck1_keepsSample h).trans (observerStep_keepsSample hr)

/-- Every phase keeps its sample, and every message that waits goes on waiting. -/
structure SamplesStay (s t : State) : Prop where
  sample : ∀ q, (t.ph q).sample = (s.ph q).sample
  stays : Stays s t

theorem SamplesStay.refl : SamplesStay s s := ⟨fun _ => rfl, .refl⟩
theorem SamplesStay.trans (h : SamplesStay s t) (g : SamplesStay t u) : SamplesStay s u :=
  ⟨fun q => (g.sample q).trans (h.sample q), h.stays.trans g.stays⟩
theorem SamplesStay.ite {c : Prop} [Decidable c] (h : SamplesStay s t) (g : SamplesStay s u) : SamplesStay s (if c then t else u) := by
  split
  · exact h
  · exact g
theorem SamplesStay.foldl {α : Type} {f : State → α → State} (hf : ∀ s a, SamplesStay s (f s a)) (xs : List α) :
    SamplesStay s (xs.foldl f s) := by
  induction xs generalizing s with
  | nil => exact .refl
  | cons a xs ih => exact (hf s a).trans ih

/-- What moves no phase leaves every sample. -/
theorem SamplesStay.ofOnly {l : List Part} (h : Only l s t) (hw : Stays s t) (hn : .phases ∉ l := by decide) : SamplesStay s t :=
  ⟨fun q => by rw [only_ph h q hn], hw⟩

theorem samplesStay_modRail (s : State) (r : Nat) (f : Rail → Rail) : SamplesStay s (s.modRail r f) :=
  .ofOnly (modRail_only s r f) (.ofOnly (modRail_only s r f))

theorem samplesStay_modPh (s : State) (p : Nat) {f : Phase → Phase} (hf : ∀ x, (f x).sample = x.sample) : SamplesStay s (s.modPh p f) := by
  refine ⟨fun q => ?_, .ofOnly (modPh_only s p f)⟩
  rw [ph_modPh]
  split
  · exact hf _
  · rfl

theorem respread_samplesStay (r : Nat) (s : State) : SamplesStay s (respread r s) :=
  ⟨fun q => by rw [respread_ph]; rfl, .ofOnly (respread_only s r)⟩

theorem preloadDrip_samplesStay (r : Nat) (s : State) : SamplesStay s (preloadDrip r s) := by
  unfold preloadDrip
  extract_lets u
  have hu : SamplesStay s u := samplesStay_modRail s r _
  refine hu.trans (.ite (.foldl (fun v q => ?_) _) .refl)
  exact samplesStay_modPh v q fun _ => rfl

theorem dripExit_samplesStay (r : Nat) (s : State) : SamplesStay s (dripExit r s) := by
  refine .ite (.trans ?_ (preloadDrip_samplesStay r _)) .refl
  exact samplesStay_modRail s r _

theorem redecimate_samplesStay (r : Nat) (s : State) : SamplesStay s (redecimate r s) :=
  .ofOnly (redecimate_only s r) (.ofOnly (redecimate_only s r))

/-- A change of the active set moves no sample and no condition of a phase (R214). -/
theorem activeChanged_samplesStay (r : Nat) (s : State) (f : Bool) : SamplesStay s (activeChanged r s f) := by
  unfold activeChanged
  extract_lets _ _ _ u v w x y
  have hv : SamplesStay s v := (respread_samplesStay r s).trans (samplesStay_modRail u r _)
  have hw : SamplesStay v w := .ite (redecimate_samplesStay r v) .refl
  have hx : SamplesStay w x := .ite (samplesStay_modRail w r _) (dripExit_samplesStay r w)
  have hy : SamplesStay x y := .ite (.ofOnly (perf_only x _ _ _) (.ofOnly (perf_only x _ _ _))) .refl
  exact ((hv.trans hw).trans (hx.trans hy)).trans (.ite (.ofOnly (event_only y _ _) (event_stays y _ _)) .refl)

/-- A phase on dead reckoning whose observer stops becomes FAILED, which 0x3A reports (R227, R229). -/
theorem obsCheck1_fails (hp : p < 48) (hc : s.dev.clkStop = false) (he : (s.ph p).est = true)
    (ha : (s.ph p).pst = .active) (hn : obsCan s p = false) :
    ((obsCheck1 p s).ph p).pst = .failed ∧ ((obsCheck1 p s).ph p).converting = (s.ph p).converting ∧ (obsCheck1 p s).Waits 0x3A 0 p := by
  have hlost : ([p].filter fun q => (s.ph q).est && (s.ph q).pst == .active && !obsCan s q) = [p] := by simp [he, ha, hn]
  obtain ⟨u, hu⟩ : ∃ u, u = markFailed p (s.modPh p fun x => { x with seeded := x.seeded && obsCan s p }) := ⟨_, rfl⟩
  have hph : (u.ph p).pst = .failed ∧ (u.ph p).converting = (s.ph p).converting := by
    rw [hu, markFailed, ph_modPh_same _ _ _ hp, ph_modPh_same _ _ _ hp]
    exact ⟨rfl, rfl⟩
  have hstay : SamplesStay (event 0x3A p u) (obsCheck1 p s) := by
    unfold obsCheck1 obsCheckOf
    dsimp only
    rw [hlost, List.foldl_cons, List.foldl_nil, List.foldl_cons, List.foldl_nil, ← hu]
    exact .foldl (fun v r => .ite (activeChanged_samplesStay r v true) .refl) _
  have hw : (event 0x3A p u).Waits 0x3A 0 p := event_waits _ _ (by rw [hu]; exact hc)
  have hs : ((obsCheck1 p s).ph p).sample = (u.ph p).sample := (hstay.sample p).trans (by rw [only_ph (event_only u _ _)])
  exact ⟨(congrArg Sample.pst hs).trans hph.1, (congrArg Sample.converting hs).trans hph.2, hstay.stays.waits _ _ _ hw⟩


end

/-! ### The control conversion (R82, R83, R87, R88) -/

/-- The state at which a control sample has ended, before what follows from it. -/
def sampleEnd (p : Nat) (i : Int) (s : State) : State := s.modPh p fun x => { x with converting := false, isamp := i, ilast := i }

theorem sampleEnd_ph {p : Nat} (hp : p < 48) (i : Int) (s : State) :
    (sampleEnd p i s).ph p = { s.ph p with converting := false, isamp := i, ilast := i } := ph_modPh_same _ _ _ hp

theorem controlConversionEnd_eq {p : Nat} {c : Int} {s : State} (hs : sensing s = true) (hc : counts s p = true)
    (hv : (s.ph p).converting = true) :
    controlConversionEnd p c s = triggerI ((sampleEnd p (iCode s p c) s).ph p).convAt p
      (observerStep p (isRange p c (sampleEnd p (iCode s p c) s))) := by
  rw [controlConversionEnd, if_neg (by simp [hs, hc, hv])]
  rfl

/-- With a scale of its own a current is the scaled quotient (R38, R82). -/
theorem iCode_of_scale {s : State} {p : Nat} (h : bf (s.pr p 0x0A) ≠ 0) (c : Rat) :
    iCode s p c = toSPU16 ((c - (iofsOf s p : Rat)) * iStep s p / bf (s.pr p 0x0A)) := if_neg h

theorem controlConversionStart_starts {p : Fin 48} {n a : Nat} {s : State} (hs : s.Works) (hc : counts s p = true)
    (hg : (s.ph p).gen.going = true) (hn : (s.ph p).sampled = false) (ht : sampleTargetOf (s.ph p) = some a) (h1 : a - (s.ph p).slead ≤ n)
    (h2 : n < a - (s.ph p).slead + 8) (h3 : ((s.ph p).gen.org + n) % 8 = 0) (h4 : n < (s.ph p).gen.curPer)
    (h5 : (s.ph p).gen.org + n < (s.dev.frame + 1) * 400) :
    ∃ t, exec (.controlConversionStart p n) s = .next t ∧ t = { s.begin none (some ((s.ph p).gen.org + n)) with phases := t.phases } ∧
      OtherPhases p s t ∧
      t.ph p = { s.ph p with sampled := true, converting := true, convAt := ((s.ph p).gen.org + n) / 8 + 4 } := by
  obtain ⟨b, hb⟩ : ∃ b, b = s.begin none (some ((s.ph p).gen.org + n)) := ⟨_, rfl⟩
  have hstep : controlConversionStart p n b =
      b.modPh p fun x => { x with sampled := true, converting := true, convAt := (x.gen.org + n) / 8 + 4 } := by
    have hsens : sensing b = true := hb ▸ sensing_begin hs
    have hcnt : counts b p = true := hb ▸ hc
    have hph : b.ph p = s.ph p := by rw [hb]; rfl
    have hnext : nextCnt b = (s.dev.frame + 1) * 400 := by rw [hb]; rfl
    unfold controlConversionStart
    simp only [hph, ht, hsens, hcnt, hg, hn, hnext, h3]
    rw [if_neg]
    simp only [Bool.or_eq_true, Bool.not_true, Bool.false_eq_true, false_or, decide_eq_true_eq]
    omega
  refine ⟨_, next_clocked_of_runs hs.1, ?_, fun q hq => ?_, ?_⟩ <;> rw [← hb, hstep]
  · rfl
  · rw [ph_modPh_ne _ _ _ _ hq, hb]
    rfl
  · rw [ph_modPh_same _ _ _ p.isLt, hb]
    rfl

theorem controlConversionEnd_idle {p : Fin 48} {c : BitVec 12} {s : State} (h : counts s p = false) :
    exec (.controlConversionEnd p c) s = .next (s.begin none (some (8 * (s.ph p).convAt))) := by
  refine congrArg Host.Outcome.next ?_
  unfold clocked
  split
  · rfl
  · exact if_pos (by simp [show counts (s.begin none (some (8 * (s.ph p).convAt))) p = false from h])

/-- The conversion in progress has ended: what the observer's step finds. -/
theorem sampleEnd_isRange {p : Nat} (hp : p < 48) (c i : Int) (s : State) :
    obsCan (isRange p c (sampleEnd p i s)) p = obsCan s p ∧ ((isRange p c (sampleEnd p i s)).ph p).est = (s.ph p).est ∧
      ((isRange p c (sampleEnd p i s)).ph p).pst = (s.ph p).pst ∧ ((isRange p c (sampleEnd p i s)).ph p).converting = false := by
  have hk := (isRange_keepsSample p c (sampleEnd p i s)).sample
  have ho : Only [.phases, .msgs] s (isRange p c (sampleEnd p i s)) := only_then (l := [.phases]) (modPh_only s p _) (isRange_only p c _)
  have hph := sampleEnd_ph hp i s
  have hpst : ((isRange p c (sampleEnd p i s)).ph p).pst = (s.ph p).pst := (congrArg Sample.pst hk).trans (by rw [hph]; rfl)
  have hpm : ((isRange p c (sampleEnd p i s)).ph p).pmCfg = (s.ph p).pmCfg := (congrArg Sample.pmCfg hk).trans (by rw [hph]; rfl)
  exact ⟨obsCan_congr (only_mono ho) hpst hpm, (congrArg Sample.est hk).trans (by rw [hph]; rfl), hpst,
    (congrArg Sample.converting hk).trans (by rw [hph]; rfl)⟩

theorem controlConversionEnd_ends {p : Fin 48} {c : BitVec 12} {s : State} (hs : s.Works) (hc : counts s p = true)
    (hv : (s.ph p).converting = true) (hb : bf (s.pr p 0x0A) ≠ 0)
    (ho : (s.ph p).est = true → (s.ph p).pst = .active → obsCan s p = true) :
    ∃ t, exec (.controlConversionEnd p c) s = .next t ∧ (t.ph p).converting = false ∧ (t.ph p).ilast = (t.ph p).isamp ∧
      (t.ph p).isamp = toSPU16 (((c.toInt : Rat) - (iofsOf s p : Rat)) * iStep s p / bf (s.pr p 0x0A)) ∧
      OtherPhases p s t ∧ t.rails = s.rails ∧ t.bank = s.bank := by
  obtain ⟨b, hbd⟩ : ∃ b, b = s.begin none (some (8 * (s.ph p).convAt)) := ⟨_, rfl⟩
  obtain ⟨i, hi⟩ : ∃ i, i = iCode b p (c.toInt : Rat) := ⟨_, rfl⟩
  obtain ⟨t, ht⟩ : ∃ t, t = controlConversionEnd p c.toInt b := ⟨_, rfl⟩
  have hcan := sampleEnd_isRange p.isLt c.toInt i b
  obtain ⟨hcan, hest, hpst, -⟩ := hcan
  have hkeep : KeepsSample p (sampleEnd p i b) t := by
    rw [ht, controlConversionEnd_eq (hbd ▸ sensing_begin hs) (hbd ▸ hc) (hbd ▸ hv), ← hi]
    refine ((isRange_keepsSample _ _ _).trans (observerStep_keepsSample_of_can ?_)).trans (triggerI_keepsSample _ _ _)
    rw [hcan, hest, hpst, hbd]
    exact ho
  have hph : (t.ph p).sample = { (s.ph p).sample with converting := false, isamp := i, ilast := i } := by
    rw [hkeep.sample, sampleEnd_ph p.isLt, hbd]
    rfl
  have hci : i = toSPU16 (((c.toInt : Rat) - (iofsOf s p : Rat)) * iStep s p / bf (s.pr p 0x0A)) := by
    rw [hi, iCode_of_scale (hbd ▸ hb), hbd]
    rfl
  have hisamp : (t.ph p).isamp = i := congrArg Sample.isamp hph
  have hmod : Only [.phases] b (sampleEnd p i b) := modPh_only b p _
  refine ⟨t, ?_, congrArg Sample.converting hph, (congrArg Sample.ilast hph).trans hisamp.symm, hisamp.trans hci, fun q hq => ?_, ?_, ?_⟩
  · rw [ht, hbd]
    exact next_clocked_of_runs hs.1
  · rw [hkeep.others q hq, sampleEnd, ph_modPh_ne _ _ _ _ hq, hbd]
    rfl
  · rw [only_rails hkeep.parts, only_rails hmod, hbd]
    rfl
  · rw [only_bank hkeep.parts, only_bank hmod, hbd]
    rfl

theorem controlConversionEnd_fails {p : Fin 48} {r : Nat} {c : BitVec 12} {s : State} (hs : s.Works) (hc : counts s p = true)
    (hv : (s.ph p).converting = true) (hr : railOf s p = some r) (he : (s.ph p).est = true) (ha : (s.ph p).pst = .active)
    (ho : obsCan s p = false) :
    ∃ t, exec (.controlConversionEnd p c) s = .next t ∧ (t.ph p).converting = false ∧ (t.ph p).pst = .failed ∧ t.Waits 0x3A 0 p := by
  obtain ⟨b, hbd⟩ : ∃ b, b = s.begin none (some (8 * (s.ph p).convAt)) := ⟨_, rfl⟩
  obtain ⟨i, hi⟩ : ∃ i, i = iCode b p (c.toInt : Rat) := ⟨_, rfl⟩
  obtain ⟨t, ht⟩ : ∃ t, t = controlConversionEnd p c.toInt b := ⟨_, rfl⟩
  obtain ⟨u, hu⟩ : ∃ u, u = isRange p c.toInt (sampleEnd p i b) := ⟨_, rfl⟩
  obtain ⟨hcan, hest, hpst, hcv⟩ := hu ▸ sampleEnd_isRange p.isLt c.toInt i b
  have hub : Only [.phases, .msgs] b u := hu ▸ only_then (l := [.phases]) (modPh_only b p _) (isRange_only p _ _)
  have hclk : u.dev.clkStop = false := by
    rw [only_dev hub, hbd]
    exact hs.1.2
  have hrail : railOf u p = some r := by
    rw [eq_take_of_only hub, hbd]
    exact hr
  obtain ⟨h1, h2, h3⟩ := obsCheck1_fails p.isLt hclk (hest.trans (hbd ▸ he)) (hpst.trans (hbd ▸ ha)) (hcan.trans (hbd ▸ ho))
  have hkeep : KeepsSample p (obsCheck1 p u) t := by
    rw [ht, controlConversionEnd_eq (hbd ▸ sensing_begin hs) (hbd ▸ hc) (hbd ▸ hv), ← hi, ← hu]
    exact (observerStep_keepsSample hrail).trans (triggerI_keepsSample _ _ _)
  refine ⟨t, ?_, ?_, ?_, hkeep.stays.waits _ _ _ h3⟩
  · rw [ht, hbd]
    exact next_clocked_of_runs hs.1
  · exact (congrArg Sample.converting hkeep.sample).trans (h2.trans hcv)
  · exact (congrArg Sample.pst hkeep.sample).trans h1

/-! ### Free-running conversions and the offset (R82, R83, R87, R88) -/

theorem freeRunningConversion_adds {p : Fin 48} {c : BitVec 12} {s : State} (hs : s.Works) (hv : (s.ph p).converting = false) :
    ∃ t, exec (.freeRunningConversion p c) s = .next t ∧ t = { s.msgs t with phases := t.phases } ∧ OtherPhases p s t ∧
      (bf (s.pr p 0x0A) ≠ 0 →
        (t.ph p).ilast = toSPU16 (((c.toInt : Rat) - (iofsOf s p : Rat)) * iStep s p / bf (s.pr p 0x0A))) ∧
      (t.ph p).isamp = (s.ph p).isamp ∧
      (counts s p = true → (s.ph p).gen.going = true →
        (t.ph p).frSum = (s.ph p).frSum + c.toInt ∧ (t.ph p).frN = (s.ph p).frN + 1) := by
  obtain ⟨b, hbd⟩ : ∃ b, b = s.begin := ⟨_, rfl⟩
  obtain ⟨f, hf⟩ : ∃ f : Phase → Phase, f = fun x =>
    { x with ilast := iCode b p (c.toInt : Rat), frSum := if counts b p && (b.ph p).gen.going then x.frSum + c.toInt else x.frSum
             frN := if counts b p && (b.ph p).gen.going then x.frN + 1 else x.frN
             avSum := if counts b p && (b.ph p).gen.going then x.avSum + c.toInt else x.avSum
             avN := if counts b p && (b.ph p).gen.going then x.avN + 1 else x.avN } := ⟨_, rfl⟩
  obtain ⟨t, ht⟩ : ∃ t, t = isRange p c.toInt (b.modPh p f) := ⟨_, rfl⟩
  have hstep : freeRunning p c.toInt b = t := by
    rw [ht, freeRunning, if_neg (by simp [show sensing b = true from hbd ▸ sensing_begin hs, show (b.ph p).converting = false from hbd ▸ hv]), hf]
  have hto : Only [.phases, .msgs] b t := ht ▸ only_then (l := [.phases]) (modPh_only b p f) (isRange_only p _ _)
  obtain ⟨x, y, hxy⟩ := isRange_ph p c.toInt (b.modPh p f) p.isLt
  have hph : t.ph p = { f (s.ph p) with isArmed := x, isIn := y } := by
    rw [ht, hxy, ph_modPh_same _ _ _ p.isLt, hbd]
    rfl
  refine ⟨t, ?_, ?_, fun q hq => ?_, fun hb => ?_, ?_, fun hc hg => ?_⟩
  · rw [← hstep, hbd]
    exact next_clocked_of_runs hs.1
  · rw [hbd] at hto
    exact eq_take_of_only hto
  · rw [ht, (isRange_keepsSample p _ _).others q hq, ph_modPh_ne _ _ _ _ hq, hbd]
    rfl
  · rw [hph, hf]
    exact (iCode_of_scale (hbd ▸ hb) _).trans (by rw [hbd]; rfl)
  · rw [hph, hf]
  · rw [hph, hf]
    simp [show counts b p = true from hbd ▸ hc, show (b.ph p).gen.going = true from hbd ▸ hg]

/-- The conversions of an offset measurement move nothing but what counts toward IS_RANGE. -/
theorem isRange_fold_only (p : Nat) (l : List Int) (s : State) : Only [.phases, .msgs] s (l.foldl (fun s c => isRange p c s) s) :=
  only_foldl (fun u c => isRange_only p c u) l

theorem offsetMeasurement_writes {p : Fin 48} {r : Nat} {l : List (BitVec 12)} {s : State} (hs : s.Works) (hr : railOf s p = some r)
    (hst : (s.rail r).st = .precheck) (hl : (s.rail r).ofsLeft.contains p.val = true) (hne : l ≠ []) :
    ∃ t m, exec (.offsetMeasurement p l) s = .next t ∧ m = roundAway ((sumI (l.map (·.toInt)) : Rat) / (l.length : Rat)) ∧
      t = { s.conds t with phases := t.phases, rails := t.rails } ∧ OtherPhases p s t ∧ OtherRails r s t ∧ (t.ph p).iofs = m ∧
      t.rail r = { s.rail r with ofsLeft := (s.rail r).ofsLeft.filter (· != p.val) } ∧
      (t.Stands 0x74 p ↔ 64 < m.natAbs) := by
  obtain ⟨m, hm⟩ : ∃ m, m = roundAway ((sumI (l.map (·.toInt)) : Rat) / (l.length : Rat)) := ⟨_, rfl⟩
  obtain ⟨u, hu⟩ : ∃ u, u = (l.map (·.toInt)).foldl (fun s c => isRange p c s) s.begin := ⟨_, rfl⟩
  obtain ⟨v, hv⟩ : ∃ v, v = (u.modPh p fun x => { x with iofs := m }).modRail r fun x => { x with ofsLeft := x.ofsLeft.filter (· != p.val) } :=
    ⟨_, rfl⟩
  obtain ⟨t, ht⟩ : ∃ t, t = setCond 0x74 p (decide (64 < m.natAbs)) v := ⟨_, rfl⟩
  have hstep : offsetMeasurement p (l.map (·.toInt)) s.begin = t := by
    unfold offsetMeasurement
    rw [show railOf s.begin p = some r from hr]
    dsimp only
    rw [if_neg (by simp [sensing_begin hs, hst, hne, List.contains_iff_mem.1 hl]), ht, hv, hu, hm, List.length_map]
  have huo : Only [.phases, .msgs] s.begin u := hu ▸ isRange_fold_only p _ _
  have huk : KeepsSample p s.begin u := by
    rw [hu]
    exact foldl_keeps (P := KeepsSample p s.begin) (fun w c h => h.trans (isRange_keepsSample p c w)) _ .refl
  have hvo : Only [.phases, .rails] u v := hv ▸ only_then (l := [.phases]) (modPh_only u p _) (modRail_only _ r _)
  have hto : Only [.msgs, .stand] v t := ht ▸ setCond_only _ _ _ _
  have hall : Only [.phases, .rails, .msgs, .stand] s.begin t :=
    only_then (l := [.phases, .msgs]) huo (only_then (n := [.phases, .rails, .msgs, .stand]) hvo hto)
  refine ⟨t, m, ?_, hm, eq_take_of_only hall, fun q hq => ?_, fun q hq => ?_, ?_, ?_, ?_⟩
  · rw [← hstep]
    exact next_clocked_of_runs hs.1
  · rw [only_ph hto, hv, ph_modRail_of, ph_modPh_ne _ _ _ _ hq, huk.others q hq]
    rfl
  · rw [only_rail hto, hv, rail_modRail_ne _ _ _ _ hq]
    exact only_rail huo q
  · rw [only_ph hto, hv, ph_modRail_of, ph_modPh_same _ _ _ p.isLt]
  · rw [only_rail hto, hv, rail_modRail_same _ _ _ (railOf_lt hr)]
    have e : (u.modPh p fun x => { x with iofs := m }).rail r = s.rail r := only_rail huo r
    rw [e]
  · rw [ht, setCond_stands_iff, decide_eq_true_eq]

end Sys2Proof.Machine

section
open Sys2Proof Sys2Proof.Machine

/-- Settles O33: the control conversion through what keeps its sample, the loss of dead reckoning through the observer's check. -/
theorem currentSensing : Obligations.CurrentSensing :=
  ⟨fun _ _ _ _ hs hc hg hn ht h1 h2 h3 h4 h5 => controlConversionStart_starts hs hc hg hn ht h1 h2 h3 h4 h5,
   fun _ _ _ h => controlConversionEnd_idle h,
   fun _ _ _ hs hc hv hb ho => controlConversionEnd_ends hs hc hv hb ho,
   fun _ _ _ hs hv => freeRunningConversion_adds hs hv,
   fun _ _ _ _ hs hr hst hl hne => offsetMeasurement_writes hs hr hst hl hne,
   fun _ _ _ _ hs hc hv hr he ha ho => controlConversionEnd_fails hs hc hv hr he ha ho⟩
end
end

section
/-! PROOFS: window conversions, the channel's failures, the end of a voltage measurement (R75-R79, R89, R90, R139, R198). -/

-- The package as one text: its declarations are elaborated one after another, to hold few threads.
set_option Elab.async false

namespace Sys2Proof.Machine

section
variable {s t : State} {r : Nat}

/-! ### What a change of the active set keeps of the rails (R139, R188, R214, R220) -/

section
variable {α : Type} {g : Rail → α}

/-- What `g` reads of every rail. -/
def State.railsBy (s : State) (g : Rail → α) (q : Nat) : α := g (s.rail q)

theorem only_railsBy {l : List Part} (h : Only l s t) (hn : .rails ∉ l := by decide) : t.railsBy g = s.railsBy g :=
  funext fun q => congrArg g (only_rail h q hn)

theorem railsBy_modRail (s : State) (r : Nat) {f : Rail → Rail} (hf : ∀ x, g (f x) = g x) : (s.modRail r f).railsBy g = s.railsBy g := by
  funext q
  rw [State.railsBy, rail_modRail]
  split
  · exact hf _
  · rfl

theorem railsBy_fold {β : Type} {f : State → β → State} (hf : ∀ s a, (f s a).railsBy g = s.railsBy g) (l : List β) (s : State) :
    (l.foldl f s).railsBy g = s.railsBy g :=
  foldl_keeps (P := fun t : State => t.railsBy g = s.railsBy g) (fun t a h => (hf t a).trans h) l rfl

theorem railsBy_ite {c : Prop} [Decidable c] {u : State} (h : t.railsBy g = s.railsBy g) (k : u.railsBy g = s.railsBy g) :
    (if c then t else u).railsBy g = s.railsBy g := by
  split
  · exact h
  · exact k

/-- `g` reads no count of the active set, no decimation factor, no due exit from DRIP and no preload of the voltage loop. -/
structure ReadsNoCounts (g : Rail → α) : Prop where
  counts : ∀ x a b c, g { x with shedCnt := a, addCnt := b, dripCnt := 0, chgAt := c } = g x
  decims : ∀ x a b c, g { x with nOut := a, nCur := b, nBal := c } = g x
  due : ∀ x d, g { x with dripDue := d } = g x
  preload : ∀ x u, g { x with plV := u } = g x

/-- The rail out of DRIP (R220). -/
def Rail.dripLeft (x : Rail) : Rail := { x with st := .regulate, frames := 0, dripCnt := 0, dripDue := false }

variable (hg : ReadsNoCounts g)
include hg

theorem preloadFf_railsBy (r : Nat) (s : State) : (preloadFf r s).railsBy g = s.railsBy g :=
  railsBy_ite rfl (railsBy_ite (only_railsBy (only_foldl (l := [.phases]) (fun t p => modPh_only t p _) _))
    (railsBy_ite rfl (railsBy_modRail s r fun x => hg.preload x _)))

theorem preloadDrip_railsBy (r : Nat) (s : State) : (preloadDrip r s).railsBy g = s.railsBy g := by
  unfold preloadDrip
  extract_lets u
  have hu : u.railsBy g = s.railsBy g := railsBy_modRail s r fun x => hg.preload x _
  exact railsBy_ite ((only_railsBy (only_foldl (l := [.phases]) (fun t p => modPh_only t p _) _)).trans hu) hu

theorem dripExit_railsBy (r : Nat) (s : State) (hd : (s.rail r).st = .drip → ∀ x, g x.dripLeft = g x) :
    (dripExit r s).railsBy g = s.railsBy g := by
  unfold dripExit
  split
  · next h =>
    refine (preloadDrip_railsBy hg r _).trans ?_
    exact railsBy_modRail s r (f := Rail.dripLeft) (hd (by simpa using h))
  · rfl

theorem redecimate_railsBy (r : Nat) (s : State) : (redecimate r s).railsBy g = s.railsBy g := by
  unfold redecimate
  extract_lets
  exact railsBy_modRail s r fun x => hg.decims x _ _ _

/-- A change of the active set moves of the rails nothing but its counts and factors, and DRIP, which it leaves. -/
theorem activeChanged_railsBy (r : Nat) (s : State) (f : Bool) (hd : (s.rail r).st = .drip → ∀ x, g x.dripLeft = g x) :
    (activeChanged r s f).railsBy g = s.railsBy g := by
  have hst : ReadsNoCounts Rail.st := ⟨fun _ _ _ _ => rfl, fun _ _ _ _ => rfl, fun _ _ => rfl, fun _ _ => rfl⟩
  unfold activeChanged
  extract_lets _ _ _ u v w x y
  -- up to the exit from DRIP, whatever is read
  have hw {β : Type} {k : Rail → β} (hk : ReadsNoCounts k) : w.railsBy k = s.railsBy k := by
    have hu : u.railsBy k = s.railsBy k := only_railsBy (respread_only s r)
    have hv : v.railsBy k = u.railsBy k := railsBy_modRail u r fun x => hk.counts x _ _ _
    exact railsBy_ite ((redecimate_railsBy hk r v).trans (hv.trans hu)) (hv.trans hu)
  have hx : x.railsBy g = w.railsBy g := railsBy_ite (railsBy_modRail w r fun x => hg.due x _)
    (dripExit_railsBy hg r w fun h => hd ((congrFun (hw hst) r).symm.trans h))
  have hy : y.railsBy g = x.railsBy g := railsBy_ite (only_railsBy (perf_only x _ _ _)) rfl
  have hys : y.railsBy g = s.railsBy g := hy.trans (hx.trans (hw hg))
  exact railsBy_ite ((only_railsBy (event_only y _ _)).trans hys) hys

end

/-! ### Channels past what follows a failure (R23, R79) -/

/-- The range and failure conditions of a voltage channel. -/
def Rail.channel (x : Rail) : Cond × Cond := (x.vsRange, x.vsFail)

theorem channel_readsNoCounts : ReadsNoCounts Rail.channel :=
  ⟨fun _ _ _ _ => rfl, fun _ _ _ _ => rfl, fun _ _ => rfl, fun _ _ => rfl⟩

theorem ffLose_channels (s : State) : (ffLose s).railsBy Rail.channel = s.railsBy Rail.channel := by
  refine railsBy_fold (fun t r => railsBy_ite ((preloadFf_railsBy channel_readsNoCounts r _).trans ?_) rfl) _ s
  exact railsBy_modRail t r fun _ => rfl

theorem obsCheckOf_channels (l : List Nat) (s : State) : (obsCheckOf l s).railsBy Rail.channel = s.railsBy Rail.channel := by
  unfold obsCheckOf
  extract_lets lost t u
  have ht : t.railsBy Rail.channel = s.railsBy Rail.channel := only_railsBy (only_foldl (l := [.phases]) (fun x p => modPh_only x p _) l)
  have hu : u.railsBy Rail.channel = t.railsBy Rail.channel := railsBy_fold (fun x p =>
    (only_railsBy (event_only _ _ _)).trans (only_railsBy (markFailed_only x p))) lost t
  clear_value u t lost
  have hloop := railsBy_fold (g := Rail.channel)
    (f := fun s r => if lost.any fun p => railOf s p == some r then activeChanged r s true else s)
    (fun x r => railsBy_ite (activeChanged_railsBy channel_readsNoCounts r x true fun _ _ => rfl) rfl) (List.range 16) u
  exact hloop.trans (hu.trans ht)

/-- What follows a channel's failure moves no channel's conditions. -/
theorem channelFailed_channels (s : State) : (channelFailed s).railsBy Rail.channel = s.railsBy Rail.channel :=
  (obsCheckOf_channels (List.range 48) (ffLose s)).trans (ffLose_channels s)

/-- A channel's condition as judged, past what follows from it. -/
theorem channelCond_channels (src addr : Nat) (on : Bool) (s : State) :
    (channelFailed (setCond src addr on s)).railsBy Rail.channel = s.railsBy Rail.channel :=
  (channelFailed_channels _).trans (only_railsBy (setCond_only s _ _ _))

theorem vsRange_judges (hr : r < 16) (s : State) :
    ((vsRange r s).rail r).vsRange = (s.rail r).vsRange.judge 4 4 ∧
      ((vsRange r s).Stands 0x71 r ↔ ((s.rail r).vsRange.judge 4 4).on = true) := by
  refine ⟨?_, channelCond_stands_iff _ _ _ _⟩
  refine (congrArg Prod.fst (congrFun (channelCond_channels _ _ _ _) r)).trans ?_
  exact congrArg Rail.vsRange (rail_modRail_same _ _ _ hr)

theorem vsFail_judges (hr : r < 16) (s : State) :
    ((vsFail r s).rail r).vsFail = (s.rail r).vsFail.judge 8 8 ∧
      ((vsFail r s).Stands 0x72 r ↔ ((s.rail r).vsFail.judge 8 8).on = true) := by
  refine ⟨?_, channelCond_stands_iff _ _ _ _⟩
  refine (congrArg Prod.snd (congrFun (channelCond_channels _ _ _ _) r)).trans ?_
  exact congrArg Rail.vsFail (rail_modRail_same _ _ _ hr)

theorem vsRange_acts {r : Fin 16} {s : State} (h : s.Runs) {on : Bool} (hj : ((s.rail r).vsRange.judge 4 4).on = on) :
    ∃ t, exec (.vsRange r) s = .next t ∧ (t.rail r).vsRange.on = on ∧ (t.Stands 0x71 r ↔ on = true) := by
  obtain ⟨h1, h2⟩ := vsRange_judges r.isLt s.begin
  have hj' : ((s.begin.rail r).vsRange.judge 4 4).on = on := hj
  exact ⟨_, next_clocked_of_runs h, by rw [h1, hj'], by rw [h2, hj']⟩

theorem vsFail_acts {r : Fin 16} {s : State} (h : s.Runs) {on : Bool} (hj : ((s.rail r).vsFail.judge 8 8).on = on) :
    ∃ t, exec (.vsFail r) s = .next t ∧ (t.rail r).vsFail.on = on ∧ (t.Stands 0x72 r ↔ on = true) := by
  obtain ⟨h1, h2⟩ := vsFail_judges r.isLt s.begin
  have hj' : ((s.begin.rail r).vsFail.judge 8 8).on = on := hj
  exact ⟨_, next_clocked_of_runs h, by rw [h1, hj'], by rw [h2, hj']⟩

/-! ### Window conversions (R76, R77) -/

theorem windowConversion_puts {r : Fin 16} {w : BitVec 10} {s : State} (hs : s.Works) :
    ∃ t o, exec (.windowConversion r w) s = .next t ∧ t = { s.begin with rails := t.rails } ∧ OtherRails r s t ∧
      o = decide (w.toInt = -512 ∨ w.toInt = 511) ∧
      t.rail r = { s.rail r with
        win := (⟨o, winVolts (s.rail r).vdac w.toInt, (s.rail r).vabsV⟩ :: (s.rail r).win).take 16, oow := o
        oowRun := if o then satInc 16 (s.rail r).oowRun else 0, inRun := if o then 0 else satInc 16 (s.rail r).inRun
        vsArmed := (s.rail r).vsArmed || (!o && satInc 16 (s.rail r).inRun == 16) } := by
  obtain ⟨o, ho⟩ : ∃ o, o = decide (w.toInt = -512 ∨ w.toInt = 511) := ⟨_, rfl⟩
  have hstep : ∃ f : Rail → Rail, windowConversion r w.toInt s.begin = s.begin.modRail r f ∧ f (s.rail r) = { s.rail r with
        win := (⟨o, winVolts (s.rail r).vdac w.toInt, (s.rail r).vabsV⟩ :: (s.rail r).win).take 16, oow := o
        oowRun := if o then satInc 16 (s.rail r).oowRun else 0, inRun := if o then 0 else satInc 16 (s.rail r).inRun
        vsArmed := (s.rail r).vsArmed || (!o && satInc 16 (s.rail r).inRun == 16) } := by
    refine ⟨_, if_neg (by simp [sensing_begin hs]), ?_⟩
    have hb : (w.toInt == -512 || w.toInt == 511) = o := by rw [ho, Bool.decide_or]; rfl
    dsimp only
    rw [hb]
    cases o <;> simp
  obtain ⟨f, he, hf⟩ := hstep
  refine ⟨_, o, next_clocked_of_runs hs.1, ?_, fun q hq => ?_, ho, ?_⟩ <;> rw [he]
  · rfl
  · rw [rail_modRail_ne _ _ _ _ hq]
    rfl
  · rw [rail_modRail_same _ _ _ r.isLt]
    exact hf

theorem vsWindow_raises {r : Fin 16} {s : State} (hs : s.Runs) (ho : (s.rail r).oowRun = 16) (ha : (s.rail r).vsArmed = true) :
    ∃ t, exec (.vsWindow r) s = .next t ∧ t = { s.msgs t with rails := t.rails } ∧ t.Waits 0x70 0 r ∧ OtherRails r s t ∧
      t.rail r = { s.rail r with vsArmed := false } := by
  obtain ⟨u, hu⟩ : ∃ u, u = s.begin.modRail r fun x => { x with vsArmed := false } := ⟨_, rfl⟩
  have hstep : vsWindow r s.begin = event 0x70 r u := by
    rw [hu]
    exact if_pos ⟨ho, ha⟩
  have hm : Only [.msgs] u (event 0x70 r u) := event_only _ _ _
  have hall : Only [.rails, .msgs] s.begin (event 0x70 r u) := only_then (hu ▸ modRail_only _ r _) hm
  refine ⟨_, (next_clocked_of_runs hs).trans (by rw [hstep]), eq_take_of_only hall, event_waits _ _ ?_, fun q hq => ?_, ?_⟩
  · rw [hu]
    exact hs.2
  · rw [only_rail hm, hu, rail_modRail_ne _ _ _ _ hq]
    rfl
  · rw [only_rail hm, hu, rail_modRail_same _ _ _ r.isLt]
    rfl

/-! ### The triggers of a voltage measurement (R139) -/

/-- An update of context `c` waits or runs. -/
abbrev State.Queued (s : State) (c : Nat) : Prop := s.eng.queue.any (fun q => q.ctx == c) = true

theorem enqueue_queue (at_ c : Nat) (s : State) :
    (enqueue at_ c s).eng.queue = s.eng.queue.filter (fun q => q.ctx != c || begun s q) ++ [⟨c, at_⟩] := by
  rw [enqueue_eq]
  split
  · rw [only_eng (event_only _ _ _), only_eng (perf_only _ _ _ _)]
    rfl
  · rfl

theorem enqueue_queued (at_ c : Nat) (s : State) : (enqueue at_ c s).Queued c := by
  rw [State.Queued, enqueue_queue]
  simp

/-- A trigger leaves the updates of other contexts. -/
theorem State.Queued.enqueue {c d : Nat} (h : s.Queued d) (hd : d ≠ c) (at_ : Nat) : (enqueue at_ c s).Queued d := by
  obtain ⟨q, hq, hc⟩ := List.any_eq_true.1 h
  rw [State.Queued, enqueue_queue]
  have hqd : q.ctx = d := by simpa using hc
  exact List.any_eq_true.2 ⟨q, List.mem_append_left _ (List.mem_filter.2 ⟨hq, by simp [hqd, hd]⟩), hc⟩

theorem triggerJoin_only (at_ r : Nat) (s : State) : Only [.eng, .perf, .msgs] s (triggerJoin at_ r s) :=
  only_foldl (fun t p => enqueue_only at_ (32 + p) t) _

/-- Triggers of joining phases leave the updates of voltage loops. -/
theorem State.Queued.triggerJoin {d : Nat} (h : s.Queued d) (hd : d < 32) (at_ r : Nat) : (triggerJoin at_ r s).Queued d :=
  foldl_keeps (P := fun t : State => t.Queued d) (fun t p ht => ht.enqueue (by omega) at_) _ h

/-- The triggers of a voltage measurement move of the rails only the place in the outer loop's decimation. -/
theorem triggerV_spec (at_ : Nat) (hr : r < 16) (s : State) :
    Only [.rails, .eng, .perf, .msgs] s (triggerV at_ r s) ∧ OtherRails r s (triggerV at_ r s) ∧
      (∃ n, (triggerV at_ r s).rail r = { s.rail r with cntOut := n }) ∧ (ctxActive s r = true → (triggerV at_ r s).Queued r) := by
  by_cases ha : ctxActive s r = true
  case neg =>
    have e : triggerV at_ r s = s := if_pos (by simp [ha])
    rw [e]
    exact ⟨only_refl, fun _ _ => rfl, ⟨_, rfl⟩, fun h => absurd h ha⟩
  obtain ⟨u, hu⟩ : ∃ u, u = triggerJoin at_ r (enqueue at_ r s) := ⟨_, rfl⟩
  have huo : Only [.eng, .perf, .msgs] s u := hu ▸ only_trans (enqueue_only at_ r s) (triggerJoin_only at_ r _)
  have huq : u.Queued r := hu ▸ (enqueue_queued at_ r s).triggerJoin (by omega) at_ r
  have hmod (n : Nat) : Only [.rails, .eng, .perf, .msgs] s (u.modRail r fun x => { x with cntOut := n }) ∧
      OtherRails r s (u.modRail r fun x => { x with cntOut := n }) ∧
      (u.modRail r fun x => { x with cntOut := n }).rail r = { s.rail r with cntOut := n } := by
    refine ⟨only_then (m := [.rails]) huo (modRail_only u r _), fun q hq => ?_, ?_⟩
    · rw [rail_modRail_ne _ _ _ _ hq, only_rail huo]
    · rw [rail_modRail_same _ _ _ hr, only_rail huo]
  have he : triggerV at_ r s = if (u.rail r).cntOut + 1 < (u.rail r).nOut then u.modRail r fun x => { x with cntOut := (u.rail r).cntOut + 1 }
      else enqueue at_ (16 + r) (u.modRail r fun x => { x with cntOut := 0 }) := by
    rw [hu]
    exact if_neg (by simp [ha])
  rw [he]
  split
  · obtain ⟨h1, h2, h3⟩ := hmod ((u.rail r).cntOut + 1)
    exact ⟨h1, h2, ⟨_, h3⟩, fun _ => huq⟩
  · obtain ⟨h1, h2, h3⟩ := hmod 0
    have hv := enqueue_only at_ (16 + r) (u.modRail r fun x => { x with cntOut := 0 })
    have hq : (u.modRail r fun x => { x with cntOut := 0 }).Queued r := huq
    exact ⟨only_then h1 hv, fun q hq => (only_rail hv q).trans (h2 q hq), ⟨_, (only_rail hv r).trans h3⟩,
      fun _ => hq.enqueue (by omega) at_⟩

/-! ### The end of a voltage measurement (R77, R89, R90, R198) -/

theorem voltageDue_of_grid {p c : Nat} (hl : leadOf s r = some p) (hc : counts s p = true) (hg : (s.ph p).gen.going = true)
    (hgrid : (voltageGrid s r (s.ph p).gen.curPer)[(s.rail r).vmN]? = some c) : voltageDue s r = some ((s.ph p).gen.org + c) := by
  unfold voltageDue
  rw [hl]
  dsimp only
  rw [if_neg (by simp [hc, hg]), hgrid]
  rfl

/-- The voltage loop's context of a rail is active while the rail runs (R32). -/
theorem ctxActive_rail (hr : r < 16) (s : State) : ctxActive s r = (s.rail r).st.running := by
  have hc : ctxRail s r = some r := if_pos hr
  rw [ctxActive, hc]
  simp [show r < 32 by omega]

/-- The conversions that a measurement uses, and their mean. -/
def usedWin (s : State) (r : Nat) : List WinConv := (s.rail r).win.take (fld (s.rr r 0x10) 19 16 + 1)
def meanWin (s : State) (r : Nat) : Rat :=
  sumR ((usedWin s r).map fun w => if w.oow then w.abs else w.v) / ((fld (s.rr r 0x10) 19 16 + 1 : Nat) : Rat)

/-- The rail once its measurement has ended at `t`. -/
def measured (s : State) (r t : Nat) (x : Rail) : Rail :=
  { x with vloop := scaledPU s (meanWin s r) (s.rr r 0x0C), oowCnt := satAdd 65535 x.oowCnt ((usedWin s r).countP (·.oow)), vmN := x.vmN + 1
           vmAt := t, uRef := refCode s r, uAng := angAt s (cksOf t), vdac := if ctxActive s r then vdacCode s r else x.vdac }

theorem voltageMeasurementEnd_due {t : Nat} (hs : sensing s = true) (hd : voltageDue s r = some t) (ht : t < nextCnt s)
    (hl : fld (s.rr r 0x10) 19 16 + 1 ≤ (s.rail r).win.length) :
    voltageMeasurementEnd r s =
      triggerV (cksOf t) r (perf 0x25 r ((usedWin s r).countP (·.oow)) (s.modRail r (measured s r t))) := by
  unfold voltageMeasurementEnd
  rw [hd]
  dsimp only
  rw [if_neg]
  · rfl
  · have hreg : Reg.RAIL_VSAMP = 0x10 := rfl
    simp only [hs, hreg, List.length_take, Bool.or_eq_true, Bool.not_true, Bool.false_eq_true, false_or, decide_eq_true_eq]
    omega

theorem voltageMeasurementEnd_acts {r : Fin 16} {p c : Nat} {s : State} (hs : s.Works) (hl : leadOf s r = some p)
    (hc : counts s p = true) (hg : (s.ph p).gen.going = true)
    (hgrid : (voltageGrid s r (s.ph p).gen.curPer)[(s.rail r).vmN]? = some c)
    (hf : (s.ph p).gen.org + c < (s.dev.frame + 1) * 400) (hw : fld (s.rr r 0x10) 19 16 + 1 ≤ (s.rail r).win.length) :
    ∃ t, exec (.voltageMeasurementEnd r) s = .next t ∧ (t.rail r).vmN = (s.rail r).vmN + 1 ∧
      (t.rail r).oowCnt = satAdd 65535 (s.rail r).oowCnt (((s.rail r).win.take (fld (s.rr r 0x10) 19 16 + 1)).countP (·.oow)) ∧
      (t.rail r).uRef = refCode s r ∧ (t.rail r).uAng = angAt s (cksOf ((s.ph p).gen.org + c)) ∧
      (t.rail r).vdac = (if ctxActive s r then vdacCode s r else (s.rail r).vdac) ∧
      (bf (s.rr r 0x0C) ≠ 0 → (t.rail r).vloop = toPU16
        (sumR (((s.rail r).win.take (fld (s.rr r 0x10) 19 16 + 1)).map fun w => if w.oow then w.abs else w.v)
          / ((fld (s.rr r 0x10) 19 16 + 1 : Nat) : Rat) / bf (s.rr r 0x0C))) ∧
      OtherRails r s t ∧ t.phases = s.phases ∧ t.bank = s.bank ∧
      (ctxActive s r = true → t.eng.queue.any (fun q => q.ctx == r.val) = true) := by
  have hdue := voltageDue_of_grid hl hc hg hgrid
  obtain ⟨a, ha⟩ : ∃ a, a = (s.ph p).gen.org + c := ⟨_, rfl⟩
  rw [← ha] at hdue hf ⊢
  obtain ⟨b, hb⟩ : ∃ b, b = s.begin none (voltageDue s r) := ⟨_, rfl⟩
  obtain ⟨v, hv⟩ : ∃ v, v = perf 0x25 r ((usedWin b r).countP (·.oow)) (b.modRail r (measured b r a)) := ⟨_, rfl⟩
  obtain ⟨t, ht⟩ : ∃ t, t = triggerV (cksOf a) r v := ⟨_, rfl⟩
  have hstep : voltageMeasurementEnd r b = t := by
    rw [ht, hv]
    exact voltageMeasurementEnd_due (hb ▸ sensing_begin hs) (hb ▸ hdue) (hb ▸ hf) (hb ▸ hw)
  have hbv : Only [.rails, .perf] b v := hv ▸ only_then (l := [.rails]) (modRail_only b r _) (perf_only _ _ _ _)
  have hvp : Only [.perf] (b.modRail r (measured b r a)) v := hv ▸ perf_only _ _ _ _
  obtain ⟨hto, hothers, ⟨n, hn⟩, hqueued⟩ := triggerV_spec (cksOf a) r.isLt v
  rw [← ht] at hto hothers hn hqueued
  -- the measured rail, past its place in the outer loop's decimation
  have hrail : t.rail r = { measured s r a (s.rail r) with cntOut := n, vloop := (measured b r a (s.rail r)).vloop } := by
    rw [hn, only_rail hvp, rail_modRail_same _ _ _ r.isLt, hb]
    rfl
  refine ⟨t, ?_, by rw [hrail]; rfl, by rw [hrail]; rfl, by rw [hrail]; rfl, by rw [hrail]; rfl, by rw [hrail]; rfl, fun hz => ?_,
    fun q hq => ?_, ?_, ?_, fun hact => hqueued ?_⟩
  · rw [← hstep, hb]
    exact next_clocked_of_runs hs.1
  · rw [hrail, hb]
    exact if_neg hz
  · rw [hothers q hq, only_rail hvp, rail_modRail_ne _ _ _ _ hq, hb]
    rfl
  · rw [only_phases hto, only_phases hbv, hb]
    rfl
  · rw [only_bank hto, only_bank hbv, hb]
    rfl
  · rw [ctxActive_rail r.isLt] at hact ⊢
    rw [only_rail hvp, rail_modRail_same _ _ _ r.isLt, hb]
    exact hact

end
end Sys2Proof.Machine

section
open Sys2Proof Sys2Proof.Machine

/-- Settles O32: the channels' conditions through what keeps them past a failure, the measurement through its triggers. -/
theorem windowAndAbsoluteSensing : Obligations.WindowAndAbsoluteSensing := by
  refine ⟨fun _ _ _ hs => windowConversion_puts hs, fun _ _ hs ho ha => vsWindow_raises hs ho ha, fun r s hs h0 hu => ?_,
    fun r s hs h0 hu => ?_, fun r s hs h0 hu => ?_, fun r s hs h0 hu => ?_,
    fun _ _ _ _ hs hl hc hg hgr hf hw => voltageMeasurementEnd_acts hs hl hc hg hgr hf hw⟩
  · obtain ⟨t, h1, h2, h3⟩ := vsRange_acts hs (judge_stands h0 hu)
    exact ⟨t, h1, h2, h3.2 rfl⟩
  · obtain ⟨t, h1, h2, h3⟩ := vsRange_acts hs (judge_clears h0 hu)
    exact ⟨t, h1, h2, fun h => Bool.false_ne_true (h3.1 h)⟩
  · obtain ⟨t, h1, h2, h3⟩ := vsFail_acts hs (judge_stands h0 hu)
    exact ⟨t, h1, h2, h3.2 rfl⟩
  · obtain ⟨t, h1, h2, h3⟩ := vsFail_acts hs (judge_clears h0 hu)
    exact ⟨t, h1, h2, fun h => Bool.false_ne_true (h3.1 h)⟩
end
end

section
/-! PROOFS: the cycle-by-cycle guard, the delay line, and the failures of a phase (R117, R118, R216, R225-R228, R233-R237, R255). -/

-- The package as one text: its declarations are elaborated one after another, to hold few threads.
set_option Elab.async false

namespace Sys2Proof.Machine

/-! ### The observer's step made again (R225, R238) -/

theorem obsRedo_only (p : Nat) (s : State) : Only [.phases] s (obsRedo p s) := by
  unfold obsRedo
  split
  · exact only_ite only_refl (modPh_only s p _)
  · exact only_refl

/-- The step made again moves the observer of its phase alone. -/
theorem obsRedo_ph (p q : Nat) (s : State) : (obsRedo p s).ph q = if q = p then
    { s.ph q with oest := ((obsRedo p s).ph q).oest, ores := ((obsRedo p s).ph q).ores, ncnt := ((obsRedo p s).ph q).ncnt
                  obs := ((obsRedo p s).ph q).obs } else s.ph q := by
  by_cases hq : q = p
  · rw [if_pos hq]
    unfold obsRedo
    split
    · split
      · rfl
      · dsimp only
        rw [ph_modPh]
        split <;> rfl
    · rfl
  · rw [if_neg hq]
    unfold obsRedo
    split
    · split
      · rfl
      · exact ph_modPh_ne _ _ _ _ hq
    · rfl

/-- Where the period's step has not been made, none is made again. -/
theorem obsRedo_of_none {p : Nat} {s : State} (h : (s.ph p).obs = none) : obsRedo p s = s := by
  unfold obsRedo
  rw [h]
  split
  · next h1 => simp at h1
  · rfl

/-! ### The guard's end of a pulse (R233-R237, R255) -/

/-- The generator with the pulse ended by its guard: after the low side's the high side rises, unless its own guard has ended it. -/
def Gen.endedBy (minpw : Nat) (high other : Bool) (n : Nat) (g : Gen) : Gen :=
  if !high && other then { endPulse minpw high n g with hpin := g.hpin, endHigh := false } else endPulse minpw high n g

/-- The phase once its guard has ended a pulse; `cut`: a trip or a brake took the outputs in this frame. -/
def Phase.guarded (minpw : Nat) (high rev cut : Bool) (n : Nat) (g : Gen) (x : Phase) : Phase :=
  { x with gen := if cut then x.gen else g.endedBy minpw high (if rev then x.endF else x.endR) n, endF := x.endF || !rev, endR := x.endR || rev
           cbcFwd := if rev then x.cbcFwd else satInc 65535 x.cbcFwd, cbcRev := if rev then satInc 65535 x.cbcRev else x.cbcRev
           cbcArmed := false, cbcQuiet := 0 }

theorem endedBy_high (minpw n : Nat) (other : Bool) (g : Gen) : (g.endedBy minpw true other n).hpin = g.hpin.endAt n ∧
    (g.endedBy minpw true other n).endHigh = false ∧ (g.lowCut = true → (g.endedBy minpw true other n).lpin = g.lpin) :=
  ⟨rfl, rfl, fun h => if_pos h⟩

theorem endedBy_low (minpw n : Nat) (other : Bool) (g : Gen) : (g.endedBy minpw false other n).lpin = g.lpin.endAt n ∧
    (other = true → (g.endedBy minpw false other n).hpin = g.hpin ∧ (g.endedBy minpw false other n).endHigh = false) ∧
    (other = false → (g.endedBy minpw false other n).endHigh = true ∧
      (g.endedBy minpw false other n).hpin = g.hpin.again (place1 g.fine (n + g.dthNow))) := by
  cases other <;> simp [Gen.endedBy, endPulse]

theorem cbcPulseEnd_eq {p : Nat} {rev : Bool} {n : Nat} {v : Rat} {s : State} {cut : Bool} {g : Gen} (hr : s.dev.rst = false)
    (hg : g = { (s.ph p).gen with hpin := (outputs s p).1, lpin := (outputs s p).2 })
    (hcut : cut = ((s.ph p).gen.going && (s.ph p).gen.cut == s.dev.frame + 1)) (hon : runsNow s p = true ∨ cut = true)
    (h1 : guardOn s p rev = true) (h2 : guardTrue s p rev v = true) (h3 : (if rev then (s.ph p).endR else (s.ph p).endF) = false)
    (h4 : guardSees { s.ph p with gen := g } (guardsHigh s p rev) n = true) :
    ∃ minpw u, u = s.modPh p (fun _ => (s.ph p).guarded minpw (guardsHigh s p rev) rev cut n g) ∧
      cbcPulseEnd p rev n v s = if (s.ph p).cbcArmed then event 0x34 p (perf 0x21 p 1 (obsRedo p u)) else perf 0x21 p 1 (obsRedo p u) := by
  refine ⟨fld (s.pr p 0x18) 31 24, _, rfl, ?_⟩
  subst hg hcut
  refine if_neg ?_
  have hon' : (runsNow s p || ((s.ph p).gen.going && (s.ph p).gen.cut == s.dev.frame + 1)) = true := by simpa using hon
  dsimp only
  rw [hr, hon', h1, h2, h3, h4]
  decide

theorem cbcPulseEnd_acts {p : Fin 48} {rev : Bool} {n : Nat} {v : Rat} {s : State} {cut : Bool} {g : Gen} (hs : s.Runs)
    (hg : g = { (s.ph p).gen with hpin := (outputs s p).1, lpin := (outputs s p).2 })
    (hcut : cut = ((s.ph p).gen.going && (s.ph p).gen.cut == s.dev.frame + 1)) (hon : runsNow s p = true ∨ cut = true)
    (h1 : guardOn s p rev = true) (h2 : guardTrue s p rev v = true) (h3 : (if rev then (s.ph p).endR else (s.ph p).endF) = false)
    (h4 : guardSees { s.ph p with gen := g } (guardsHigh s p rev) n = true) :
    ∃ t, exec (.cbcPulseEnd p rev n v) s = .next t ∧ t = { s.msgs t with phases := t.phases, perf := t.perf } ∧ OtherPhases p s t ∧
      (cut = true → (t.ph p).gen = (s.ph p).gen) ∧
      (cut = false → guardsHigh s p rev = true → (t.ph p).gen.hpin = g.hpin.endAt n ∧ (t.ph p).gen.endHigh = false ∧
        (g.lowCut = true → (t.ph p).gen.lpin = g.lpin)) ∧
      (cut = false → guardsHigh s p rev = false → (t.ph p).gen.lpin = g.lpin.endAt n ∧
        ((if rev then (s.ph p).endF else (s.ph p).endR) = true → (t.ph p).gen.hpin = g.hpin ∧ (t.ph p).gen.endHigh = false) ∧
        ((if rev then (s.ph p).endF else (s.ph p).endR) = false → (t.ph p).gen.endHigh = true ∧
          (t.ph p).gen.hpin = g.hpin.again (place1 g.fine (n + g.dthNow)))) ∧
      t.ph p = { s.ph p with gen := (t.ph p).gen, endF := (s.ph p).endF || !rev, endR := (s.ph p).endR || rev
                             cbcFwd := if rev then (s.ph p).cbcFwd else satInc 65535 (s.ph p).cbcFwd
                             cbcRev := if rev then satInc 65535 (s.ph p).cbcRev else (s.ph p).cbcRev
                             cbcArmed := false, cbcQuiet := 0, oest := (t.ph p).oest, ores := (t.ph p).ores
                             ncnt := (t.ph p).ncnt, obs := (t.ph p).obs } ∧
      ((s.ph p).obs = none → (t.ph p).oest = (s.ph p).oest ∧ (t.ph p).ncnt = (s.ph p).ncnt ∧ (t.ph p).obs = none) ∧
      ((s.ph p).cbcArmed = true → t.Waits 0x34 0 p) ∧ ((s.ph p).cbcArmed = false → t.fc = s.fc) := by
  obtain ⟨minpw, u, hu, he⟩ := cbcPulseEnd_eq (s := s.begin) (p := p) hs.1 hg hcut hon h1 h2 h3 h4
  have hunf : (s.begin.ph p).cbcArmed = (s.ph p).cbcArmed := rfl
  rw [hunf] at he
  obtain ⟨w, hw⟩ : ∃ w, w = perf 0x21 p 1 (obsRedo p u) := ⟨_, rfl⟩
  obtain ⟨t, ht⟩ : ∃ t, t = if (s.ph p).cbcArmed then event 0x34 p w else w := ⟨_, rfl⟩
  have huo : Only [.phases] s.begin u := hu ▸ modPh_only _ p _
  have huw : Only [.phases, .perf] u w := hw ▸ only_then (l := [.phases]) (obsRedo_only p u) (perf_only _ _ _ _)
  have hwt : Only [.msgs] w t := ht ▸ only_ite (event_only _ _ _) only_refl
  have hall : Only [.phases, .perf, .msgs] s.begin t :=
    only_then huo (only_then (n := [.phases, .perf, .msgs]) huw hwt)
  have hup : u.ph p = (s.ph p).guarded minpw (guardsHigh s p rev) rev cut n g := by
    rw [hu, ph_modPh_same _ _ _ p.isLt]
    rfl
  have htp (q : Nat) : t.ph q = (obsRedo p u).ph q := by rw [only_ph hwt, hw, only_ph (perf_only _ _ _ _)]
  have hgen : (t.ph p).gen = if cut then (s.ph p).gen
      else g.endedBy minpw (guardsHigh s p rev) (if rev then (s.ph p).endF else (s.ph p).endR) n := by
    rw [htp, obsRedo_ph, if_pos rfl, hup]
    rfl
  refine ⟨t, ?_, eq_take_of_only hall, fun q hq => ?_, fun hc => ?_, fun hc hh => ?_, fun hc hh => ?_, ?_, fun ho => ?_, fun ha => ?_,
    fun ha => ?_⟩
  · refine (next_clocked_of_runs hs).trans ?_
    rw [he, ht, hw]
  · rw [htp, obsRedo_ph, if_neg hq, hu, ph_modPh_ne _ _ _ _ hq]
    rfl
  · rw [hgen, if_pos hc]
  · rw [hgen, if_neg (by simp [hc]), hh]
    exact endedBy_high _ _ _ _
  · rw [hgen, if_neg (by simp [hc]), hh]
    exact endedBy_low _ _ _ _
  · have e := obsRedo_ph p p u
    rw [if_pos rfl, ← htp, hup] at e
    rw [hgen]
    exact e
  · have hob : (u.ph p).obs = none := by
      rw [hup]
      exact ho
    rw [htp, obsRedo_of_none hob, hup]
    exact ⟨rfl, rfl, ho⟩
  · rw [ht, if_pos ha]
    refine event_waits _ _ ?_
    rw [only_dev huw, only_dev huo]
    exact hs.2
  · rw [ht, if_neg (by simp [ha]), eq_take_of_only huw, eq_take_of_only huo]
    rfl

/-! ### The delay line (R117, R118) -/

theorem delayLineCalibration_acts {p : Fin 48} {ok : Bool} {s : State} (hs : s.Runs) :
    ∃ t, exec (.delayLineCalibration p ok) s = .next t ∧ t = { s.conds t with phases := t.phases } ∧ OtherPhases p s t ∧
      t.ph p = { s.ph p with gen := { (s.ph p).gen with dlok := ok } } ∧ (t.Stands 0x38 p ↔ ok = false) := by
  obtain ⟨u, hu⟩ : ∃ u, u = s.begin.modGen p fun g => { g with dlok := ok } := ⟨_, rfl⟩
  have hstep : delayLineCalibration p ok s.begin = setCond 0x38 p (!ok) u := by
    rw [hu]
    exact if_neg (by simp [hs.1, hs.2])
  have hut : Only [.msgs, .stand] u (setCond 0x38 p (!ok) u) := setCond_only _ _ _ _
  have huo : Only [.phases] s.begin u := hu ▸ modGen_only _ p _
  have hall : Only [.phases, .msgs, .stand] s.begin (setCond 0x38 p (!ok) u) := only_then huo hut
  refine ⟨_, (next_clocked_of_runs hs).trans (by rw [hstep]), eq_take_of_only hall, fun q hq => ?_, ?_, ?_⟩
  · rw [only_ph hut, hu, ph_modGen, if_neg (by simp [Ne.symm hq])]
    rfl
  · rw [only_ph hut, hu, ph_modGen, if_pos ⟨rfl, p.isLt⟩]
    rfl
  · rw [setCond_stands_iff]
    simp

/-! ### Sources raised once for a run (R216, R226, R228) -/

/-- A source is raised at a phase, which notes it. -/
theorem raisesOnce {p : Fin 48} {src : Nat} {f : Phase → Phase} {s : State} (hs : s.Runs) {c : Instr} {g : State → State}
    (hc : exec c s = .next (clocked g s.begin)) (hg : g s.begin = event src p (s.begin.modPh p f)) :
    ∃ t, exec c s = .next t ∧ t = { s.msgs t with phases := t.phases } ∧ OtherPhases p s t ∧ t.Waits src 0 p ∧ t.ph p = f (s.ph p) := by
  have hm : Only [.msgs] (s.begin.modPh p f) (event src p (s.begin.modPh p f)) := event_only _ _ _
  have hall : Only [.phases, .msgs] s.begin (event src p (s.begin.modPh p f)) := only_then (l := [.phases]) (modPh_only _ p f) hm
  refine ⟨_, hc.trans ((next_clocked_of_runs hs).trans (by rw [hg])), eq_take_of_only hall, fun q hq => ?_, event_waits _ _ hs.2, ?_⟩
  · rw [only_ph hm, ph_modPh_ne _ _ _ _ hq]
    rfl
  · rw [only_ph hm, ph_modPh_same _ _ _ p.isLt]
    rfl

/-- A command whose step does nothing only begins. -/
theorem next_clocked_idle {g : State → State} {s : State} (hg : g s.begin = s.begin) :
    (.next (clocked g s.begin) : Host.Outcome State Fault Refusal) = .next s.begin := by
  unfold clocked
  split
  · rfl
  · rw [hg]

end Sys2Proof.Machine

section
open Sys2Proof Sys2Proof.Machine

/-- Settles O40: the guard's end of a pulse through the generator it leaves, the failures through the one way a source is raised once. -/
theorem phaseGuardsAndFailures : Obligations.PhaseGuardsAndFailures := by
  refine ⟨fun _ _ _ _ _ _ _ hs hg hcut hon h1 h2 h3 h4 => cbcPulseEnd_acts hs hg hcut hon h1 h2 h3 h4,
    fun _ _ _ hs => delayLineCalibration_acts hs, fun p s hs hr hn hf => ?_, fun p s hs hr hn hf => ?_, fun p s hs hn hf => ?_,
    fun p s h => ?_, fun p s h => ?_, fun p s h => ?_, fun _ _ _ _ _ => ⟨rfl, rfl, rfl, rfl⟩⟩
  · refine raisesOnce (g := phSenseImpl p) (f := fun x => { x with senseRaised := true }) hs rfl (if_neg ?_)
    have h1 : decide ((s.begin.ph p).ncnt < fld (pmOf s.begin p 3) 23 16) = false := decide_eq_false (Nat.not_lt.2 hn)
    have h2 : (railOf s.begin p).isNone = false :=
      Bool.eq_false_iff.2 fun h => hr (Option.isNone_iff_eq_none.1 h)
    have h3 : (s.begin.ph p).senseRaised = false := hf
    rw [h1, h2, h3]
    decide
  · refine raisesOnce (g := phOpen p) (f := fun x => { x with openRaised := true }) hs rfl (if_neg ?_)
    have h1 : decide ((s.begin.ph p).ocnt < fld (pmOf s.begin p 3) 15 8) = false := decide_eq_false (Nat.not_lt.2 hn)
    have h2 : (railOf s.begin p).isNone = false :=
      Bool.eq_false_iff.2 fun h => hr (Option.isNone_iff_eq_none.1 h)
    have h3 : (s.begin.ph p).openRaised = false := hf
    rw [h1, h2, h3]
    decide
  · refine raisesOnce (g := phTrimsat p) (f := fun x => { x with tsat := true }) hs rfl (if_neg ?_)
    have h1 : decide ((s.begin.ph p).trimAt < 1024) = false := decide_eq_false (Nat.not_lt.2 hn)
    have h3 : (s.begin.ph p).tsat = false := hf
    rw [h1, h3]
    decide
  · exact next_clocked_idle (if_pos (by simp [h]))
  · exact next_clocked_idle (if_pos (by simp [h]))
  · exact next_clocked_idle (if_pos (by simp [h]))
end
end

section
/-! PROOFS: laws of the voltage loop's inputs: the gain table, the compare of a duty, the feed-forward (R147, R151, R153). -/

-- The package as one text: its declarations are elaborated one after another, to hold few threads.
set_option Elab.async false

namespace Sys2Proof.Machine

/-! ### The gain table (R147) -/

section
variable {s : State} {r : Nat}

/-- Breakpoints that rise one by one rise. -/
theorem lutX_lt (hx : ∀ j < 31, lutX s r j < lutX s r (j + 1)) {i j : Nat} (hij : i < j) (hj : j ≤ 31) : lutX s r i < lutX s r j := by
  induction j, hij using Nat.le_induction with
  | base => exact hx i (by omega)
  | succ j hij ih => exact (ih (by omega)).trans (hx j (by omega))

theorem lutX_le (hx : ∀ j < 31, lutX s r j < lutX s r (j + 1)) {i j : Nat} (hij : i ≤ j) (hj : j ≤ 31) : lutX s r i ≤ lutX s r j := by
  rcases hij.lt_or_eq with h | rfl
  · exact (lutX_lt hx h hj).le
  · exact le_rfl

/-- Of rising breakpoints, those up to `k` are the ones at or below an error between it and the next. -/
theorem lutX_count (hx : ∀ j < 31, lutX s r j < lutX s r (j + 1)) {k : Nat} (hk : k < 31) {e : Int} (h1 : lutX s r k ≤ e)
    (h2 : e < lutX s r (k + 1)) : ((List.range 31).filter fun j => lutX s r j ≤ e).length = k + 1 := by
  have hcount : ∀ j < 31, (decide (lutX s r j ≤ e) = decide (j < k + 1)) := by
    intro j hj
    rw [decide_eq_decide]
    constructor
    · intro hle
      by_contra hjk
      have := lutX_le hx (show k + 1 ≤ j by omega) (by omega)
      omega
    · intro hjk
      exact (lutX_le hx (show j ≤ k by omega) (by omega)).trans h1
  have hf : (List.range 31).filter (fun j => lutX s r j ≤ e) = (List.range 31).filter fun j => j < k + 1 :=
    List.filter_congr fun j hj => hcount j (List.mem_range.1 hj)
  rw [hf]
  clear hf hcount h1 h2 hx
  interval_cases k <;> decide

theorem lutGain_low {e : Int} (h1 : -32768 ≤ e) (h2 : e ≤ 32767) (h : e ≤ lutX s r 0) : lutGain s r e = lutG s r 0 := by
  unfold lutGain
  rw [clampI_of_mem h1 h2]
  exact if_pos h

theorem lutGain_high (hx : ∀ j < 31, lutX s r j < lutX s r (j + 1)) {e : Int} (h1 : -32768 ≤ e) (h2 : e ≤ 32767)
    (h : lutX s r 31 ≤ e) : lutGain s r e = lutG s r 31 := by
  have h0 := lutX_lt hx (show 0 < 31 by decide) le_rfl
  unfold lutGain
  rw [clampI_of_mem h1 h2]
  exact (if_neg (by omega)).trans (if_pos h)

/-- Between two breakpoints the gain is interpolated, with a slope rounded to BF24. -/
theorem lutGain_between (hx : ∀ j < 31, lutX s r j < lutX s r (j + 1)) {e : Int} (h1 : -32768 ≤ e) (h2 : e ≤ 32767) {k : Nat}
    (hk : k < 31) (h3 : lutX s r k ≤ e) (h4 : e < lutX s r (k + 1)) : lutGain s r e = lutG s r k +
      bf (toBF ((lutG s r (k + 1) - lutG s r k) / puI (lutX s r (k + 1) - lutX s r k))) * puI (e - lutX s r k) := by
  have h31 : ¬ lutX s r 31 ≤ e := by
    have := lutX_le hx (show k + 1 ≤ 31 by omega) le_rfl
    omega
  by_cases h0 : e ≤ lutX s r 0
  case pos =>
    -- at the first breakpoint the interpolation adds nothing
    have hk0 : k = 0 := by
      by_contra hne
      have := lutX_lt hx (show 0 < k by omega) (by omega)
      omega
    have he : e - lutX s r k = 0 := by
      subst hk0
      omega
    rw [lutGain_low h1 h2 h0, he, hk0]
    simp [puI]
  case neg =>
    unfold lutGain
    rw [clampI_of_mem h1 h2]
    dsimp only
    rw [if_neg h0, if_neg h31, lutX_count hx hk h3 h4, Nat.add_sub_cancel]

/-! ### The compare of a duty (R153) -/

theorem cmpOf_le {b : Bool} {d : Rat} {per : Nat} (hp : per < 65536) : cmpOf b d per < 4194304 := by
  unfold cmpOf
  generalize (if b = true then 1 - d else d) = h
  dsimp only
  split
  · decide
  · split
    · decide
    · next h0 h1 =>
      have h0 : 0 < h := not_le.1 h0
      have h1 : h < 1 := not_le.1 h1
      have hper : (per : Rat) ≤ 65535 := by exact_mod_cast (by omega : per ≤ 65535)
      have hx : |h * per * 64| + 1 / 2 < ((4194304 : Nat) : Rat) := by
        have hnn : 0 ≤ h * per * 64 := by positivity
        rw [abs_of_nonneg hnn]
        have : h * per ≤ 1 * 65535 := mul_le_mul h1.le hper (by positivity) (by norm_num)
        norm_num
        linarith
      have := natAbs_roundAway_lt.2 hx
      omega

theorem cmpOf_laws {b : Bool} {d h : Rat} {per : Nat} (hh : h = if b then 1 - d else d) :
    (h ≤ 0 → cmpOf b d per = 0) ∧ (1 ≤ h → cmpOf b d per = 0x3FFFFF) ∧
      (0 < h → h < 1 → (cmpOf b d per : Int) = roundAway (h * per * 64)) := by
  have he : cmpOf b d per = if h ≤ 0 then 0 else if 1 ≤ h then 0x3FFFFF else (roundAway (h * (per : Rat) * 64)).toNat := by
    rw [hh]
    rfl
  rw [he]
  refine ⟨fun h0 => if_pos h0, fun h1 => ?_, fun h0 h1 => ?_⟩
  · rw [if_neg (by linarith), if_pos h1]
  · rw [if_neg (by linarith), if_neg (by linarith), Int.toNat_of_nonneg (roundAway_nonneg (by positivity))]

/-! ### The feed-forward (R151) -/

theorem recipV_eq_max (v : Rat) : recipV v = bf (toBF (1 / max v (1 / 16))) := by
  unfold recipV
  by_cases h : v < 1 / 16
  · rw [if_pos h, max_eq_right h.le]
  · rw [if_neg h, max_eq_left (not_lt.1 h)]

theorem dff_law {own oth rho : Rat} (ho : own = pu (refCode s r)) (ht : oth = bf (s.actC r 0x0D) * pu (ffCode s r))
    (hr : rho = if ownInd s r then own * bf (toBF (1 / max oth (1 / 16))) else oth * bf (toBF (1 / max own (1 / 16)))) :
    dff s r = if ffsrc s r = 0x3F ∨ (s.rail r).ffLost = true then 0 else if topo s r = 1 then 1 - rho else rho := by
  have hrho : (if ownInd s r then pu (refCode s r) * recipV (otherPu s r) else otherPu s r * recipV (pu (refCode s r))) = rho := by
    rw [hr, recipV_eq_max, recipV_eq_max, ho, ht]
    rfl
  unfold dff
  dsimp only
  rw [hrho]
  by_cases hc : ffsrc s r = 0x3F ∨ (s.rail r).ffLost = true
  · rw [if_pos hc, if_pos (by simpa using hc)]
  · rw [if_neg hc, if_neg (by simpa using hc)]

end
end Sys2Proof.Machine
end

section
/-! PROOFS: ripple-table entries, and one learning step (R197, R199, R200). -/

-- The package as one text: its declarations are elaborated one after another, to hold few threads.
set_option Elab.async false

namespace Sys2Proof.Machine

/-! ### Halves of a register -/

theorem fld_low (w : Word) : fld w 15 0 = w.toNat % 65536 := by simp [fld]
theorem fld_high (w : Word) : fld w 31 16 = w.toNat / 65536 := by
  have := w.isLt
  simp only [fld, Nat.shiftRight_eq_div_pow]
  omega

theorem fld_setFld_low (w : Word) (v : Nat) : fld (setFld w 15 0 v) 15 0 = v % 65536 ∧ fld (setFld w 15 0 v) 31 16 = fld w 31 16 := by
  have hw := w.isLt
  simp only [fld_low, fld_high, setFld, BitVec.toNat_ofNat]
  omega

theorem fld_setFld_high (w : Word) (v : Nat) : fld (setFld w 31 16 v) 31 16 = v % 65536 ∧ fld (setFld w 31 16 v) 15 0 = fld w 15 0 := by
  have hw := w.isLt
  simp only [fld_low, fld_high, setFld, BitVec.toNat_ofNat]
  omega

/-- A code within SPU16 reads back signed. -/
theorem s16_c16 {x : Int} (h1 : -32768 ≤ x) (h2 : x ≤ 32767) : s16 (c16 x % 65536) = x := by
  simp only [s16, c16]
  omega

/-! ### Entries (R197) -/

/-- The word of a table that holds entry `i`. -/
def entryAddr (r i : Nat) : Nat := (0x60 + r) * 256 + 0x08 + i / 2

/-- The half of its word that entry `i` takes. -/
def entryHalf (i : Nat) (w : Word) : Nat := if i % 2 = 0 then fld w 15 0 else fld w 31 16

theorem tabEntry_eq (s : State) (r i : Nat) :
    tabEntry s r i = s16 (entryHalf i (s.reg (entryAddr r i))) * 256 + (s.reg (fracKey r i)).toInt := by
  have h : (0x60 + r) * 256 + (Reg.RTAB_E + i / 2) = entryAddr r i := (Nat.add_assoc _ _ _).symm
  simp only [tabEntry, entryHalf, State.tr, h]

theorem entryHalf_setFld (i j : Nat) (w : Word) (v : Nat) (h : j / 2 = i / 2) :
    entryHalf j (setFld w ((if i % 2 = 0 then 0 else 16) + 15) (if i % 2 = 0 then 0 else 16) v) =
      if j = i then v % 65536 else entryHalf j w := by
  obtain ⟨hl1, hl2⟩ := fld_setFld_low w v
  obtain ⟨hh1, hh2⟩ := fld_setFld_high w v
  unfold entryHalf
  by_cases hi : i % 2 = 0 <;> by_cases hj : j = i
  · subst hj
    simp only [hi, if_true, hl1]
  · have hj2 : j % 2 ≠ 0 := by omega
    simp only [hi, hj2, hj, if_true, if_false, hl2]
  · subst hj
    simp only [hi, if_true, if_false, hh1]
  · have hj2 : j % 2 = 0 := by omega
    simp only [hi, hj2, hj, if_true, if_false, hh2]

section
variable {s : State} {r i : Nat}

/-- The keys under which the entries of a rail's table are held. -/
def TableKey (r k : Nat) : Prop := ∃ i < 256, k = entryAddr r i ∨ k = fracKey r i

theorem setEntry_only (r i : Nat) (v : Int) (s : State) : Only [.bank] s (setEntry r i v s) :=
  only_trans (setReg_only s _ _) (setReg_only _ _ _)

theorem setEntry_reg (hi : i < 256) (v : Int) {k : Nat} (hk : ¬ TableKey r k) : (setEntry r i v s).reg k = s.reg k := by
  have h1 : k ≠ fracKey r i := fun h => hk ⟨i, hi, .inr h⟩
  have h2 : k ≠ entryAddr r i := fun h => hk ⟨i, hi, .inl h⟩
  exact (reg_setReg_ne h1).trans (reg_setReg_ne h2)

theorem setEntry_swf (hs : swf defaultWord s.bank) (v : Int) : swf defaultWord (setEntry r i v s).bank := setReg_swf (setReg_swf hs)

/-- The code that holds a value in 1/256 of a code: the nearest. -/
def entryCode (v : Int) : Int := clampI (-32768) 32767 (shrAway v 8)

theorem entryCode_bounds (v : Int) : -32768 ≤ entryCode v ∧ entryCode v ≤ 32767 := by
  unfold entryCode clampI
  split
  · decide
  · split
    · decide
    · omega

theorem setEntry_eq (r i : Nat) (v : Int) (s : State) : setEntry r i v s =
    (s.setReg (entryAddr r i) (setFld (s.reg (entryAddr r i)) ((if i % 2 = 0 then 0 else 16) + 15) (if i % 2 = 0 then 0 else 16)
      (c16 (entryCode v)))).setReg (fracKey r i) (BitVec.ofInt 32 (v - entryCode v * 256)) := rfl

/-- An entry written reads as written; the others keep theirs. -/
theorem tabEntry_setEntry (hs : swf defaultWord s.bank) (hi : i < 256) {j : Nat} (hj : j < 256) {v : Int}
    (hv : -8388608 ≤ v ∧ v ≤ 8388607) : tabEntry (setEntry r i v s) r j = if j = i then v else tabEntry s r j := by
  obtain ⟨hc1, hc2⟩ := entryCode_bounds v
  have hfrac : entryAddr r j ≠ fracKey r i := by
    unfold entryAddr fracKey
    omega
  have hword : (setEntry r i v s).reg (entryAddr r j) = if j / 2 = i / 2 then
      setFld (s.reg (entryAddr r i)) ((if i % 2 = 0 then 0 else 16) + 15) (if i % 2 = 0 then 0 else 16) (c16 (entryCode v))
      else s.reg (entryAddr r j) := by
    rw [setEntry_eq, reg_setReg_ne hfrac]
    by_cases h : j / 2 = i / 2
    · rw [if_pos h, show entryAddr r j = entryAddr r i by unfold entryAddr; omega, reg_setReg_same hs]
    · rw [if_neg h, reg_setReg_ne (by unfold entryAddr; omega)]
  have hkey : fracKey r j = fracKey r i ↔ j = i := by
    unfold fracKey
    omega
  by_cases h : j = i
  · subst h
    have hcode : s16 (c16 (entryCode v) % 65536) = entryCode v := s16_c16 hc1 hc2
    have hint : (BitVec.ofInt 32 (v - entryCode v * 256)).toInt = v - entryCode v * 256 := by
      rw [BitVec.toInt_ofInt]
      exact Int.bmod_eq_of_le (by omega) (by omega)
    rw [tabEntry_eq, hword, if_pos rfl, entryHalf_setFld j j _ _ rfl, if_pos rfl, hcode, setEntry_eq, reg_setReg_same (setReg_swf hs), hint,
      if_pos rfl]
    omega
  · have hfr : (setEntry r i v s).reg (fracKey r j) = s.reg (fracKey r j) := by
      rw [setEntry_eq, reg_setReg_ne fun e => h (hkey.1 e), reg_setReg_ne (by unfold entryAddr fracKey; omega)]
    rw [tabEntry_eq, hword, hfr, if_neg h, tabEntry_eq]
    by_cases h2 : j / 2 = i / 2
    · rw [if_pos h2, entryHalf_setFld i j _ _ h2, if_neg h, show entryAddr r j = entryAddr r i by unfold entryAddr; omega]
    · rw [if_neg h2]

/-! ### A learning step (R200) -/

/-- The entry that a learning step moves, and its value after it. -/
def learnIndex (s : State) (r : Nat) : Nat := (tabIndex s r + 256 - fld (s.tr r 0x88) 20 16) % 256
def learnValue (s : State) (r : Nat) (e : Int) : Int :=
  clampI (s16 (fld (s.tr r 0x8B) 15 0) * 256) (s16 (fld (s.tr r 0x8B) 31 16) * 256)
    (tabEntry s r (learnIndex s r) + roundAway (bf (s.tr r 0x8A) * (e : Rat) * 256))

theorem s16_bounds (n : Nat) : -32768 ≤ s16 n ∧ s16 n ≤ 32767 := by
  unfold s16
  omega

theorem learnValue_bounds (s : State) (r : Nat) (e : Int) : -8388608 ≤ learnValue s r e ∧ learnValue s r e ≤ 8388607 := by
  have h1 := s16_bounds (fld (s.tr r 0x8B) 15 0)
  have h2 := s16_bounds (fld (s.tr r 0x8B) 31 16)
  unfold learnValue clampI
  split
  · omega
  · split <;> omega

/-- `g` reads nothing of a rail that the inputs of its voltage loop move. -/
structure ReadsNoInputs {α : Type} (g : Rail → α) : Prop where
  notchK : ∀ x a b, g { x with notchK := a, notchDue := b } = g x
  notch : ∀ x a, g { x with notch := a } = g x
  rIdx : ∀ x a, g { x with rIdx := a } = g x
  rTerm : ∀ x a, g { x with rTerm := a } = g x
  learning : ∀ x a, g { x with learning := a } = g x
  saturation : ∀ x a b, g { x with satQuiet := b, rSat := a } = g x

/-- A value in the bounds of the table, or one at a bound, is written; the source is raised where it is not in bounds. -/
def learnWritten (r : Nat) (e : Int) (s : State) : State :=
  let t := setEntry r (learnIndex s r) (learnValue s r e) s
  if learnValue s r e = tabEntry s r (learnIndex s r) + roundAway (bf (s.tr r 0x8A) * (e : Rat) * 256) then
    t.modRail r fun x => { x with satQuiet := satInc 256 x.satQuiet, rSat := x.rSat && satInc 256 x.satQuiet != 256 }
  else (if (t.rail r).rSat then t else event Src.RTAB_SAT r t).modRail r fun x => { x with satQuiet := 0, rSat := true }

theorem learnStep_eq (r : Nat) (e : Int) (s : State) : learnStep r e s =
    if learns s r then learnWritten r e (s.modRail r fun x => { x with learning := learns s r })
    else s.modRail r fun x => { x with learning := learns s r } := by
  unfold learnStep
  by_cases h : learns s r = true
  · rw [if_pos h]
    exact if_neg (by simp [h])
  · rw [if_neg h]
    exact if_pos (by simp [h])

end
end Sys2Proof.Machine
end

section
/-! PROOFS: what the voltage loop reads, in states that differ in what its own update moves (R146-R154, R179, R198-R203). -/

-- The package as one text: its declarations are elaborated one after another, to hold few threads.
set_option Elab.async false

namespace Sys2Proof.Machine

/-- What the terms and the clamp of a voltage loop's output, and the test of BRAKE behind it, read of a rail. -/
structure OutTerms where
  ref : Nat
  vabs : Nat
  ffLost : Bool
  stopMode : Nat
  rampHi : Nat
  rampLo : Nat
  hi : Rat
  lo : Rat
  capUse : Nat
  rgCfg : List Word

def Rail.terms (x : Rail) : OutTerms := ⟨x.ref, x.vabs, x.ffLost, x.stopMode, x.rampHi, x.rampLo, x.hi, x.lo, x.capUse, x.rgCfg⟩

/-- What an update of the voltage loop reads of a rail beside its ripple handling. -/
structure LoopView where
  terms : OutTerms
  st : RailState
  target : Nat
  limdir : Nat
  limOut : Rat
  out : Rat
  plV : Option Rat
  w : Nat
  uRef : Nat
  uAng : Nat
  vloop : Nat

def Rail.loop (x : Rail) : LoopView := ⟨x.terms, x.st, x.target, x.limdir, x.limOut, x.out, x.plV, x.w, x.uRef, x.uAng, x.vloop⟩

/-- What an update of a voltage loop, and the engine around it, may move. -/
def loopParts : List Part := [.cyc, .clk, .bank, .rails, .phases, .eng, .perf, .msgs]

/-- The terms and the clamp of the output of rail `r` read the same in both states. -/
structure OutSame (r : Nat) (s t : State) : Prop where
  parts : Only loopParts s t
  regs : ∀ k, ¬ TableKey r k → t.reg k = s.reg k
  terms : t.railsBy Rail.terms = s.railsBy Rail.terms

/-- An update of the voltage loop of rail `r` reads the same in both states, but for its table and its ripple handling. -/
structure LoopSame (r : Nat) (s t : State) : Prop where
  parts : Only loopParts s t
  regs : ∀ k, ¬ TableKey r k → t.reg k = s.reg k
  phases : t.phases = s.phases
  loop : t.railsBy Rail.loop = s.railsBy Rail.loop

section
variable {r : Nat} {s t u : State}

theorem LoopSame.outSame (h : LoopSame r s t) : OutSame r s t :=
  ⟨h.parts, h.regs, funext fun q => congrArg LoopView.terms (congrFun h.loop q)⟩

theorem LoopSame.trans (h : LoopSame r s t) (g : LoopSame r t u) : LoopSame r s u :=
  ⟨only_trans h.parts g.parts, fun k hk => (g.regs k hk).trans (h.regs k hk), g.phases.trans h.phases, g.loop.trans h.loop⟩

theorem OutSame.trans (h : OutSame r s t) (g : OutSame r t u) : OutSame r s u :=
  ⟨only_trans h.parts g.parts, fun k hk => (g.regs k hk).trans (h.regs k hk), g.terms.trans h.terms⟩

theorem LoopSame.refl : LoopSame r s s := ⟨only_refl, fun _ _ => rfl, rfl, rfl⟩

/-- A change of parts that hold no registers, phases or rails. -/
theorem LoopSame.ofOnly {l : List Part} (h : Only l s t) (hl : l ⊆ loopParts := by decide) (hb : .bank ∉ l := by decide)
    (hp : .phases ∉ l := by decide) (hr : .rails ∉ l := by decide) : LoopSame r s t :=
  ⟨only_mono h hl, fun k _ => only_reg h k hb, only_phases h hp, only_railsBy h hr⟩

/-- A change of a rail that the loop does not read. -/
theorem loopSame_modRail (s : State) (q : Nat) {f : Rail → Rail} (hf : ∀ x, (f x).loop = x.loop) : LoopSame r s (s.modRail q f) :=
  ⟨only_mono (modRail_only s q f) (by decide), fun _ _ => rfl, rfl, railsBy_modRail s q hf⟩

/-- A change of a rail that the output's terms do not read. -/
theorem outSame_modRail (s : State) (q : Nat) {f : Rail → Rail} (hf : ∀ x, (f x).terms = x.terms) : OutSame r s (s.modRail q f) :=
  ⟨only_mono (modRail_only s q f) (by decide), fun _ _ => rfl, railsBy_modRail s q hf⟩

/-- A change of parts that hold no registers or rails. -/
theorem OutSame.ofOnly {l : List Part} (h : Only l s t) (hl : l ⊆ loopParts := by decide) (hb : .bank ∉ l := by decide)
    (hr : .rails ∉ l := by decide) : OutSame r s t :=
  ⟨only_mono h hl, fun k _ => only_reg h k hb, only_railsBy h hr⟩

/-! ### Registers that are no entry of the table -/

theorem not_tableKey {k : Nat} (hr : r < 16) (h : k < (0x60 + r) * 256 + 8 ∨ (0x60 + r) * 256 + 0x88 ≤ k ∧ k < 1048576) : ¬ TableKey r k := by
  rintro ⟨i, hi, rfl | rfl⟩
  · unfold entryAddr at h
    omega
  · unfold fracKey at h
    omega

/-- Slot `k` of the gang reads RUN for the rail (R327). -/
def gangSlotOf (s : State) (r k : Nat) : Bool :=
  bit (s.pg Pg.GANG (Reg.GANG_SLOT + k)) 31 && fld (s.pg Pg.GANG (Reg.GANG_SLOT + k)) 27 24 == r && s.gang.slotSt.getD k 0 == 1

theorem gangRef_eq (s : State) (r : Nat) : gangRef s r =
    if !(bit (s.pg Pg.GANG Reg.GANG_CFG) 31 && bit (s.pg Pg.GANG Reg.GANG_CFG) 30) then none else
    ((List.range 4).find? fun k => gangSlotOf s r k).map fun k =>
      bf (setFld (s.pg Pg.GANG (Reg.GANG_SLOT + k)) 31 24 0) * puI (s.gang.slotRef.getD k 0) := rfl

theorem OutSame.boundsOf (h : OutSame r s t) (hst : ((t.rail r).st == .stopping) = ((s.rail r).st == .stopping)) :
    boundsOf t r = Machine.boundsOf s r := by
  have e := congrFun h.terms r
  have h1 : (t.rail r).stopMode = (s.rail r).stopMode := congrArg OutTerms.stopMode e
  have h2 : (t.rail r).rampHi = (s.rail r).rampHi := congrArg OutTerms.rampHi e
  have h3 : (t.rail r).rampLo = (s.rail r).rampLo := congrArg OutTerms.rampLo e
  have h4 : (t.rail r).hi = (s.rail r).hi := congrArg OutTerms.hi e
  have h5 : (t.rail r).lo = (s.rail r).lo := congrArg OutTerms.lo e
  have h6 : (t.rail r).capUse = (s.rail r).capUse := congrArg OutTerms.capUse e
  simp only [Machine.boundsOf, hst, h1, h2, h3, h4, h5, h6]

section
variable (hr : r < 16) (h : OutSame r s t)
include hr h

theorem OutSame.rr {off : Nat} (ho : off < 256) : t.rr r off = s.rr r off := h.regs _ (not_tableKey hr (by omega))
theorem OutSame.pr {p off : Nat} (hp : p < 48) (ho : off < 256) : t.pr p off = s.pr p off := h.regs _ (not_tableKey hr (by omega))
theorem OutSame.actC {off : Nat} (ho : off < 256) : t.actC r off = s.actC r off :=
  h.regs _ (not_tableKey hr (by simp only [bankKey]; omega))
theorem OutSame.tr {off : Nat} (h1 : 0x88 ≤ off) (h2 : off < 256) : t.tr r off = s.tr r off := h.regs _ (not_tableKey hr (by omega))
theorem OutSame.gangReg {off : Nat} (ho : off < 256) : t.pg Pg.GANG off = s.pg Pg.GANG off :=
  h.regs _ (not_tableKey hr (by simp only [Pg.GANG]; omega))

/-! ### Terms of the output (R151-R154, R177, R181) -/

theorem OutSame.cascade : cascade t r = Machine.cascade s r := congrArg (bit · 2) (h.rr hr (by decide))
theorem OutSame.topo : topo t r = Machine.topo s r := congrArg (fld · 1 0) (h.rr hr (by decide))
theorem OutSame.railBase : railBase t r = Machine.railBase s r := by rw [Machine.railBase, h.rr hr (by decide)]; rfl

theorem OutSame.dlim (d : Rat) : dlim t r d = Machine.dlim s r d := by
  unfold Machine.dlim
  rw [h.actC hr (by decide)]

theorem OutSame.dff : dff t r = Machine.dff s r := by
  have hcfg : t.rr r Reg.RAIL_CFG = s.rr r Reg.RAIL_CFG := h.rr hr (by decide)
  have hffk : t.actC r Reg.RCOMP_FFK = s.actC r Reg.RCOMP_FFK := h.actC hr (by decide)
  have href : (t.rail r).ref = (s.rail r).ref := congrArg OutTerms.ref (congrFun h.terms r)
  have hlost : (t.rail r).ffLost = (s.rail r).ffLost := congrArg OutTerms.ffLost (congrFun h.terms r)
  have hvabs : ∀ q, (t.rail q).vabs = (s.rail q).vabs := fun q => congrArg OutTerms.vabs (congrFun h.terms q)
  have haux : t.aux = s.aux := only_aux h.parts
  unfold Machine.dff ffsrc ownInd Machine.topo otherPu ffCode ffsrc refCode
  dsimp only
  rw [hcfg, hffk, href, hlost, hvabs, haux]

theorem OutSame.gangRef : gangRef t r = Machine.gangRef s r := by
  have hg : t.gang = s.gang := only_gang h.parts
  have hreg : ∀ off < 256, t.pg Pg.GANG off = s.pg Pg.GANG off := fun off ho => h.gangReg hr ho
  have hslot : ∀ k < 4, t.pg Pg.GANG (Reg.GANG_SLOT + k) = s.pg Pg.GANG (Reg.GANG_SLOT + k) := by
    intro k hk
    have hlt : Reg.GANG_SLOT + k < 256 := by
      simp only [Reg.GANG_SLOT]
      omega
    exact hreg _ hlt
  have hfind : (List.range 4).find? (fun k => gangSlotOf t r k) = (List.range 4).find? fun k => gangSlotOf s r k :=
    List.find?_congr fun k hk => by
      unfold gangSlotOf
      rw [hslot k (List.mem_range.1 hk), hg]
  rw [gangRef_eq, gangRef_eq, hfind, hreg Reg.GANG_CFG (by decide)]
  cases hc : (List.range 4).find? fun k => gangSlotOf s r k with
  | none => rw [Option.map_none, Option.map_none]
  | some k =>
    have hk : k < 4 := List.mem_range.1 (List.mem_of_find?_eq_some hc)
    rw [Option.map_some, Option.map_some, hslot k hk, hg]

theorem OutSame.stages : stagesOf (t.actC r) 0x10 = stagesOf (s.actC r) 0x10 := by
  unfold stagesOf
  refine List.map_congr_left fun i hi => ?_
  have hi : i < 6 := List.mem_range.1 hi
  have hw : ∀ j < 7, t.actC r (0x10 + 7 * i + j) = s.actC r (0x10 + 7 * i + j) := fun j hj => h.actC hr (by omega)
  have h0 := hw 0 (by decide)
  have h6 := hw 6 (by decide)
  have hk : (List.range 5).map (fun j => t.actC r (0x10 + 7 * i + 1 + j)) = (List.range 5).map fun j => s.actC r (0x10 + 7 * i + 1 + j) :=
    List.map_congr_left fun j hj => by
      have := List.mem_range.1 hj
      rw [Nat.add_assoc _ 1 j]
      exact hw (1 + j) (by omega)
  simp only [Nat.add_zero] at h0
  simp only [stgAt, h0, h6, hk]

end

/-! ### Inputs of the loop (R146, R147, R198, R199, R203) -/

section
variable (hr : r < 16) (h : LoopSame r s t)
include h

theorem LoopSame.st : (t.rail r).st = (s.rail r).st := congrArg LoopView.st (congrFun h.loop r)
theorem LoopSame.plV : (t.rail r).plV = (s.rail r).plV := congrArg LoopView.plV (congrFun h.loop r)
theorem LoopSame.w : (t.rail r).w = (s.rail r).w := congrArg LoopView.w (congrFun h.loop r)
theorem LoopSame.limdir : (t.rail r).limdir = (s.rail r).limdir := congrArg LoopView.limdir (congrFun h.loop r)

theorem LoopSame.limited : limited t r = Machine.limited s r := by
  rw [Machine.limited, h.st, h.limdir]
  rfl

theorem LoopSame.ph (p : Nat) : t.ph p = s.ph p := by rw [State.ph, h.phases]; rfl

theorem LoopSame.weight : weight t r = Machine.weight s r := by
  rw [Machine.weight, h.w, blendLen, only_grid h.parts]
  rfl

theorem LoopSame.gained (hb : t.bank = s.bank) (e : Int) : gained t r e = Machine.gained s r e := by
  have hcup : t.cup = s.cup := only_cup h.parts
  unfold Machine.gained lutGain lutX lutG State.actC State.reg
  rw [hb, hcup]

include hr

theorem LoopSame.activeOf : activeOf t r = Machine.activeOf s r :=
  activeOf_congr (fun _ hp => h.outSame.pr hr hp (by decide)) (fun p => by rw [h.ph]) r

theorem LoopSame.errV : errV t r = Machine.errV s r := by
  have h1 : (t.rail r).uRef = (s.rail r).uRef := congrArg LoopView.uRef (congrFun h.loop r)
  have h2 : (t.rail r).vloop = (s.rail r).vloop := congrArg LoopView.vloop (congrFun h.loop r)
  have h3 : t.rr r Reg.RAIL_CFG = s.rr r Reg.RAIL_CFG := h.outSame.rr hr (by decide)
  unfold Machine.errV qtyInv
  rw [h1, h2, h3]

theorem LoopSame.tabIndex : tabIndex t r = Machine.tabIndex s r := by
  have h1 : (t.rail r).uAng = (s.rail r).uAng := congrArg LoopView.uAng (congrFun h.loop r)
  have h2 : t.tr r 0x88 = s.tr r 0x88 := h.outSame.tr hr (by decide) (by decide)
  unfold Machine.tabIndex
  rw [h1, h2]

theorem LoopSame.rtabMode : rtabMode t r = Machine.rtabMode s r := congrArg (fld · 31 30) (h.outSame.tr hr (by decide) (by decide))

theorem LoopSame.learns : learns t r = Machine.learns s r := by
  have h1 : t.tr r 0x89 = s.tr r 0x89 := h.outSame.tr hr (by decide) (by decide)
  have h2 : t.cup = s.cup := only_cup h.parts
  have h3 : t.grid = s.grid := only_grid h.parts
  simp only [Machine.learns, h.rtabMode hr, h1, h3, h.w, h.st, blendLen, injecting, h2]

end
end
end Sys2Proof.Machine
end

section
/-! PROOFS: the inputs of an update of the voltage loop: error, gain table, notch and blend, ripple term, learning (R93, R146, R147, R198-R203). -/

-- The package as one text: its declarations are elaborated one after another, to hold few threads.
set_option Elab.async false

namespace Sys2Proof.Machine

section
variable {s : State} {r : Nat}

theorem tabEntry_congr {s t : State} (h : t.bank = s.bank) (i : Nat) : tabEntry t r i = tabEntry s r i := by
  simp only [tabEntry, State.tr, State.reg, h]

/-! ### A learning step (R199, R200) -/

theorem learnWritten_railsBy {α : Type} {g : Rail → α} (hg : ReadsNoInputs g) (r : Nat) (e : Int) (s : State) :
    (learnWritten r e s).railsBy g = s.railsBy g := by
  unfold learnWritten
  extract_lets t
  have ht : t.railsBy g = s.railsBy g := only_railsBy (setEntry_only r _ _ s)
  refine railsBy_ite ((railsBy_modRail t r fun x => hg.saturation x _ _).trans ht) ?_
  refine (railsBy_modRail _ r fun x => hg.saturation x _ _).trans ?_
  exact railsBy_ite ht ((only_railsBy (event_only t _ _)).trans ht)

theorem learnWritten_only (r : Nat) (e : Int) (s : State) : Only [.bank, .rails, .msgs] s (learnWritten r e s) := by
  unfold learnWritten
  extract_lets t
  have ht : Only [.bank] s t := setEntry_only r _ _ s
  refine only_ite (only_then ht (modRail_only t r _)) ?_
  refine only_then (l := [.bank, .msgs]) ?_ (modRail_only _ r _)
  exact only_ite (only_mono ht) (only_then ht (event_only t _ _))

theorem learnWritten_bank (r : Nat) (e : Int) (s : State) :
    (learnWritten r e s).bank = (setEntry r (learnIndex s r) (learnValue s r e) s).bank := by
  unfold learnWritten
  extract_lets t
  split
  · rfl
  · show (if (t.rail r).rSat then t else event Src.RTAB_SAT r t).bank = t.bank
    split
    · rfl
    · exact only_bank (event_only t _ _)

theorem learnStep_railsBy {α : Type} {g : Rail → α} (hg : ReadsNoInputs g) (r : Nat) (e : Int) (s : State) :
    (learnStep r e s).railsBy g = s.railsBy g := by
  have hl : (s.modRail r fun x => { x with learning := learns s r }).railsBy g = s.railsBy g := railsBy_modRail s r fun x => hg.learning x _
  rw [learnStep_eq]
  exact railsBy_ite ((learnWritten_railsBy hg r e _).trans hl) hl

theorem learnStep_only (r : Nat) (e : Int) (s : State) : Only [.bank, .rails, .msgs] s (learnStep r e s) := by
  rw [learnStep_eq]
  exact only_ite (only_then (modRail_only s r _) (learnWritten_only r e _)) (only_mono (modRail_only s r _))

theorem loop_readsNoInputs : ReadsNoInputs Rail.loop :=
  ⟨fun _ _ _ => rfl, fun _ _ => rfl, fun _ _ => rfl, fun _ _ => rfl, fun _ _ => rfl, fun _ _ _ => rfl⟩
theorem irail_readsNoInputs : ReadsNoInputs Rail.irail :=
  ⟨fun _ _ _ => rfl, fun _ _ => rfl, fun _ _ => rfl, fun _ _ => rfl, fun _ _ => rfl, fun _ _ _ => rfl⟩

section
variable {t : State} (hr : r < 16) (h : LoopSame r s t)
include hr h

theorem LoopSame.learnIndex : learnIndex t r = Machine.learnIndex s r := by
  rw [Machine.learnIndex, h.tabIndex hr, h.outSame.tr hr (by decide) (by decide)]
  rfl

theorem LoopSame.learnValue (hb : t.bank = s.bank) (e : Int) : learnValue t r e = Machine.learnValue s r e := by
  rw [Machine.learnValue, h.learnIndex hr, tabEntry_congr hb, h.outSame.tr hr (by decide) (by decide), h.outSame.tr hr (by decide) (by decide)]
  rfl

end

/-- What a learning step writes: one entry, where the table learns. -/
theorem learnStep_bank (hr : r < 16) (e : Int) (s : State) : (learnStep r e s).bank =
    if learns s r then (setEntry r (learnIndex s r) (learnValue s r e) s).bank else s.bank := by
  obtain ⟨v, hv⟩ : ∃ v, v = s.modRail r fun x => { x with learning := learns s r } := ⟨_, rfl⟩
  have hsame : LoopSame r s v := hv ▸ loopSame_modRail s r fun _ => rfl
  have hb : v.bank = s.bank := by rw [hv]; rfl
  have hset : (setEntry r (learnIndex s r) (learnValue s r e) v).bank = (setEntry r (learnIndex s r) (learnValue s r e) s).bank := by
    rw [hv]
    rfl
  rw [learnStep_eq, ← hv]
  split
  · rw [learnWritten_bank, hsame.learnIndex hr, hsame.learnValue hr hb, hset]
  · exact hb

theorem learnIndex_lt (s : State) (r : Nat) : learnIndex s r < 256 := Nat.mod_lt _ (by decide)

theorem learnStep_tabEntry (hs : swf defaultWord s.bank) (hr : r < 16) (e : Int) {i : Nat} (hi : i < 256) :
    tabEntry (learnStep r e s) r i =
      if learns s r = true ∧ i = learnIndex s r then learnValue s r e else tabEntry s r i := by
  have hb := learnStep_bank hr e s
  by_cases hl : learns s r = true
  · rw [if_pos hl] at hb
    rw [tabEntry_congr (s := setEntry r (learnIndex s r) (learnValue s r e) s) hb,
      tabEntry_setEntry hs (learnIndex_lt s r) hi (learnValue_bounds s r e)]
    by_cases h : i = learnIndex s r
    · rw [if_pos h, if_pos ⟨hl, h⟩]
    · rw [if_neg h, if_neg fun hc => h hc.2]
  · rw [if_neg hl] at hb
    rw [tabEntry_congr hb, if_neg fun hc => hl hc.1]

theorem learnStep_loopSame (hr : r < 16) (e : Int) (s : State) : LoopSame r s (learnStep r e s) := by
  refine ⟨only_mono (learnStep_only r e s) (by decide), fun k hk => ?_, only_phases (learnStep_only r e s),
    learnStep_railsBy loop_readsNoInputs r e s⟩
  have hb := learnStep_bank hr e s
  by_cases hl : learns s r = true
  · rw [if_pos hl] at hb
    have e1 : (learnStep r e s).reg k = (setEntry r (learnIndex s r) (learnValue s r e) s).reg k := by rw [State.reg, hb]; rfl
    rw [e1, setEntry_reg (learnIndex_lt s r) _ hk]
  · rw [if_neg hl] at hb
    rw [State.reg, hb]
    rfl

/-! ### Rail current, notch, blend and ripple term (R93, R198, R202, R203) -/

/-- The rail's current is that of its ACTIVE phases. -/
def sensed (r : Nat) (s : State) : State := s.modRail r fun x => { x with irail := irailOf s r }

/-- The input of stage 0: the gained error, blended with the notch (R203). -/
def blendOf (s : State) (r : Nat) : Rat :=
  let g := gained s r (errV s r)
  if rtabMode s r = 0 then g else weight s r * g + (1 - weight s r) * ((notchStage s r).run (s.rail r).notch (sigOf g)).2.val

/-- The ripple term (R198). -/
def termOf (s : State) (r : Nat) : Rat :=
  if rtabMode s r = 0 then 0 else weight s r * ((tabEntry s r (tabIndex s r) : Rat) / 4194304)

/-- Only rails have moved, and of them nothing but ripple handling; the notch stands as it was. -/
structure InputsMoved (r : Nat) (s t : State) : Prop where
  parts : Only [.rails] s t
  kept : ∀ {α : Type} {g : Rail → α}, ReadsNoInputs g → t.railsBy g = s.railsBy g

theorem InputsMoved.loopSame {s t : State} (h : InputsMoved r s t) : LoopSame r s t :=
  ⟨only_mono h.parts (by decide), fun k _ => only_reg h.parts k, only_phases h.parts, h.kept loop_readsNoInputs⟩

theorem InputsMoved.refl : InputsMoved r s s := ⟨only_refl, fun _ => rfl⟩
theorem InputsMoved.trans {s t u : State} (h : InputsMoved r s t) (k : InputsMoved r t u) : InputsMoved r s u :=
  ⟨only_trans h.parts k.parts, fun hg => (k.kept hg).trans (h.kept hg)⟩

theorem notchUpdate_moved (r : Nat) (s : State) : InputsMoved r s (notchUpdate r s) := by
  unfold notchUpdate
  split
  · exact .refl
  · exact ⟨modRail_only s r _, fun hg => railsBy_modRail s r fun x => hg.notchK x _ _⟩

theorem blendInput_moved (r : Nat) (e : Rat) (s : State) : InputsMoved r s (blendInput r e s).1 := by
  unfold blendInput
  split
  · exact .refl
  · exact ⟨modRail_only s r _, fun hg => railsBy_modRail s r fun x => hg.notch x _⟩

theorem rippleTerm_moved (r : Nat) (s : State) : InputsMoved r s (rippleTerm r s).1 := by
  have h1 (i : Nat) : InputsMoved r s (s.modRail r fun x => { x with rIdx := i }) :=
    ⟨modRail_only s r _, fun hg => railsBy_modRail s r fun x => hg.rIdx x _⟩
  have h2 (t : State) (v : Int) : InputsMoved r t (t.modRail r fun x => { x with rTerm := v }) :=
    ⟨modRail_only t r _, fun hg => railsBy_modRail t r fun x => hg.rTerm x _⟩
  unfold rippleTerm
  split
  · exact .refl
  · dsimp only
    split
    · exact h1 _
    · exact (h1 _).trans (h2 _ _)

/-- Without ripple handling there is no ripple term; under the limiter or in DRIP there is none either. -/
theorem rippleTerm_term (h : rtabMode s r = 0 ∨ limited s r = false ∧ (s.rail r).st ≠ .drip) : (rippleTerm r s).2 = termOf s r := by
  unfold rippleTerm termOf
  by_cases h0 : rtabMode s r = 0
  · rw [if_pos h0, if_pos h0]
  · obtain ⟨hl, hd⟩ := h.resolve_left h0
    obtain ⟨v, hv⟩ : ∃ v, v = s.modRail r fun x => { x with rIdx := tabIndex s r } := ⟨_, rfl⟩
    have hsame : LoopSame r s v := hv ▸ loopSame_modRail s r fun _ => rfl
    have htab : tabEntry v r (tabIndex s r) = tabEntry s r (tabIndex s r) := tabEntry_congr (by rw [hv]; rfl) _
    rw [if_neg h0, if_neg h0, ← hsame.weight, ← htab]
    dsimp only
    rw [← hv, if_neg (by simp [hsame.limited, hl, hsame.st, hd])]

/-- The input of stage 0 as blendInput forms it. -/
theorem blendInput_input (s : State) (r : Nat) : (blendInput r (gained s r (errV s r)) s).2 = blendOf s r := by
  unfold blendInput blendOf
  dsimp only
  split <;> rfl

/-! ### The update up to its stages -/

theorem switchAtUpdate_off (hp : (s.rail r).pend = false) : switchAtUpdate r s = s := by
  unfold switchAtUpdate switchIfPending
  split
  · rfl
  · exact if_neg (by simp [hp])

/-- In the states in which the loop drives the rail, with no commit pending and no injection, the update is: the inputs, then the stages. -/
theorem vUpdate_eq (hp : (s.rail r).pend = false) (hd : (s.rail r).st ≠ .drip) (hb : (s.rail r).st ≠ .brake) (hc : s.cup.run = false) :
    vUpdate r s =
      let v := notchUpdate r (sensed r s)
      let b := blendInput r (gained v r (errV v r)) v
      let c := rippleTerm r b.1
      let u := if rtabMode c.1 r = 0 then c.1 else learnStep r (errV v r) c.1
      brakeTest r (errV v r) (if limited u r then vLimited r b.2 u else vFree r b.2 c.2 u) := by
  obtain ⟨v, hv⟩ : ∃ v, v = notchUpdate r (sensed r s) := ⟨_, rfl⟩
  have hsense : LoopSame r s (sensed r s) := loopSame_modRail s r fun _ => rfl
  have hsame : LoopSame r s v := hv ▸ hsense.trans (notchUpdate_moved r _).loopSame
  have hcup : v.cup = s.cup := only_cup hsame.parts
  have hleave : leaveAtUpdate r v = v := by
    unfold leaveAtUpdate
    dsimp only
    rw [hsame.st]
    split
    · rfl
    · rw [if_neg (by simp [hd]), if_neg (by simp [hb])]
  have hbounds : cupBounds r v = v := if_pos (by simp [adapting, hcup, hc])
  obtain ⟨b, hbd⟩ : ∃ b, b = blendInput r (gained v r (errV v r)) v := ⟨_, rfl⟩
  have hbcup : b.1.cup = s.cup := (only_cup (hbd ▸ blendInput_moved r _ v).parts).trans hcup
  have hinj : inject r b.2 b.1 = (b.1, b.2) := if_pos (by simp [injecting, hbcup, hc])
  unfold vUpdate
  rw [switchAtUpdate_off hp]
  dsimp only
  rw [← sensed, ← hv, hleave, hbounds, ← hbd, hinj]

/-- The input of stage 0 in a state that reads the same, with the same notch where there is one. -/
theorem blendOf_congr {s t : State} (hr : r < 16) (h : LoopSame r s t) (hb : t.bank = s.bank)
    (hn : rtabMode s r = 0 ∨ (t.rail r).notch = (s.rail r).notch ∧ (t.rail r).notchK = (s.rail r).notchK) : blendOf t r = blendOf s r := by
  unfold blendOf
  dsimp only
  rw [h.gained hb, h.errV hr, h.rtabMode hr, h.weight]
  by_cases h0 : rtabMode s r = 0
  · rw [if_pos h0, if_pos h0]
  · obtain ⟨h1, h2⟩ := hn.resolve_left h0
    rw [if_neg h0, if_neg h0, h1, show notchStage t r = notchStage s r from by unfold notchStage; rw [h2]]

theorem termOf_congr {s t : State} (hr : r < 16) (h : LoopSame r s t) (hb : t.bank = s.bank) : termOf t r = termOf s r := by
  unfold termOf
  rw [h.rtabMode hr, h.weight, h.tabIndex hr, tabEntry_congr hb]

/-- The inputs of an update, read off the state it begins in, and the state its stages find. -/
theorem vUpdate_inputs (hr : r < 16) (hs : swf defaultWord s.bank) (hp : (s.rail r).pend = false) (hd : (s.rail r).st ≠ .drip)
    (hb : (s.rail r).st ≠ .brake) (hc : s.cup.run = false) (hn : rtabMode s r = 0 ∨ (s.rail r).notchDue = false)
    (hl : rtabMode s r = 0 ∨ limited s r = false) :
    ∃ u, LoopSame r s u ∧ (u.rail r).irail = irailOf s r ∧ swf defaultWord u.bank ∧ u.eng = s.eng ∧
      (∀ i < 256, tabEntry u r i =
        if learns s r = true ∧ i = learnIndex s r then learnValue s r (errV s r) else tabEntry s r i) ∧
      vUpdate r s = brakeTest r (errV s r)
        (if limited s r then vLimited r (blendOf s r) u else vFree r (blendOf s r) (termOf s r) u) := by
  obtain ⟨v, hv⟩ : ∃ v, v = notchUpdate r (sensed r s) := ⟨_, rfl⟩
  obtain ⟨b, hbd⟩ : ∃ b, b = blendInput r (gained v r (errV v r)) v := ⟨_, rfl⟩
  obtain ⟨c, hcd⟩ : ∃ c, c = rippleTerm r b.1 := ⟨_, rfl⟩
  obtain ⟨u, hu⟩ : ∃ u, u = if rtabMode c.1 r = 0 then c.1 else learnStep r (errV v r) c.1 := ⟨_, rfl⟩
  have hvm : InputsMoved r (sensed r s) v := hv ▸ notchUpdate_moved r _
  have hbm : InputsMoved r v b.1 := hbd ▸ blendInput_moved r _ v
  have hcm : InputsMoved r b.1 c.1 := hcd ▸ rippleTerm_moved r b.1
  have hss : LoopSame r s (sensed r s) := loopSame_modRail s r fun _ => rfl
  have hsv : LoopSame r s v := hss.trans hvm.loopSame
  have hsb : LoopSame r s b.1 := hsv.trans hbm.loopSame
  have hsc : LoopSame r s c.1 := hsb.trans hcm.loopSame
  have hvb : v.bank = s.bank := (only_bank hvm.parts).trans rfl
  have hbb : b.1.bank = s.bank := (only_bank hbm.parts).trans hvb
  have hcb : c.1.bank = s.bank := (only_bank hcm.parts).trans hbb
  have hsense : (sensed r s).rail r = { s.rail r with irail := irailOf s r } := rail_modRail_same _ _ _ hr
  -- what the stages take in
  have hnotch : rtabMode s r = 0 ∨ (v.rail r).notch = (s.rail r).notch ∧ (v.rail r).notchK = (s.rail r).notchK := by
    refine hn.imp_right fun h => ?_
    have e : v = sensed r s := by
      rw [hv]
      exact if_pos (by rw [hsense]; simp [h])
    rw [e, hsense]
    exact ⟨rfl, rfl⟩
  have hin : b.2 = blendOf s r := by
    rw [hbd, blendInput_input, blendOf_congr hr hsv hvb hnotch]
  have hterm : c.2 = termOf s r := by
    rw [hcd, rippleTerm_term, termOf_congr hr hsb hbb]
    rw [hsb.rtabMode hr, hsb.limited, hsb.st]
    exact hl.imp_right fun h => ⟨h, hd⟩
  have hcu : LoopSame r c.1 u := by
    rw [hu]
    split
    · exact .refl
    · exact learnStep_loopSame hr _ _
  have hsu : LoopSame r s u := hsc.trans hcu
  have hparts : Only [.bank, .rails, .msgs] c.1 u := hu ▸ only_ite only_refl (learnStep_only r _ _)
  have heng : u.eng = s.eng := by
    rw [only_eng hparts, only_eng hcm.parts, only_eng hbm.parts, only_eng hvm.parts]
    rfl
  have hswf : swf defaultWord u.bank := by
    rw [hu]
    split
    · rw [hcb]
      exact hs
    · rw [learnStep_bank hr]
      split
      · exact setEntry_swf (hcb ▸ hs) _
      · rw [hcb]
        exact hs
  have hirail : (u.rail r).irail = irailOf s r := by
    have h1 : u.railsBy Rail.irail = c.1.railsBy Rail.irail := by
      rw [hu]
      split
      · rfl
      · exact learnStep_railsBy irail_readsNoInputs _ _ _
    have h2 := congrFun (h1.trans ((hcm.kept irail_readsNoInputs).trans ((hbm.kept irail_readsNoInputs).trans
      (hvm.kept irail_readsNoInputs)))) r
    refine h2.trans ?_
    rw [State.railsBy, hsense]
  refine ⟨u, hsu, hirail, hswf, heng, fun i hi => ?_, ?_⟩
  · have hlearns : learns c.1 r = learns s r := hsc.learns hr
    rw [hu]
    split
    · next h0 =>
      have hoff : learns s r = false := by
        rw [hsc.rtabMode hr] at h0
        simp [learns, h0]
      rw [tabEntry_congr hcb, if_neg (by simp [hoff])]
    · rw [learnStep_tabEntry (hcb ▸ hs) hr _ hi, hlearns, hsc.learnIndex hr, hsv.errV hr, hsc.learnValue hr hcb,
        tabEntry_congr hcb]
  · rw [vUpdate_eq hp hd hb hc]
    dsimp only
    rw [← hv, ← hbd, ← hcd, ← hu, hsu.limited, hin, hterm, hsv.errV hr]

end
end Sys2Proof.Machine
end

section
/-! PROOFS: the output of a voltage loop reaches its phases; BRAKE after it (R125, R152-R154, R222, R223). -/

-- The package as one text: its declarations are elaborated one after another, to hold few threads.
set_option Elab.async false

namespace Sys2Proof.Machine

section
variable {s t u : State} {r p : Nat}

/-! ### Complete sets (R125, R153) -/

def cmpAddr (p : Nat) : Nat := (0x20 + p) * 256 + 0x1B
def ofsAddr (p : Nat) : Nat := (0x20 + p) * 256 + 0x1D

/-- A BOOST phase's duty is that of the low side (R153). -/
def boostOf (s : State) (p : Nat) : Bool := match railOf s p with | some r => topo s r == 1 | none => false

theorem emit_only (p : Nat) (d : Rat) (s : State) : Only [.bank, .phases] s (emit p d s) := by
  unfold emit
  extract_lets h boost cmp ofs a b
  have ha : Only [.bank] s a := setReg_only s _ _
  have hb : Only [.bank] a b := setReg_only a _ _
  exact only_then (only_trans ha hb) (modPh_only b p _)

theorem emit_swf (p : Nat) (d : Rat) (hs : swf defaultWord s.bank) : swf defaultWord (emit p d s).bank := setReg_swf (setReg_swf hs)

theorem emit_ph_ne {q : Nat} (h : q ≠ p) (d : Rat) (s : State) : (emit p d s).ph q = s.ph q := ph_modPh_ne _ _ _ _ h

theorem emit_reg {k : Nat} (h1 : k ≠ cmpAddr p) (h2 : k ≠ ofsAddr p) (d : Rat) (s : State) : (emit p d s).reg k = s.reg k :=
  (reg_setReg_ne h2).trans (reg_setReg_ne h1)

theorem shadowSet_per_lt (s : State) (p : Nat) : (shadowSet s p).per < 65536 := Nat.mod_lt _ (by decide)

/-- A phase for which the engine writes a set holds it. -/
theorem emit_emits (hp : p < 48) (hs : swf defaultWord s.bank) (d : Rat) : (emit p d s).Emits s p (boostOf s p) d := by
  have hcmp := cmpOf_le (b := boostOf s p) (d := d) (shadowSet_per_lt s p)
  have hph : (emit p d s).ph p = { s.ph p with duty := d, newOfs := none, gen := { (s.ph p).gen with
      eset := some { shadowSet s p with cmp := cmpOf (boostOf s p) d (shadowSet s p).per, ofs := (s.ph p).newOfs.getD (shadowSet s p).ofs } } } :=
    ph_modPh_same _ _ _ hp
  have hreg : (emit p d s).pr p 0x1B = BitVec.ofNat 32 (cmpOf (boostOf s p) d (shadowSet s p).per) :=
    (reg_setReg_ne (show (0x20 + p) * 256 + 0x1B ≠ (0x20 + p) * 256 + 0x1D by omega)).trans (reg_setReg_same hs)
  refine ⟨by rw [hph], ?_, by rw [hph], by rw [hph]⟩
  rw [hreg]
  simp only [fld, BitVec.toNat_ofNat, Nat.shiftRight_zero]
  omega

/-- A set that stands stands in every state with the same register and the same phase, but for HOLD and the cut of BRAKE. -/
theorem State.Emits.later {b : Bool} {d : Rat} (h : t.Emits s p b d) (hreg : u.pr p 0x1B = t.pr p 0x1B)
    (hph : u.ph p = { t.ph p with
      seeded := (u.ph p).seeded, gen := { (t.ph p).gen with hold := (u.ph p).gen.hold, cut := (u.ph p).gen.cut } }) : u.Emits s p b d := by
  obtain ⟨h1, h2, h3, h4⟩ := h
  have hduty : (u.ph p).duty = (t.ph p).duty := by rw [hph]
  have hofs : (u.ph p).newOfs = (t.ph p).newOfs := by rw [hph]
  have hgen : (u.ph p).gen = { (t.ph p).gen with hold := (u.ph p).gen.hold, cut := (u.ph p).gen.cut } := congrArg Phase.gen hph
  refine ⟨hduty.trans h1, by rw [hreg, h2], hofs.trans h3, ?_⟩
  rw [hgen, h4]

/-- A set for a phase that both states hold alike. -/
theorem State.Emits.of_same {b : Bool} {d : Rat} (h : u.Emits t p b d) (hph : t.ph p = s.ph p) (hset : shadowSet t p = shadowSet s p) :
    u.Emits s p b d := by
  unfold State.Emits at h ⊢
  rwa [hph, hset] at h

/-- The sets that an output `d` of rail `r` gives the phases `l`. -/
def emitEach (r : Nat) (d : Rat) (l : List Nat) (s : State) : State :=
  l.foldl (fun s p => emit p (dlim s r (d + puI (s.ph p).trim)) s) s

theorem emitEach_only (r : Nat) (d : Rat) (l : List Nat) (s : State) : Only [.bank, .phases] s (emitEach r d l s) :=
  only_foldl (fun t p => emit_only p _ t) l

theorem emitEach_reg {l : List Nat} {k : Nat} (hk : ∀ p ∈ l, k ≠ cmpAddr p ∧ k ≠ ofsAddr p) (r : Nat) (d : Rat) (s : State) :
    (emitEach r d l s).reg k = s.reg k := by
  induction l generalizing s with
  | nil => rfl
  | cons a l ih =>
    obtain ⟨h1, h2⟩ := hk a (List.mem_cons_self ..)
    exact (ih (fun p hp => hk p (List.mem_cons_of_mem _ hp)) _).trans (emit_reg h1 h2 _ s)

theorem emitEach_ph {l : List Nat} {q : Nat} (hq : q ∉ l) (r : Nat) (d : Rat) (s : State) : (emitEach r d l s).ph q = s.ph q := by
  induction l generalizing s with
  | nil => rfl
  | cons a l ih =>
    rw [List.mem_cons, not_or] at hq
    exact (ih hq.2 _).trans (emit_ph_ne hq.1 _ s)

/-- Registers of a phase that no set of another phase moves. -/
theorem emit_pr_ne {q off : Nat} (h : q ≠ p) (ho : off < 256) (d : Rat) (s : State) : (emit p d s).pr q off = s.pr q off :=
  emit_reg (by unfold cmpAddr; omega) (by unfold ofsAddr; omega) d s

theorem shadowSet_congr (h : ∀ off < 256, t.pr p off = s.pr p off) : shadowSet t p = shadowSet s p := by
  unfold shadowSet
  rw [h Reg.PH_PER (by decide), h Reg.PH_CMP (by decide), h Reg.PH_DT (by decide), h Reg.PH_OFS (by decide)]

/-- Registers outside the pages of the phases are moved by no set. -/
theorem emit_reg_far (hp : p < 48) {k : Nat} (hk : k < 0x2000 ∨ 0x5000 ≤ k) (d : Rat) (s : State) : (emit p d s).reg k = s.reg k :=
  emit_reg (by unfold cmpAddr; omega) (by unfold ofsAddr; omega) d s

theorem emitEach_emits {l : List Nat} (hr : r < 16) (hl : l.Nodup) (hmem : ∀ p ∈ l, p < 48) (hs : swf defaultWord s.bank) (d : Rat)
    {p : Nat} (hp : p ∈ l) : (emitEach r d l s).Emits s p (boostOf s p) (dlim s r (d + puI (s.ph p).trim)) := by
  induction l generalizing s with
  | nil => simp at hp
  | cons a l ih =>
    obtain ⟨hal, hl⟩ := List.nodup_cons.1 hl
    have ha48 := hmem a (List.mem_cons_self ..)
    obtain ⟨v, hv⟩ : ∃ v, v = emit a (dlim s r (d + puI (s.ph a).trim)) s := ⟨_, rfl⟩
    show (emitEach r d l (emit a (dlim s r (d + puI (s.ph a).trim)) s)).Emits s p _ _
    rw [← hv]
    rcases List.mem_cons.1 hp with rfl | hpl
    · have hem := emit_emits ha48 hs (dlim s r (d + puI (s.ph p).trim))
      rw [← hv] at hem
      have hreg : (emitEach r d l v).pr p 0x1B = v.pr p 0x1B := by
        refine emitEach_reg (fun q hq => ?_) r d v
        have hne : p ≠ q := fun h => hal (h ▸ hq)
        unfold cmpAddr ofsAddr
        omega
      refine hem.later hreg ?_
      rw [emitEach_ph hal]
    · have hpa : p ≠ a := fun h => hal (h ▸ hpl)
      have hvs : swf defaultWord v.bank := hv ▸ emit_swf a _ hs
      have hpr : ∀ off < 256, v.pr p off = s.pr p off := fun off ho => hv ▸ emit_pr_ne hpa ho _ s
      have hph : v.ph p = s.ph p := hv ▸ emit_ph_ne hpa _ s
      have hdlim : ∀ x, dlim v r x = dlim s r x := by
        have hc : v.actC r Reg.RCOMP_DLIM = s.actC r Reg.RCOMP_DLIM :=
          hv ▸ emit_reg_far ha48 (.inr (by simp only [bankKey]; omega)) _ s
        intro x
        unfold dlim
        rw [hc]
      have hboost : boostOf v p = boostOf s p := by
        have hcfg : ∀ q < 16, v.rr q Reg.RAIL_CFG = s.rr q Reg.RAIL_CFG := fun q hq =>
          hv ▸ emit_reg_far ha48 (.inl (by simp only [Reg.RAIL_CFG]; omega)) _ s
        unfold boostOf
        rw [railOf_congr (hpr Reg.PH_CFG (by decide))]
        split
        · next q hq =>
          unfold topo
          rw [hcfg q (railOf_lt hq)]
        · rfl
      have h := (ih hl (fun q hq => hmem q (List.mem_cons_of_mem _ hq)) hvs hpl).of_same hph (shadowSet_congr hpr)
      rwa [hboost, hdlim, hph] at h

/-! ### The output takes effect (R152, R154) -/

theorem shareOut_only (r : Nat) (i : Rat) (s : State) : Only [.phases] s (shareOut r i s) := only_foldl (fun t p => modPh_only t p _) _

/-- What the share of a current reference gives each ACTIVE phase. -/
theorem shareOut_iref (i : Rat) (hsum : sumR ((activeOf s r).map (phBase s)) ≠ 0) (hp : p ∈ activeOf s r) :
    ((shareOut r i s).ph p).iref = puI (toSPU16 (i * railBase s r / sumR ((activeOf s r).map (phBase s)))) := by
  unfold shareOut
  dsimp only
  rw [if_neg hsum]
  exact ph_fold_of_mem (P := fun x => x.iref = puI (toSPU16 (i * railBase s r / sumR ((activeOf s r).map (phBase s)))))
    (lt_of_mem_activeOf hp) (fun _ _ => rfl) hp

theorem applyOut_eq (r : Nat) (d : Rat) (s : State) : applyOut r d s =
    if cascade s r then shareOut r d (s.modRail r fun x => { x with out := d })
    else emitEach r d (activeOf s r) (s.modRail r fun x => { x with out := d }) := rfl

theorem applyOut_only (r : Nat) (d : Rat) (s : State) : Only [.bank, .rails, .phases] s (applyOut r d s) := by
  rw [applyOut_eq]
  exact only_ite (only_then (m := [.phases]) (modRail_only s r _) (shareOut_only r d _))
    (only_then (m := [.bank, .phases]) (modRail_only s r _) (emitEach_only r d _ _))

theorem applyOut_rail (hr : r < 16) (d : Rat) (s : State) : (applyOut r d s).rail r = { s.rail r with out := d } := by
  rw [applyOut_eq]
  split
  · rw [only_rail (shareOut_only r d _), rail_modRail_same _ _ _ hr]
  · rw [only_rail (emitEach_only r d _ _), rail_modRail_same _ _ _ hr]

/-- Registers outside the pages of the phases keep their words. -/
theorem applyOut_reg_far {k : Nat} (hk : k < 0x2000 ∨ 0x5000 ≤ k) (r : Nat) (d : Rat) (s : State) : (applyOut r d s).reg k = s.reg k := by
  rw [applyOut_eq]
  split
  · exact only_reg (shareOut_only r d _) k
  · refine (emitEach_reg (fun p hp => ?_) r d _).trans rfl
    have := lt_of_mem_activeOf hp
    unfold cmpAddr ofsAddr
    omega

theorem applyOut_emits (hr : r < 16) (hs : swf defaultWord s.bank) (hc : cascade s r = false) (d : Rat) (hp : p ∈ activeOf s r) :
    (applyOut r d s).Emits s p (topo s r == 1) (dlim s r (d + puI (s.ph p).trim)) := by
  have hrail : railOf s p = some r := (mem_phasesOf.1 (List.mem_filter.1 hp).1).2
  have hb : boostOf s p = (topo s r == 1) := by rw [boostOf, hrail]
  have h := emitEach_emits (s := s.modRail r fun x => { x with out := d }) hr (nodup_activeOf s r)
    (fun q hq => lt_of_mem_activeOf hq) hs d hp
  rw [applyOut_eq, if_neg (by simp [hc]), ← hb]
  exact h.of_same rfl rfl

theorem applyOut_iref (hc : cascade s r = true) (d : Rat) (hsum : sumR ((activeOf s r).map (phBase s)) ≠ 0) (hp : p ∈ activeOf s r) :
    ((applyOut r d s).ph p).iref = puI (toSPU16 (d * railBase s r / sumR ((activeOf s r).map (phBase s)))) := by
  rw [applyOut_eq, if_pos hc]
  exact shareOut_iref (s := s.modRail r fun x => { x with out := d }) d hsum hp

/-! ### BRAKE (R222, R223) -/

/-- A phase as BRAKE may leave it: HOLD and the cut are its own, its estimate is not seeded. -/
def Braked (x y : Phase) : Prop :=
  y = { x with seeded := y.seeded, gen := { x.gen with hold := y.gen.hold, cut := y.gen.cut } }

/-- What an update leaves of its rail: output, pending preload, current. -/
def Rail.result (x : Rail) : Rat × Option Rat × Int := (x.out, x.plV, x.irail)

/-- What BRAKE leaves of the rails and phases, where no injection runs. -/
structure AfterBrake (s t : State) : Prop where
  parts : Only [.rails, .phases, .msgs] s t
  phase : ∀ q, Braked (s.ph q) (t.ph q)
  result : t.railsBy Rail.result = s.railsBy Rail.result

theorem braked_modPh (s : State) (a q : Nat) {f : Phase → Phase} (hf : ∀ x, Braked x (f x)) : Braked (s.ph q) ((s.modPh a f).ph q) := by
  rw [ph_modPh]
  split
  · exact hf _
  · rfl

theorem Braked.trans {x y z : Phase} (h : Braked x y) (k : Braked y z) : Braked x z := by
  unfold Braked at h k ⊢
  rw [h] at k
  exact k

/-- BRAKE takes the outputs of the ACTIVE phases. -/
def brakePhases (r : Nat) (s : State) : State :=
  (activeOf s r).foldl (fun s p => s.modPh p fun x =>
    { x with seeded := false, gen := { x.gen with hold := true, cut := s.dev.frame + 1 } }) s

theorem toBrake_eq (hc : s.cup.run = false) (r : Nat) : toBrake r s = event Src.RAIL_BRAKE r ((brakePhases r s).modRail r fun x =>
    { x with st := .brake, frames := 0, shedCnt := 0, addCnt := 0, dripCnt := 0 }) := by
  have hcup : cupNow r s = s := if_neg (by simp [hc])
  unfold toBrake
  rw [hcup]
  rfl

theorem brakePhases_only (r : Nat) (s : State) : Only [.phases] s (brakePhases r s) := only_foldl (fun t p => modPh_only t p _) _

theorem brakePhases_braked (r : Nat) (s : State) (q : Nat) : Braked (s.ph q) ((brakePhases r s).ph q) := by
  refine foldl_keeps (P := fun t : State => Braked (s.ph q) (t.ph q)) (fun t a h => h.trans ?_) _ rfl
  exact braked_modPh t a q fun _ => rfl

theorem toBrake_after (hc : s.cup.run = false) (r : Nat) : AfterBrake s (toBrake r s) := by
  have hv := brakePhases_only r s
  rw [toBrake_eq hc]
  refine ⟨only_then (l := [.phases]) (m := [.rails, .msgs]) hv (only_then (modRail_only _ r _) (event_only _ _ _)), fun q => ?_, ?_⟩
  · rw [only_ph (event_only _ _ _)]
    exact brakePhases_braked r s q
  · refine (only_railsBy (event_only _ _ _)).trans ((railsBy_modRail _ r ?_).trans (only_railsBy hv))
    exact fun _ => rfl

theorem brakeTest_after (hc : s.cup.run = false) (r : Nat) (e : Int) : AfterBrake s (brakeTest r e s) := by
  unfold brakeTest
  extract_lets x c fell v
  have hv : AfterBrake s v := ⟨only_mono (modRail_only s r _), fun _ => rfl, railsBy_modRail s r fun _ => rfl⟩
  split
  · have h := toBrake_after (s := v) hc r
    exact ⟨only_trans hv.parts h.parts, fun q => (hv.phase q).trans (h.phase q), h.result.trans hv.result⟩
  · exact hv

/-- With BRAKE off an update only notes the error. -/
theorem brakeTest_off (hb : bit (rgOf s r 2) 31 = false) (e : Int) :
    ∃ a b, brakeTest r e s = s.modRail r fun x => { x with ePrev := a, fell := b } := by
  unfold brakeTest
  extract_lets x c fell v
  exact ⟨_, _, if_neg (by simp [c, hb])⟩

/-! ### The loop as the rail's output (R152, R155) -/

theorem setOf_rail (hr : r < 16) (s : State) : setOf s r = stagesOf (s.actC r) 0x10 := by
  have hc : ctxRail s r = some r := if_pos hr
  rw [setOf, hc, setBase, if_pos hr]

theorem blocksOf_setCtx {c : Nat} (hc : c < 128) (s : State) (bs : List Block) : blocksOf (s.setCtx c bs) c = bs := by
  simp [blocksOf, State.setCtx, hc]

theorem blocksOf_congr (h : t.eng = s.eng) (c : Nat) : blocksOf t c = blocksOf s c := by rw [blocksOf, h]; rfl

/-- One run of a context's stages, or its preload. -/
def stageRun (pl : Option Rat) (gs : List Stg) (bs : List Block) (x : Rat) : List Block × Sig :=
  match pl with
  | none => runStages gs bs (sigOf x)
  | some u => preloadStages gs (sigOf x) u

theorem runCtx_rail (hr : r < 16) (pl : Option Rat) (x : Rat) (s : State) : runCtx r pl x s =
    (s.setCtx r (stageRun pl (stagesOf (s.actC r) 0x10) (blocksOf s r) x).1,
      (stageRun pl (stagesOf (s.actC r) 0x10) (blocksOf s r) x).2.val) := by
  unfold runCtx
  rw [setOf_rail hr]
  cases pl <;> rfl

/-- The stages of a loop that drives its rail, run or preloaded with the output handed over less what is added to it. -/
def freeStages (s : State) (r : Nat) (x term : Rat) : List Block × Sig :=
  stageRun ((s.rail r).plV.map (· - (term + if cascade s r then 0 else dff s r))) (stagesOf (s.actC r) 0x10) (blocksOf s r) x

/-- The output that a rail's stages give it. -/
def freeOut (s : State) (r : Nat) (y term : Rat) : Rat :=
  if cascade s r then puI (toSPU16 (clampR (boundsOf s r).2 (boundsOf s r).1 (y + term))) else dlim s r (y + term + dff s r)

theorem vOutput_free (hg : gangRef s r = none) (y term : Rat) : (vOutput s r y term).1 = freeOut s r y term := by
  unfold vOutput freeOut
  rw [hg]
  split <;> rfl

/-- The state in which the output of a loop that drives its rail takes effect. -/
structure Driven (r : Nat) (bs : List Block) (s t : State) : Prop where
  parts : Only [.rails, .eng] s t
  terms : t.railsBy Rail.terms = s.railsBy Rail.terms
  rail : ∃ a b, t.rail r = { s.rail r with plV := none, limCnt := a, limSide := b }
  blocks : blocksOf t r = bs

theorem limitVote_rail (hr : r < 16) (side : Nat) (s : State) :
    ∃ a b, (limitVote side r s).rail r = { s.rail r with limCnt := a, limSide := b } := by
  unfold limitVote
  rw [rail_modRail_same _ _ _ hr]
  split
  · exact ⟨_, _, rfl⟩
  · split
    · exact ⟨_, _, rfl⟩
    · exact ⟨_, _, rfl⟩

theorem limitVote_only (side r : Nat) (s : State) : Only [.rails] s (limitVote side r s) := modRail_only s r _

theorem limitVote_terms (side r : Nat) (s : State) : (limitVote side r s).railsBy Rail.terms = s.railsBy Rail.terms := by
  refine railsBy_modRail s r fun x => ?_
  split
  · rfl
  · split <;> rfl

theorem vFree_eq (hr : r < 16) (hd : (s.rail r).st ≠ .drip) (hg : gangRef s r = none) (x term : Rat) :
    ∃ w, Driven r (freeStages s r x term).1 s w ∧ vFree r x term s = applyOut r (freeOut s r (freeStages s r x term).2.val term) w := by
  obtain ⟨a, ha⟩ : ∃ a, a = s.setCtx r (freeStages s r x term).1 := ⟨_, rfl⟩
  obtain ⟨b, hb⟩ : ∃ b, b = a.modRail r fun z => { z with plV := none } := ⟨_, rfl⟩
  obtain ⟨o, ho⟩ : ∃ o, o = vOutput b r (freeStages s r x term).2.val term := ⟨_, rfl⟩
  obtain ⟨w, hw⟩ : ∃ w, w = if cascade b r then limitVote o.2 r b else b := ⟨_, rfl⟩
  have hsa : Only [.eng] s a := ha ▸ upd_eng s _
  have hab : Only [.rails] a b := hb ▸ modRail_only a r _
  have hsb : OutSame r s b := (OutSame.ofOnly hsa).trans (hb ▸ outSame_modRail a r fun _ => rfl)
  have hbr : b.rail r = { s.rail r with plV := none } := by
    rw [hb, rail_modRail_same _ _ _ hr, only_rail hsa]
  have hob : o.1 = freeOut s r (freeStages s r x term).2.val term := by
    have hst : ((b.rail r).st == RailState.stopping) = ((s.rail r).st == RailState.stopping) := by rw [hbr]
    rw [ho, vOutput_free ((hsb.gangRef hr).trans hg)]
    unfold freeOut
    rw [hsb.cascade hr, hsb.boundsOf hst, hsb.dlim hr, hsb.dff hr]
  have hbw : Only [.rails] b w := hw ▸ only_ite (limitVote_only _ r b) only_refl
  have hblocks : blocksOf w r = (freeStages s r x term).1 := by
    rw [blocksOf_congr (only_eng hbw), blocksOf_congr (only_eng hab), ha, blocksOf_setCtx (by omega)]
  refine ⟨w, ⟨only_then (l := [.eng]) hsa (only_trans hab hbw), ?_, ?_, hblocks⟩, ?_⟩
  · refine Eq.trans ?_ hsb.terms
    rw [hw]
    split
    · exact limitVote_terms _ r b
    · rfl
  · rw [hw]
    split
    · obtain ⟨c, d, h⟩ := limitVote_rail hr o.2 b
      exact ⟨c, d, by rw [h, hbr]⟩
    · exact ⟨_, _, hbr⟩
  · have hrun := runCtx_rail hr ((s.rail r).plV.map (· - (term + if cascade s r then 0 else dff s r))) x s
    unfold vFree
    dsimp only
    rw [hrun]
    dsimp only
    rw [← freeStages, ← ha, ← hb, ← ho, if_neg (by simp [hbr, hd]), ← hw, hob]

end
end Sys2Proof.Machine
end

section
/-! PROOFS: an update of the voltage loop in LIMIT, and as the rail's output; the statement about both (R146, R152-R155, R179, R200). -/

-- The package as one text: its declarations are elaborated one after another, to hold few threads.
set_option Elab.async false

namespace Sys2Proof.Machine

section
variable {s t u : State} {r : Nat}

/-! ### Out of LIMIT (R179, R211) -/

theorem terms_readsNoCounts : ReadsNoCounts Rail.terms :=
  ⟨fun _ _ _ _ => rfl, fun _ _ _ _ => rfl, fun _ _ => rfl, fun _ _ => rfl⟩

/-- State and limited direction of a rail. -/
def Rail.course (x : Rail) : RailState × Nat := (x.st, x.limdir)

theorem course_readsNoCounts : ReadsNoCounts Rail.course :=
  ⟨fun _ _ _ _ => rfl, fun _ _ _ _ => rfl, fun _ _ => rfl, fun _ _ => rfl⟩

theorem blocksOf_zeroCtx {c d : Nat} (h : c ≠ d) (s : State) : blocksOf (zeroCtx d s) c = blocksOf s c := by
  simp [blocksOf, zeroCtx, h.symm]

theorem joinPhase_blocks {c : Nat} (hc : c < 32) (p : Nat) (s : State) : blocksOf (joinPhase p s) c = blocksOf s c := by
  unfold joinPhase
  extract_lets lead
  exact (blocksOf_zeroCtx (by omega) _).trans (blocksOf_zeroCtx (by omega) s)

/-- The rail enters RAMP again. -/
def rampRail (n : Nat) (x : Rail) : Rail :=
  { x with st := .ramp, frames := n, limdir := 0, dripCnt := 0, shedCnt := 0, ifilt := if n = 1 then x.irail.natAbs * 65536 else x.ifilt }

theorem rampAgain_spec (n : Nat) (hr : r < 16) (s : State) :
    (rampAgain n r s).railsBy Rail.terms = s.railsBy Rail.terms ∧ ((rampAgain n r s).rail r).course = (.ramp, 0) ∧
      ∀ c < 32, blocksOf (rampAgain n r s) c = blocksOf s c := by
  obtain ⟨v, hv⟩ : ∃ v, v = s.modRail r (rampRail n) := ⟨_, rfl⟩
  have hvt : v.railsBy Rail.terms = s.railsBy Rail.terms := hv ▸ railsBy_modRail s r fun _ => rfl
  have hvc : (v.rail r).course = (.ramp, 0) := by
    rw [hv, rail_modRail_same _ _ _ hr]
    rfl
  have hvb : ∀ c, blocksOf v c = blocksOf s c := fun c => blocksOf_congr (by rw [hv]; rfl) c
  have he : rampAgain n r s = match (phasesOf v r).filter fun p => (v.ph p).pst == .shed with
      | [] => v
      | l => activeChanged r (l.foldl (fun s p => joinPhase p s) v) := by
    rw [hv]
    rfl
  rw [he]
  split
  · exact ⟨hvt, hvc, fun c _ => hvb c⟩
  · next l _ =>
    obtain ⟨w, hw⟩ : ∃ w, w = ((phasesOf v r).filter fun p => (v.ph p).pst == .shed).foldl (fun s p => joinPhase p s) v := ⟨_, rfl⟩
    rw [← hw]
    have hwo : Only [.eng, .phases] v w := hw ▸ only_foldl (fun t p => joinPhase_only t p) _
    have hwr : w.rail r = v.rail r := only_rail hwo r
    have hst : (w.rail r).st ≠ .drip := by
      rw [hwr, show (v.rail r).st = .ramp from congrArg Prod.fst hvc]
      decide
    refine ⟨?_, ?_, fun c hc => ?_⟩
    · rw [activeChanged_railsBy terms_readsNoCounts r w false fun _ _ => rfl, only_railsBy hwo, hvt]
    · have h := congrFun (activeChanged_railsBy course_readsNoCounts r w false fun h => absurd h hst) r
      exact h.trans ((congrArg Rail.course hwr).trans hvc)
    · rw [blocksOf_congr (only_eng (activeChanged_only w r)), hw]
      exact foldl_keeps (P := fun t : State => blocksOf t c = blocksOf s c) (fun t p h => (joinPhase_blocks hc p t).trans h) _ (hvb c)

theorem limitExit_spec (hr : r < 16) (s : State) :
    (limitExit r s).railsBy Rail.terms = s.railsBy Rail.terms ∧
      ((limitExit r s).rail r).course = (if (s.rail r).ref = (s.rail r).target * 65536 then .regulate else .ramp, 0) ∧
      blocksOf (limitExit r s) r = blocksOf s r := by
  unfold limitExit
  split
  · refine ⟨railsBy_modRail s r fun _ => rfl, ?_, rfl⟩
    rw [rail_modRail_same _ _ _ hr]
    rfl
  · obtain ⟨v, hv⟩ : ∃ v, v = s.modRail r fun x => { x with limCnt := 0 } := ⟨_, rfl⟩
    rw [← hv]
    obtain ⟨h1, h2, h3⟩ := rampAgain_spec 0 hr v
    refine ⟨h1.trans ?_, h2, (h3 r (by omega)).trans ?_⟩
    · rw [hv]
      exact railsBy_modRail s r fun _ => rfl
    · rw [hv]
      rfl

theorem limitExit_outSame (hr : r < 16) (s : State) : OutSame r s (limitExit r s) :=
  ⟨only_mono (limitExit_only s r) (by decide), fun k _ => only_reg (limitExit_only s r) k, (limitExit_spec hr s).1⟩

/-! ### The loop in LIMIT (R179) -/

/-- The stages of a loop in LIMIT: preloaded with the limiter's output less what is added to it, then run. -/
def limitBlocks (s : State) (r : Nat) (x : Rat) : List Block :=
  (preloadStages (stagesOf (s.actC r) 0x10) (sigOf x) ((s.rail r).limOut - if cascade s r then 0 else dff s r)).1
def limitStages (s : State) (r : Nat) (x : Rat) : List Block × Sig :=
  runStages (stagesOf (s.actC r) 0x10) (limitBlocks s r x) (sigOf x)

/-- What the loop asks for in LIMIT. -/
def limitWant (s : State) (r : Nat) (x : Rat) : Rat := (limitStages s r x).2.val + if cascade s r then 0 else dff s r

/-- It asks for less transfer in the limited direction. -/
def asksLess (s : State) (r : Nat) (x : Rat) : Prop :=
  if (s.rail r).limdir = 2 then (s.rail r).limOut < limitWant s r x else limitWant s r x < (s.rail r).limOut

theorem vLimited_eq (hr : r < 16) (hst : (s.rail r).st = .limit) (hg : gangRef s r = none) (hh : s.eng.haltReq = false) (x : Rat) :
    ∃ a, Only [.eng] s a ∧ blocksOf a r = (limitStages s r x).1 ∧
      (asksLess s r x → vLimited r x s = applyOut r (freeOut s r (limitStages s r x).2.val 0) (limitExit r a)) ∧
      (¬ asksLess s r x → vLimited r x s = a) := by
  obtain ⟨b, hb⟩ : ∃ b, b = s.setCtx r (limitBlocks s r x) := ⟨_, rfl⟩
  obtain ⟨a, ha⟩ : ∃ a, a = b.setCtx r (limitStages s r x).1 := ⟨_, rfl⟩
  have hsb : Only [.eng] s b := hb ▸ upd_eng s _
  have hba : Only [.eng] b a := ha ▸ upd_eng b _
  have hsa : Only [.eng] s a := only_trans hsb hba
  have h1 : runCtx r (some ((s.rail r).limOut - if cascade s r then 0 else dff s r)) x s =
      (b, (preloadStages (stagesOf (s.actC r) 0x10) (sigOf x) ((s.rail r).limOut - if cascade s r then 0 else dff s r)).2.val) := by
    rw [runCtx_rail hr, hb]
    rfl
  have h2 : runCtx r none x b = (a, (limitStages s r x).2.val) := by
    have hstages : stagesOf (b.actC r) 0x10 = stagesOf (s.actC r) 0x10 := by rw [hb]; rfl
    have hblocks : blocksOf b r = limitBlocks s r x := by rw [hb, blocksOf_setCtx (by omega)]
    rw [runCtx_rail hr, hstages, hblocks, ha]
    rfl
  have hsame : OutSame r s a := .ofOnly hsa
  have hrail : a.rail r = s.rail r := only_rail hsa r
  have hexit : OutSame r s (limitExit r a) := hsame.trans (limitExit_outSame hr a)
  have hbounds : boundsOf (limitExit r a) r = boundsOf s r := by
    refine hexit.boundsOf ?_
    have hc : ((limitExit r a).rail r).st = if (a.rail r).ref = (a.rail r).target * 65536 then .regulate else .ramp :=
      congrArg Prod.fst (limitExit_spec hr a).2.1
    rw [hc, hst]
    split <;> rfl
  have hout : (vOutput (limitExit r a) r (limitStages s r x).2.val 0).1 = freeOut s r (limitStages s r x).2.val 0 := by
    rw [vOutput_free ((hexit.gangRef hr).trans hg)]
    unfold freeOut
    rw [hexit.cascade hr, hbounds, hexit.dlim hr, hexit.dff hr]
  have hhalt : a.eng.haltReq = false := by
    rw [ha, hb]
    exact hh
  have hblocks : blocksOf a r = (limitStages s r x).1 := by rw [ha, blocksOf_setCtx (by omega)]
  have heq : vLimited r x s =
      if (!if (s.rail r).limdir = 2 then decide ((s.rail r).limOut < limitWant s r x) else decide (limitWant s r x < (s.rail r).limOut)) then a
      else applyOut r (freeOut s r (limitStages s r x).2.val 0) (limitExit r a) := by
    unfold vLimited
    dsimp only
    rw [h1, h2]
    dsimp only
    rw [(hsame.gangRef hr).trans hg, hhalt, hrail, hst, Bool.or_false, if_pos (show (RailState.limit == RailState.limit) = true from rfl), hout]
    rfl
  refine ⟨a, hsa, hblocks, fun h => ?_, fun h => ?_⟩
  · rw [heq, if_neg]
    unfold asksLess at h
    split at h <;> simp_all
  · rw [heq, if_pos]
    unfold asksLess at h
    split at h <;> simp_all

end
end Sys2Proof.Machine
end

section
/-! PROOFS: an update of the voltage loop in the engine; the statement about it (R93, R140, R146-R155, R179, R198-R203). -/

-- The package as one text: its declarations are elaborated one after another, to hold few threads.
set_option Elab.async false

namespace Sys2Proof.Machine

section
variable {s t w z : State} {r p : Nat}

/-! ### The engine around the update (R140, R159, R165) -/

/-- The engine has moved its queue and its counters, the time and the performance unit, and no state word. -/
structure EngineMoved (s t : State) : Prop where
  parts : Only [.cyc, .clk, .eng, .perf] s t
  blocks : ∀ c, blocksOf t c = blocksOf s c
  halt : t.eng.haltReq = s.eng.haltReq

theorem EngineMoved.trans (h : EngineMoved s t) (k : EngineMoved t w) : EngineMoved s w :=
  ⟨only_trans h.parts k.parts, fun c => (k.blocks c).trans (h.blocks c), k.halt.trans h.halt⟩

theorem EngineMoved.of_eng {l : List Part} (h : Only l s t) (hl : l ⊆ [.cyc, .clk, .perf] := by decide) : EngineMoved s t := by
  have h : Only [.cyc, .clk, .perf] s t := only_mono h hl
  exact ⟨only_mono h, blocksOf_congr (only_eng h), congrArg Eng.haltReq (only_eng h)⟩

theorem EngineMoved.ite {c : Prop} [Decidable c] (h : EngineMoved s t) (k : EngineMoved s w) : EngineMoved s (if c then t else w) := by
  split
  · exact h
  · exact k

/-- The engine with the same state words and the same halt. -/
theorem EngineMoved.of_ctx (s : State) (e : Eng) (hc : e.ctx = s.eng.ctx) (hh : e.haltReq = s.eng.haltReq) : EngineMoved s { s with eng := e } := by
  refine ⟨only_mono (upd_eng s e), fun c => ?_, hh⟩
  unfold blocksOf
  rw [← hc]

theorem perf_moved (evt inst n : Nat) (s : State) : EngineMoved s (perf evt inst n s) := .of_eng (perf_only s evt inst n) (by decide)

/-- The update `q` is taken out of the queue. -/
def taken (q : QItem) (s : State) : State :=
  let t : State := { s with eng := { s.eng with queue := s.eng.queue.erase q } }
  t.modPerf fun x => { x with runs := x.runs.filter (·.q != q) }

theorem taken_moved (q : QItem) (s : State) : EngineMoved s (taken q s) := by
  unfold taken
  extract_lets e t
  have ht : EngineMoved s t := .of_ctx s _ rfl rfl
  exact ht.trans (.of_eng (modPerf_only (s := t) _) (by decide))

/-- Serving an update of an active voltage loop that meets no commit and no parity error is the loop's update. -/
theorem engineUpdate_vUpdate {q : QItem} (hs : s.Serves q r) (hq : q.ctx = r) (hr : r < 16) (lane latency : Nat) (displaced : Bool) :
    ∃ w, EngineMoved s w ∧ EngineMoved (vUpdate r w) (engineUpdate lane latency displaced s) := by
  obtain ⟨hruns, hhalt, hpick, hrail, hact, hpar, herr, hpend⟩ := hs
  obtain ⟨w, hw⟩ : ∃ w, w = taken q s := ⟨_, rfl⟩
  have hsw : EngineMoved s w := hw ▸ taken_moved q s
  have hwr : w.rails = s.rails := only_rails hsw.parts
  have hwrail : w.rail r = s.rail r := only_rail hsw.parts r
  have hctx : ctxRail w q.ctx = some r := by
    rw [hq]
    exact if_pos hr
  have hactive : ctxActive w q.ctx = true := by
    rw [hq] at hact ⊢
    rw [ctxActive_rail hr] at hact ⊢
    rwa [hwrail]
  have hswitch : switchAtUpdate r w = w := switchAtUpdate_off (by rw [hwrail, hpend])
  have hbad : readsBad w q.ctx r = false := by
    have : w.eng.parity = s.eng.parity := by rw [hw]; rfl
    rw [readsBad, this, hpar, hwrail, herr]
    rfl
  have hupd : updateCtx q.ctx r w = vUpdate r w := if_pos (hq ▸ hr)
  refine ⟨w, hsw, ?_⟩
  unfold engineUpdate
  rw [if_neg (by simp [hruns.1, hruns.2]), hpick]
  dsimp only
  rw [← taken, ← hw, hctx]
  dsimp only
  rw [if_neg (by simp [hactive]), if_pos (hq ▸ hr : q.ctx < 16), hswitch, if_neg (by simp [hbad]), hupd]
  generalize vUpdate r w = v
  obtain ⟨c, hc⟩ : ∃ c, c = ({ v with eng := { v.eng with
    macs := v.eng.macs + ctxCost v q.ctx
    latV := if ctxClass q.ctx = 1 then max v.eng.latV (min 65535 latency) else v.eng.latV
    latI := if ctxClass q.ctx = 2 then max v.eng.latI (min 65535 latency) else v.eng.latI } } : State) := ⟨_, rfl⟩
  have hvc : EngineMoved v c := hc ▸ .of_ctx v _ rfl rfl
  rw [← hc]
  have hperf := hvc.trans ((perf_moved 0x10 q.ctx 1 c).trans (perf_moved 0x11 lane (macsLeft s q) _))
  exact .ite (hperf.trans (perf_moved ..)) hperf

/-! ### The rail driven by its loop (R152-R155) -/

theorem freeStages_congr (hr : r < 16) (h : LoopSame r s t) (hb : blocksOf t r = blocksOf s r) (x term : Rat) :
    freeStages t r x term = freeStages s r x term := by
  unfold freeStages
  rw [h.plV, h.outSame.cascade hr, h.outSame.dff hr, h.outSame.stages hr, hb]

theorem freeOut_congr (hr : r < 16) (h : LoopSame r s t) (y term : Rat) : freeOut t r y term = freeOut s r y term := by
  have hst : ((t.rail r).st == .stopping) = ((s.rail r).st == .stopping) := by rw [h.st]
  unfold freeOut
  rw [h.outSame.cascade hr, h.outSame.boundsOf hst, h.outSame.dlim hr, h.outSame.dff hr]

/-- What the bases of the ACTIVE phases sum to. -/
def baseSum (s : State) (r : Nat) : Rat := sumR ((activeOf s r).map (phBase s))

/-- The stages `o` and the output `d` of rail `r` have reached its ACTIVE phases, as they were in `s`. -/
structure Delivered (r : Nat) (o : List Block × Sig) (d : Rat) (s t : State) : Prop where
  blocks : blocksOf t r = o.1
  out : (t.rail r).out = d
  preload : (t.rail r).plV = none
  sets : cascade s r = false → ∀ p ∈ activeOf s r, t.Emits s p (topo s r == 1) (dlim s r (d + puI (s.ph p).trim))
  shares : cascade s r = true → baseSum s r ≠ 0 → ∀ p ∈ activeOf s r,
    (t.ph p).iref = puI (toSPU16 (d * railBase s r / baseSum s r))

theorem vFree_delivers (hr : r < 16) (h : LoopSame r s t) (hb : blocksOf t r = blocksOf s r) (hs : swf defaultWord t.bank)
    (hd : (s.rail r).st ≠ .drip) (hg : gangRef s r = none) (x term : Rat) :
    Delivered r (freeStages s r x term) (freeOut s r (freeStages s r x term).2.val term) s (vFree r x term t) ∧
      Only [.bank, .rails, .phases, .eng] t (vFree r x term t) ∧
      ((vFree r x term t).rail r).irail = (t.rail r).irail ∧ ∀ i < 256, tabEntry (vFree r x term t) r i = tabEntry t r i := by
  obtain ⟨w, hw, he⟩ := vFree_eq hr (h.st ▸ hd) ((h.outSame.gangRef hr).trans hg) x term
  rw [freeOut_congr hr h, freeStages_congr hr h hb] at he
  rw [freeStages_congr hr h hb] at hw
  generalize freeOut s r (freeStages s r x term).2.val term = d at he ⊢
  obtain ⟨cnt, side, hrail⟩ := hw.rail
  have hparts := applyOut_only r d w
  have hsw : OutSame r s w := h.outSame.trans ⟨only_mono hw.parts (by decide), fun k _ => only_reg hw.parts k, hw.terms⟩
  have hph (p : Nat) : w.ph p = s.ph p := (only_ph hw.parts p).trans (h.ph p)
  have hact : activeOf w r = activeOf s r := activeOf_congr (fun p hp => hsw.pr hr hp (by decide)) (fun p => by rw [hph]) r
  have hcas : cascade w r = cascade s r := hsw.cascade hr
  have hsum : baseSum w r = baseSum s r := by
    unfold baseSum
    rw [hact]
    refine congrArg sumR (List.map_congr_left fun p hp => ?_)
    unfold phBase
    rw [hsw.pr hr (lt_of_mem_activeOf hp) (by decide)]
  rw [he]
  refine ⟨⟨?_, ?_, ?_, fun hc p hp => ?_, fun hc h0 p hp => ?_⟩, only_then hw.parts hparts, ?_, fun i hi => ?_⟩
  · rw [blocksOf_congr (only_eng hparts), hw.blocks]
  · rw [applyOut_rail hr]
  · rw [applyOut_rail hr, hrail]
  · have hem := applyOut_emits hr (only_bank hw.parts ▸ hs) (hcas.trans hc) d (hact ▸ hp)
    rw [hsw.topo hr, hsw.dlim hr, hph] at hem
    exact hem.of_same (hph p) (shadowSet_congr fun off ho => hsw.pr hr (lt_of_mem_activeOf hp) ho)
  · have hsh := applyOut_iref (hcas.trans hc) d (hsum ▸ h0 : baseSum w r ≠ 0) (hact ▸ hp)
    rw [hsw.railBase hr] at hsh
    rw [hsh, ← hsum]
    rfl
  · rw [applyOut_rail hr, hrail]
  · have hreg (k : Nat) (hk : k < 0x2000 ∨ 0x5000 ≤ k) : (applyOut r d w).reg k = t.reg k :=
      (applyOut_reg_far hk r d w).trans (only_reg hw.parts k)
    rw [tabEntry_eq, tabEntry_eq, hreg _ (.inr (by unfold entryAddr; omega)), hreg _ (.inr (by unfold fracKey; omega))]

theorem Delivered.later {o : List Block × Sig} {d : Rat} (h : Delivered r o d s z) (hz : AfterBrake z w) (ht : EngineMoved w t) :
    Delivered r o d s t := by
  have hres : (t.rail r).result = (z.rail r).result := (congrArg Rail.result (only_rail ht.parts r)).trans (congrFun hz.result r)
  have hph (p : Nat) : Braked (z.ph p) (t.ph p) := (only_ph ht.parts p).symm ▸ hz.phase p
  have hreg (p : Nat) : t.pr p 0x1B = z.pr p 0x1B := (only_reg ht.parts _).trans (only_reg hz.parts _)
  refine ⟨?_, ?_, ?_, fun hc p hp => (h.sets hc p hp).later (hreg p) (hph p), fun hc h0 p hp => ?_⟩
  · rw [ht.blocks, blocksOf_congr (only_eng hz.parts), h.blocks]
  · exact (congrArg Prod.fst hres).trans h.out
  · exact (congrArg (fun x => x.2.1) hres).trans h.preload
  · rw [← h.shares hc h0 p hp]
    have hb := hph p
    unfold Braked at hb
    rw [hb]

/-! ### The rail under its limiter (R179) -/

theorem limitStages_congr (hr : r < 16) (h : LoopSame r s t) (x : Rat) : limitStages t r x = limitStages s r x := by
  have hout : (t.rail r).limOut = (s.rail r).limOut := congrArg LoopView.limOut (congrFun h.loop r)
  unfold limitStages limitBlocks
  rw [hout, h.outSame.cascade hr, h.outSame.dff hr, h.outSame.stages hr]

theorem asksLess_congr (hr : r < 16) (h : LoopSame r s t) (x : Rat) : asksLess t r x ↔ asksLess s r x := by
  have hout : (t.rail r).limOut = (s.rail r).limOut := congrArg LoopView.limOut (congrFun h.loop r)
  unfold asksLess limitWant
  rw [hout, h.limdir, limitStages_congr hr h, h.outSame.cascade hr, h.outSame.dff hr]

/-- What an update of a rail in LIMIT leaves of it. -/
structure LimitOutcome (r : Nat) (x : Rat) (s t : State) : Prop where
  blocks : blocksOf t r = (limitStages s r x).1
  leaves : asksLess s r x →
    (t.rail r).course = (if (s.rail r).ref = (s.rail r).target * 65536 then .regulate else .ramp, 0) ∧
      (t.rail r).out = freeOut s r (limitStages s r x).2.val 0
  stays : ¬ asksLess s r x → (t.rail r).course = (s.rail r).course ∧ (t.rail r).out = (s.rail r).out ∧ ∀ p, t.ph p = s.ph p

theorem vLimited_outcome (hr : r < 16) (h : LoopSame r s t) (hst : (s.rail r).st = .limit) (hg : gangRef s r = none)
    (hh : t.eng.haltReq = false) (x : Rat) : LimitOutcome r x s (vLimited r x t) ∧ rgOf (vLimited r x t) r 2 = rgOf s r 2 := by
  obtain ⟨a, hta, hblocks, hleave, hstay⟩ := vLimited_eq hr (h.st.trans hst) ((h.outSame.gangRef hr).trans hg) hh x
  rw [asksLess_congr hr h, limitStages_congr hr h, freeOut_congr hr h] at hleave
  rw [asksLess_congr hr h] at hstay
  rw [limitStages_congr hr h] at hblocks
  have hrail : a.rail r = t.rail r := only_rail hta r
  have hloop : (a.rail r).loop = (s.rail r).loop := (congrArg Rail.loop hrail).trans (congrFun h.loop r)
  have hrg {z : State} (hz : (z.rail r).terms = (a.rail r).terms) : rgOf z r 2 = rgOf s r 2 := by
    have hcfg : (z.rail r).rgCfg = (s.rail r).rgCfg := congrArg OutTerms.rgCfg (hz.trans (congrArg LoopView.terms hloop))
    unfold rgOf
    rw [hcfg]
  obtain ⟨hterms, hcourse, heb⟩ := limitExit_spec hr a
  by_cases hless : asksLess s r x
  · rw [hleave hless]
    refine ⟨⟨?_, fun _ => ⟨?_, ?_⟩, fun hn => absurd hless hn⟩, ?_⟩
    · rw [blocksOf_congr (only_eng (applyOut_only r _ _)), heb, hblocks]
    · have href : (a.rail r).ref = (s.rail r).ref := congrArg (fun l => l.terms.ref) hloop
      have htgt : (a.rail r).target = (s.rail r).target := congrArg LoopView.target hloop
      rw [applyOut_rail hr, ← href, ← htgt]
      exact hcourse
    · exact congrArg Rail.out (applyOut_rail hr _ _)
    · refine hrg ?_
      rw [applyOut_rail hr]
      exact congrFun hterms r
  · rw [hstay hless]
    refine ⟨⟨hblocks, fun hl => absurd hl hless, fun _ => ⟨?_, ?_, fun p => (only_ph hta p).trans (h.ph p)⟩⟩, hrg rfl⟩
    · exact congrArg (fun l => (l.st, l.limdir)) hloop
    · exact congrArg LoopView.out hloop

theorem LimitOutcome.later {x : Rat} {e : Int} (hr : r < 16) (h : LimitOutcome r x s z) (hb : bit (rgOf z r 2) 31 = false)
    (ht : EngineMoved (brakeTest r e z) t) : LimitOutcome r x s t := by
  obtain ⟨err, fell, hz⟩ := brakeTest_off hb e
  rw [hz] at ht
  have hrail : t.rail r = { z.rail r with ePrev := err, fell := fell } := (only_rail ht.parts r).trans (rail_modRail_same _ _ _ hr)
  refine ⟨(ht.blocks r).trans h.blocks, fun hl => ?_, fun hl => ?_⟩
  · rw [hrail]
    exact h.leaves hl
  · obtain ⟨hcourse, hout, hph⟩ := h.stays hl
    rw [hrail]
    exact ⟨hcourse, hout, fun p => (only_ph ht.parts p).trans (hph p)⟩

/-! ### An update of the voltage loop (R146-R155, R179) -/

/-- The engine's state words, the rails, phases and registers of a state begun read as before. -/
theorem EngineMoved.loopSame (h : EngineMoved s t) : LoopSame r s t := .ofOnly h.parts

/-- The update that the engine serves, from the state of its command on. -/
theorem exec_engineUpdate {q : QItem} (hs : s.Serves q r) (hq : q.ctx = r) (hr : r < 16) (k : Fin 8) (l : Nat) (d : Bool) :
    ∃ w t, EngineMoved s w ∧ EngineMoved (vUpdate r w) t ∧ exec (.engineUpdate l d k) s = .next t := by
  have hbegin : EngineMoved s (s.begin none (updateDue s l)) := .of_eng (begin_only (s := s) none (updateDue s l))
  obtain ⟨w, hw, ht⟩ := engineUpdate_vUpdate (s := s.begin none (updateDue s l)) hs hq hr k l d
  exact ⟨w, _, hbegin.trans hw, ht, next_clocked_of_runs hs.1⟩

/-- The rail's current, read off a state with the same registers and phases. -/
theorem EngineMoved.irailOf (hr : r < 16) (h : EngineMoved s t) (h0 : railBase s r ≠ 0) :
    irailOf t r = toSPU16 (sumR ((activeOf s r).map fun p => iOf s p * phBase s p) / railBase s r) := by
  have hbank : t.bank = s.bank := only_bank h.parts
  have hph (p : Nat) : t.ph p = s.ph p := only_ph h.parts p
  have hbase : railBase t r = railBase s r := (h.loopSame (r := r)).outSame.railBase hr
  have hval : ∀ p, iOf t p * phBase t p = iOf s p * phBase s p := by
    intro p
    unfold iOf phBase State.pr State.reg
    rw [hph, hbank]
  unfold Machine.irailOf
  rw [if_neg (hbase ▸ h0), h.loopSame.activeOf hr, hbase]
  simp only [hval]

theorem exec_engineUpdate_driven {q : QItem} (hs : s.Serves q r) (hq : q.ctx = r) (hr : r < 16) (hwf : s.StoresWf)
    (hst : (s.rail r).st ∈ [RailState.ramp, .regulate, .stopping]) (hl : limited s r = false) (hc : s.cup.run = false)
    (hg : gangRef s r = none) (hn : (s.rail r).notchDue = false) (k : Fin 8) (l : Nat) (d : Bool) :
    ∃ t, exec (.engineUpdate l d k) s = .next t ∧
      Delivered r (freeStages s r (blendOf s r) (termOf s r)) (freeOut s r (freeStages s r (blendOf s r) (termOf s r)).2.val (termOf s r)) s t ∧
      (railBase s r ≠ 0 → (t.rail r).irail = toSPU16 (sumR ((activeOf s r).map fun p => iOf s p * phBase s p) / railBase s r)) ∧
      ∀ i < 256, tabEntry t r i =
        if learns s r = true ∧ i = learnIndex s r then learnValue s r (errV s r) else tabEntry s r i := by
  obtain ⟨w, t, hw, ht, hexec⟩ := exec_engineUpdate hs hq hr k l d
  have hsw : LoopSame r s w := hw.loopSame
  have hbank : w.bank = s.bank := only_bank hw.parts
  have hrail : w.rail r = s.rail r := only_rail hw.parts r
  have hdrip : (s.rail r).st ≠ .drip := by rintro h; simp [h] at hst
  have hbrake : (s.rail r).st ≠ .brake := by rintro h; simp [h] at hst
  have hcup : w.cup = s.cup := only_cup hw.parts
  obtain ⟨u, hwu, hirail, hswf, heng, htab, hupd⟩ := vUpdate_inputs (s := w) hr (hbank ▸ hwf.1) (by rw [hrail]; exact hs.2.2.2.2.2.2.2)
    (by rwa [hrail]) (by rwa [hrail]) (by rwa [hcup]) (.inr (by rw [hrail]; exact hn)) (.inr (hsw.limited.trans hl))
  have hsu : LoopSame r s u := hsw.trans hwu
  have hub : blocksOf u r = blocksOf s r := (blocksOf_congr heng r).trans (hw.blocks r)
  have hblend : blendOf w r = blendOf s r := blendOf_congr hr hsw hbank (.inr (by rw [hrail]; exact ⟨rfl, rfl⟩))
  obtain ⟨hdel, hparts, hcur, htable⟩ := vFree_delivers hr hsu hub hswf hdrip hg (blendOf s r) (termOf s r)
  rw [hsw.errV hr, hblend, termOf_congr hr hsw hbank, if_neg (by simp [hsw.limited, hl])] at hupd
  obtain ⟨z, hz⟩ : ∃ z, z = vFree r (blendOf s r) (termOf s r) u := ⟨_, rfl⟩
  rw [← hz] at hdel hparts hcur htable hupd
  have hzcup : z.cup.run = false := by rw [only_cup hparts, only_cup hwu.parts, hcup, hc]
  have hbr : AfterBrake z (vUpdate r w) := hupd ▸ brakeTest_after hzcup r (errV s r)
  have hres : (t.rail r).result = (z.rail r).result :=
    (congrArg Rail.result (only_rail ht.parts r)).trans (congrFun hbr.result r)
  refine ⟨t, hexec, hdel.later hbr ht, fun h0 => ?_, fun i hi => ?_⟩
  · have hi : (t.rail r).irail = (z.rail r).irail := congrArg (fun x => x.2.2) hres
    rw [hi, hcur, hirail, hw.irailOf hr h0]
  · have hbz : t.bank = z.bank := (only_bank ht.parts).trans (only_bank hbr.parts)
    rw [tabEntry_congr hbz, htable i hi, htab i hi, hsw.learns hr, tabEntry_congr hbank, hsw.learnIndex hr, hsw.errV hr, hsw.learnValue hr hbank]

theorem exec_engineUpdate_limited {q : QItem} (hs : s.Serves q r) (hq : q.ctx = r) (hr : r < 16) (hwf : s.StoresWf)
    (hst : (s.rail r).st = .limit) (hc : s.cup.run = false) (hg : gangRef s r = none) (hm : rtabMode s r = 0)
    (hb : bit (rgOf s r 2) 31 = false) (k : Fin 8) (l : Nat) (d : Bool) :
    ∃ t, exec (.engineUpdate l d k) s = .next t ∧ LimitOutcome r (gained s r (errV s r)) s t := by
  obtain ⟨w, t, hw, ht, hexec⟩ := exec_engineUpdate hs hq hr k l d
  obtain ⟨_, hhalt, _, _, _, _, _, hpend⟩ := hs
  have hsw : LoopSame r s w := hw.loopSame
  have hbank : w.bank = s.bank := only_bank hw.parts
  have hrail : w.rail r = s.rail r := only_rail hw.parts r
  have hcup : w.cup = s.cup := only_cup hw.parts
  have hwm : rtabMode w r = 0 := (hsw.rtabMode hr).trans hm
  have hlim : limited w r = true := by
    unfold limited
    rw [hrail, hst]
    rfl
  obtain ⟨u, hwu, _, _, heng, _, hupd⟩ := vUpdate_inputs (s := w) hr (hbank ▸ hwf.1) (by rw [hrail, hpend])
    (by rw [hrail, hst]; decide) (by rw [hrail, hst]; decide) (by rw [hcup, hc]) (.inl hwm) (.inl hwm)
  have hblend : blendOf w r = gained s r (errV s r) := by
    rw [blendOf_congr hr hsw hbank (.inl hm)]
    exact if_pos hm
  have hhu : u.eng.haltReq = false := by rw [heng, hw.halt, hhalt]
  obtain ⟨hout, hrg⟩ := vLimited_outcome hr (hsw.trans hwu) hst hg hhu (gained s r (errV s r))
  rw [if_pos hlim, hblend] at hupd
  exact ⟨t, hexec, hout.later hr (hrg ▸ hb) (hupd ▸ ht)⟩

/-! ### The terms of the statement (R146, R152, R154, R179, R200) -/

theorem errV_eq (s : State) (r : Nat) : errV s r =
    if bit (s.rr r 0x08) 3 then ((s.rail r).vloop : Int) - (s.rail r).uRef else ((s.rail r).uRef : Int) - (s.rail r).vloop := by
  unfold errV
  exact if_congr Iff.rfl (neg_sub _ _) rfl

theorem freeStages_eq (s : State) (r : Nat) (x term : Rat) : freeStages s r x term = match (s.rail r).plV with
    | none => runStages (stagesOf (s.actC r) 0x10) (blocksOf s r) (sigOf x)
    | some u => preloadStages (stagesOf (s.actC r) 0x10) (sigOf x) (u - (term + if cascade s r then 0 else dff s r)) := by
  unfold freeStages
  cases (s.rail r).plV <;> rfl

theorem freeOut_direct (hc : cascade s r = false) (y term : Rat) : freeOut s r y term = dlim s r (y + term + dff s r) :=
  if_neg (by simp [hc])

theorem freeOut_cascade (hc : cascade s r = true) (y term : Rat) :
    freeOut s r y term = puI (toSPU16 (clampR (boundsOf s r).2 (boundsOf s r).1 (y + term))) := if_pos hc

/-- The output with which a rail leaves LIMIT is what its loop asks for, clamped. -/
theorem freeOut_limitWant (s : State) (r : Nat) (x : Rat) : freeOut s r (limitStages s r x).2.val 0 =
    if cascade s r then puI (toSPU16 (clampR (boundsOf s r).2 (boundsOf s r).1 (limitWant s r x))) else dlim s r (limitWant s r x) := by
  unfold limitWant
  cases hc : cascade s r
  · rw [freeOut_direct hc, add_zero]
    rfl
  · rw [freeOut_cascade hc, if_pos rfl, if_pos rfl]

theorem learnValue_eq {i : Nat} (h : i = learnIndex s r) (e : Int) : learnValue s r e =
    clampI (s16 (fld (s.tr r 0x8B) 15 0) * 256) (s16 (fld (s.tr r 0x8B) 31 16) * 256)
      (tabEntry s r i + roundAway (bf (s.tr r 0x8A) * (e : Rat) * 256)) := h ▸ rfl

end
end Sys2Proof.Machine

section
open Sys2Proof Sys2Proof.Machine

/-- Settles O31: the update is its inputs and then its stages, and all that these read stands in the state the update begins in. -/
theorem voltageLoopUpdates : Obligations.VoltageLoopUpdates := by
  unfold Obligations.VoltageLoopUpdates
  refine ⟨fun k l d q r s hwf hs hq hr hst hl hc hg hn => ?_, fun k l d q r s hwf hs hq hr hst hc hg hm hb => ?_,
    fun r k e s hx h1 h2 hk => ⟨lutGain_low h1 h2, lutGain_high hx h1 h2, lutGain_between hx h1 h2 hk⟩,
    fun b d h per hh => cmpOf_laws hh, fun r s own oth rho ho ht hrho => dff_law ho ht hrho⟩
  · obtain ⟨t, hexec, hdel, hirail, htab⟩ := exec_engineUpdate_driven hs hq hr hwf hst hl hc hg hn k l d
    refine ⟨t, errV s r, gained s r (errV s r), blendOf s r, termOf s r, freeStages s r (blendOf s r) (termOf s r), hexec, errV_eq s r,
      rfl, rfl, rfl, freeStages_eq .., hdel.blocks, hdel.preload, hirail, fun hcas => ⟨?_, fun p hp => ?_⟩, fun hcas => ⟨?_, fun h0 p hp => ?_⟩,
      fun i hi => ?_⟩
    · exact hdel.out.trans (freeOut_direct hcas ..)
    · rw [hdel.out]
      exact hdel.sets hcas p hp
    · exact hdel.out.trans (freeOut_cascade hcas ..)
    · rw [hdel.out]
      exact hdel.shares hcas h0 p hp
    · rw [htab i hi]
      by_cases h : learns s r = true ∧ i = learnIndex s r
      · exact (if_pos h).trans ((learnValue_eq h.2 _).trans (if_pos h).symm)
      · exact (if_neg h).trans (if_neg h).symm
  · obtain ⟨t, hexec, h⟩ := exec_engineUpdate_limited hs hq hr hwf hst hc hg hm hb k l d
    refine ⟨t, _, _, _, limitWant s r (gained s r (errV s r)), hexec, rfl, rfl, rfl, rfl, h.blocks, ?_⟩
    by_cases hless : asksLess s r (gained s r (errV s r))
    · obtain ⟨hcourse, hout⟩ := h.leaves hless
      refine (if_pos hless).mpr ⟨congrArg Prod.snd hcourse, congrArg Prod.fst hcourse, hout.trans (freeOut_limitWant ..)⟩
    · obtain ⟨hcourse, hout, hph⟩ := h.stays hless
      exact (if_neg hless).mpr ⟨(congrArg Prod.fst hcourse).trans hst, congrArg Prod.snd hcourse, hout, hph⟩

end
end

section
/-! PROOFS: what the state of a generator rests on (R126), and accepted writes of a phase page (R428). -/

-- The package as one text: its declarations are elaborated one after another, to hold few threads.
set_option Elab.async false

namespace Sys2Proof.Machine

section
variable {s t : State} {p : Nat}

/-! ### The state of a generator, by what it rests on (R126) -/

/-- What of a generator its row of R126 rests on. -/
structure GenRow where
  going : Bool
  driving : Bool
  tripHold : Bool
  hold : Bool

def Gen.row (g : Gen) : GenRow := ⟨g.going, g.driving, g.tripHold, g.hold⟩

/-- Everything that the row of R126 of generator `p` rests on is the same. -/
structure SameRow (p : Nat) (s t : State) : Prop where
  regs : t.reg = s.reg
  halt : t.eng.haltReq = s.eng.haltReq
  dev : t.dev = s.dev
  rails : ∀ r, (t.rail r).st = (s.rail r).st
  latch : t.tripLatch = s.tripLatch
  gen : (t.ph p).gen.row = (s.ph p).gen.row

theorem railOf_of_regs (h : t.reg = s.reg) (q : Nat) : railOf t q = railOf s q := by
  unfold railOf State.pr
  rw [h]

theorem enOf_of_regs (h : t.reg = s.reg) (q : Nat) : enOf t q = enOf s q := by
  unfold enOf State.pr
  rw [h]

theorem shadowSet_of_regs (h : t.reg = s.reg) (q : Nat) : shadowSet t q = shadowSet s q := by
  unfold shadowSet State.pr
  rw [h]

theorem tripMaps_of_regs (h : t.reg = s.reg) (n q : Nat) : tripMaps t n q = tripMaps s n q := by
  unfold tripMaps State.pg domOf State.rr
  rw [railOf_of_regs h, h]

theorem SameRow.gst (h : SameRow p s t) : gst t p = gst s p := by
  have hfrozen : allFrozen t = allFrozen s := by
    unfold allFrozen
    rw [h.halt, h.dev]
  have htrip : tripped t p = tripped s p := by
    unfold tripped
    rw [h.latch, funext fun n => tripMaps_of_regs h.regs n p]
  have hgoing : (t.ph p).gen.going = (s.ph p).gen.going := congrArg GenRow.going h.gen
  have hdriving : (t.ph p).gen.driving = (s.ph p).gen.driving := congrArg GenRow.driving h.gen
  have htripHold : (t.ph p).gen.tripHold = (s.ph p).gen.tripHold := congrArg GenRow.tripHold h.gen
  have hhold : (t.ph p).gen.hold = (s.ph p).gen.hold := congrArg GenRow.hold h.gen
  unfold Machine.gst
  dsimp only
  rw [hfrozen, htrip, hgoing, hdriving, htripHold, hhold, h.dev, enOf_of_regs h.regs, railOf_of_regs h.regs]
  cases railOf s p with
  | none => rfl
  | some r => simp only [h.rails]

/-! ### Writes of registers that store nothing -/

/-- A register without fields to store keeps its word (R428). -/
theorem stored_of_no_fields {row : RegRow} (hrw : row.rwBits = 0#32) (hw1 : row.w1c = 0) (old w : Word) : row.stored old w = old := by
  have hnot : ~~~ 0#32 = BitVec.allOnes 32 := by decide
  simp only [RegRow.stored, hrw, hw1, BitVec.and_zero, BitVec.or_zero, hnot, BitVec.and_allOnes]

theorem written_regs_of_no_fields {h : Fin 3} {a : Nat} {w : Word} {row : RegRow} (hs : s.StoresWf) (hrw : row.rwBits = 0#32) (hw1 : row.w1c = 0) :
    (s.written h a w row).reg = s.reg := by
  funext k
  by_cases hk : k = a
  · rw [hk, written_reg hs, stored_of_no_fields hrw hw1]
  · exact written_reg_ne hk

/-- An accepted write of a phase page's register stores its fields and has the register's effect. -/
theorem writeCmd_ph {h : Fin 3} {p : Fin 48} {off : Nat} {w : Word} (ht : s.Takes h ((0x20 + p.val) * 256 + off) w) (ho : 8 ≤ off ∧ off < 255)
    (hrow : (PType.ph.rows.find? (·.holds off)).isSome = true) :
    writeCmd h ((0x20 + p.val) * 256 + off) w (s.begin h) =
      effectPh p off (s.pr p off) w (s.written h ((0x20 + p.val) * 256 + off) w (PType.ph.rowAt off)) := by
  rw [writeCmd_reg (isReg_of_page (pageType_ph p) ho hrow) (by simp only [Pg.FC, Reg.FC_LOGSEL]; omega) ht, effectBlock_ph h p off _ _ _ (by omega)]
  rfl

end
end Sys2Proof.Machine
end

section
/-! PROOFS: PH_LOAD and PH_ENABLE (R26, R27, R121, R122, R209, R214). -/

-- The package as one text: its declarations are elaborated one after another, to hold few threads.
set_option Elab.async false

namespace Sys2Proof.Machine

section
variable {s t : State} {p : Nat}

/-! ### PH_LOAD (R121, R122) -/

theorem loadPhase_only (p : Nat) (s : State) : Only [.phases] s (loadPhase p s) :=
  only_ite only_refl (only_ite (loadShadow_only s p) (modGen_only s p _))

theorem loadPhase_others (s : State) : OtherPhases p s (loadPhase p s) := by
  intro q hq
  unfold loadPhase
  split
  · rfl
  · split
    · exact ph_modPh_ne _ _ _ _ hq
    · exact ph_modPh_ne _ _ _ _ hq

/-- With a load pending a further one changes nothing (R123). -/
theorem loadPhase_pending (h : (s.ph p).gen.ldpend = true) : loadPhase p s = s := if_pos h

/-- In STOP the shadow set becomes the active set at once. -/
theorem loadPhase_stop (hp : p < 48) (hl : (s.ph p).gen.ldpend = false) (hg : gst s p = .stop) :
    ((loadPhase p s).ph p).gen.act = shadowSet s p ∧ ((loadPhase p s).ph p).gen.ldpend = false := by
  unfold loadPhase
  rw [if_neg (by simp [hl]), if_pos (by simp [hg]), loadShadow, ph_modGen, if_pos ⟨rfl, hp⟩]
  exact ⟨rfl, rfl⟩

/-- Elsewhere the load waits for the next boundary. -/
theorem loadPhase_waits (hp : p < 48) (hg : gst s p ≠ .stop) :
    (loadPhase p s).ph p = { s.ph p with gen := { (s.ph p).gen with ldpend := true } } := by
  unfold loadPhase
  split
  · next h =>
    rw [← h]
  · rw [if_neg (by simpa using hg), ph_modGen, if_pos ⟨rfl, hp⟩]

theorem phLoad_acts {h : Fin 3} {p : Fin 48} {s : State} (hs : s.StoresWf) (ht : s.Takes h ((0x20 + p.val) * 256 + 0x1E) 1) :
    ∃ t, exec (.phLoad h p) s = .next t ∧ SameRegs [] s t ∧ t = { s.wrote t with phases := t.phases } ∧ OtherPhases p s t ∧
      ((s.ph p).gen.ldpend = true → t.phases = s.phases) ∧
      ((s.ph p).gen.ldpend = false → gst s p = .stop → (t.ph p).gen.act = shadowSet s p ∧ (t.ph p).gen.ldpend = false) ∧
      (gst s p ≠ .stop → t.ph p = { s.ph p with gen := { (s.ph p).gen with ldpend := true } }) := by
  obtain ⟨u, hu⟩ : ∃ u, u = s.written h ((0x20 + p.val) * 256 + 0x1E) 1 (PType.ph.rowAt 0x1E) := ⟨_, rfl⟩
  have hur : u.reg = s.reg := hu ▸ written_regs_of_no_fields hs (by decide) (by decide)
  have hup : u.ph p = s.ph p := by rw [hu]; rfl
  have hug : gst u p = gst s p := SameRow.gst ⟨hur, by rw [hu]; rfl, by rw [hu]; rfl, fun r => by rw [hu]; rfl, by rw [hu]; rfl, by rw [hup]⟩
  obtain ⟨t, htdef⟩ : ∃ t, t = loadPhase p u := ⟨_, rfl⟩
  have hot : Only [.phases] u t := htdef ▸ loadPhase_only p u
  refine ⟨t, ?_, fun k _ => ?_, written_frame [.phases] (only_mono (hu ▸ hot)), fun q hq => ?_, fun hl => ?_, fun hl hg => ?_, fun hg => ?_⟩
  · refine congrArg Host.Outcome.next ((writeCmd_ph ht (by decide) (by decide)).trans ?_)
    rw [← hu, htdef]
    rfl
  · rw [only_reg hot, hur]
  · rw [htdef, loadPhase_others u q hq, hu]
    rfl
  · rw [htdef, loadPhase_pending (hup ▸ hl), hu]
    rfl
  · rw [htdef, ← shadowSet_of_regs hur]
    exact loadPhase_stop p.isLt (hup ▸ hl) (hug.trans hg)
  · rw [htdef, loadPhase_waits p.isLt (hug ▸ hg), hup]

/-! ### A write of PH_CTL (R27, R112, R127) -/

/-- The words of PH_ENABLE and PH_DISABLE: MINPW and EN (R436). -/
theorem enableWord (m : BitVec 8) : pack [(m.toNat, 24), (1, 0)] = BitVec.ofNat 32 (m.toNat * 16777216 + 1) := by simp [pack]
theorem disableWord (m : BitVec 8) : pack [(m.toNat, 24)] = BitVec.ofNat 32 (m.toNat * 16777216) := by simp [pack]

theorem bit_enableWord (m : BitVec 8) : bit (BitVec.ofNat 32 (m.toNat * 16777216 + 1)) 0 = true := by
  simp only [bit, BitVec.toNat_ofNat, Nat.testBit_zero, decide_eq_true_eq]
  omega

theorem bit_disableWord (m : BitVec 8) : bit (BitVec.ofNat 32 (m.toNat * 16777216)) 0 = false := by
  simp only [bit, BitVec.toNat_ofNat, Nat.testBit_zero, decide_eq_false_iff_not]
  omega

/-- MINPW of the word, whatever EN is. -/
theorem fld_ctlWord (m : BitVec 8) {e : Nat} (he : e < 16777216) : fld (BitVec.ofNat 32 (m.toNat * 16777216 + e)) 31 24 = m.toNat := by
  have hm := m.isLt
  simp only [fld, BitVec.toNat_ofNat, Nat.shiftRight_eq_div_pow]
  omega

/-- The state once `w` is stored in PH_CTL of phase `p`. -/
def State.ctlWritten (s : State) (h : Fin 3) (p : Nat) (w : Word) : State :=
  s.written h ((0x20 + p) * 256 + 0x18) w (PType.ph.rowAt 0x18)

section
variable {h : Fin 3} {w : Word}

theorem ctlWritten_regs : SameRegs [(0x20 + p) * 256 + 0x18] s (s.ctlWritten h p w) := written_sameRegs

/-- Other registers of the phase pages keep their words. -/
theorem ctlWritten_pr {off : Nat} (q : Nat) (ho : off ≠ 0x18 := by decide) (h2 : off < 256 := by decide) :
    (s.ctlWritten h p w).pr q off = s.pr q off := ctlWritten_regs _ (by simp only [List.mem_singleton]; omega)

theorem ctlWritten_railOf (q : Nat) : railOf (s.ctlWritten h p w) q = railOf s q := railOf_congr (ctlWritten_pr q)

theorem ctlWritten_shadowSet (q : Nat) : shadowSet (s.ctlWritten h p w) q = shadowSet s q := by
  unfold shadowSet
  rw [ctlWritten_pr (off := Reg.PH_PER), ctlWritten_pr (off := Reg.PH_CMP), ctlWritten_pr (off := Reg.PH_DT), ctlWritten_pr (off := Reg.PH_OFS)]

theorem ctlWritten_enOf (hs : s.StoresWf) : enOf (s.ctlWritten h p w) p = bit w 0 := written_bit hs (by decide)

theorem ctlWritten_minpw (hs : s.StoresWf) : fld ((s.ctlWritten h p w).pr p 0x18) 31 24 = fld w 31 24 := written_fld hs (by decide)

/-- EN set enables a generator that was disabled, EN clear disables one that was enabled. -/
theorem writeCmd_phCtl {p : Fin 48} (ht : s.Takes h ((0x20 + p.val) * 256 + 0x18) w) :
    writeCmd h ((0x20 + p.val) * 256 + 0x18) w (s.begin h) =
      if bit w 0 then (if enOf s p then s.ctlWritten h p w else enablePhase p (s.ctlWritten h p w))
      else (if enOf s p then disablePhase p (s.ctlWritten h p w) else s.ctlWritten h p w) := by
  rw [writeCmd_ph ht (by decide) (by decide)]
  unfold effectPh
  show (if bit w 0 && !enOf s p then _ else if !bit w 0 && enOf s p then _ else _) = _
  cases bit w 0 <;> cases enOf s p <;> rfl

end

/-! ### PH_ENABLE (R26, R27, R209, R214) -/

/-- Counting moves no instant: the CKB cycle of the frame stays (R62, R398). -/
theorem perfAdd_at {chain counts : Nat → Bool} (fuel i n : Nat) (x : Perf) : (Perf.add chain counts fuel i n x).at_ = x.at_ := by
  induction fuel generalizing i n x with
  | zero => rfl
  | succ fuel ih =>
    unfold Perf.add
    dsimp only
    split
    · rfl
    · split
      · split
        · exact ih _ _ _
        · rfl
      · rfl

theorem perf_at (evt inst n : Nat) (s : State) : (perf evt inst n s).perf.at_ = s.perf.at_ := by
  unfold perf
  split
  · rfl
  · refine foldl_keeps (P := fun x : Perf => x.at_ = s.perf.at_) (fun x i h => ?_) _ rfl
    split
    · rw [perfAdd_at, h]
    · exact h

theorem skipNamed_at (a : Nat) (w : Word) (s : State) : (skipNamed a w s).perf.at_ = s.perf.at_ := by
  unfold skipNamed
  split
  · rfl
  · split <;> rfl

/-- A write is accepted at the CKB edge at which its access began. -/
theorem ctlWritten_edgeCnt (s : State) (h : Fin 3) (p : Nat) (w : Word) : edgeCnt (s.ctlWritten h p w) = edgeCnt (s.begin h) := by
  have e : (s.ctlWritten h p w).perf.at_ = (s.begin h).perf.at_ := (perf_at _ _ _ _).trans (skipNamed_at _ _ _)
  unfold edgeCnt
  rw [e]
  rfl

/-- Which DRVEN is high rests, of the registers, on PH_CTL by its EN alone (R26). -/
theorem drvHigh_of_ctl (hdev : t.dev = s.dev) (hrail : t.rails = s.rails) (hreg : SameRegs [(0x20 + p) * 256 + 0x18] s t)
    (hen : enOf t p = enOf s p) (k : Nat) : drvHigh t k = drvHigh s k := by
  have hcfg (q : Nat) : t.pr q Reg.PH_CFG = s.pr q Reg.PH_CFG := hreg _ (by simp only [Reg.PH_CFG, List.mem_singleton]; omega)
  have hens (q : Nat) : enOf t q = enOf s q := by
    by_cases hq : q = p
    · rw [hq, hen]
    · exact congrArg (bit · 0) (hreg _ (by simp only [Reg.PH_CTL, List.mem_singleton]; omega) : t.pr q Reg.PH_CTL = s.pr q Reg.PH_CTL)
  have hdom : railsOfDom t k = railsOfDom s k := by
    refine List.filter_congr fun r hr => ?_
    have e : t.rr r Reg.RAIL_CFG = s.rr r Reg.RAIL_CFG :=
      hreg _ (by have := List.mem_range.1 hr; simp only [Reg.RAIL_CFG, List.mem_singleton]; omega)
    unfold domOf
    rw [e]
  have hr : t.rail = s.rail := funext fun r => by unfold State.rail; rw [hrail]
  unfold drvHigh
  simp only [hdev, hdom, hr, railOf_congr (hcfg _), hcfg, hens]

theorem enablePhase_only (p : Nat) (s : State) : Only [.phases, .rails, .doms] s (enablePhase p s) := by
  unfold enablePhase
  split
  · exact only_then (l := [.doms]) (noteDrv_only s _ _) (startManual_only _ _ p)
  · refine only_ite (only_mono (modPh_only s p _)) (only_ite ?_ only_refl)
    refine only_then (l := [.phases]) (m := [.phases, .rails]) (loadShadow_only s p) (only_ite only_refl ?_)
    exact only_then (modRail_only _ _ _) (modGen_only _ p _)

theorem enablePhase_others (s : State) : OtherPhases p s (enablePhase p s) := by
  intro q hq
  unfold enablePhase
  split
  · rw [startManual, State.modGen, ph_modPh_ne _ _ _ _ hq, only_ph (noteDrv_only _ _ _)]
  · split
    · exact ph_modPh_ne _ _ _ _ hq
    · split
      · have hload : (loadShadow p s).ph q = s.ph q := ph_modPh_ne _ _ _ _ hq
        dsimp only
        split
        · exact hload
        · rw [State.modGen, ph_modPh_ne _ _ _ _ hq, ph_modRail_of, hload]
      · rfl

/-- A phase of a running rail becomes SHED, or stays FAILED, and is held (R209, R214). -/
theorem enablePhase_running {r : Nat} (hp : p < 48) (hr : railOf s p = some r) (hst : (s.rail r).st.running = true) :
    (enablePhase p s).rails = s.rails ∧ (enablePhase p s).doms = s.doms ∧
      ((enablePhase p s).ph p).gen = { (s.ph p).gen with hold := true } ∧
      ((enablePhase p s).ph p).pst = if (s.ph p).pst = .failed then .failed else .shed := by
  unfold enablePhase
  rw [hr]
  dsimp only
  rw [if_pos hst, ph_modPh_same _ _ _ hp]
  refine ⟨rfl, rfl, ?_, ?_⟩
  · split <;> rfl
  · by_cases hf : (s.ph p).pst = .failed
    · simp [hf]
    · simp [hf]

/-- A phase of a rail that starts takes its shadow set. -/
theorem enablePhase_starting {r : Nat} (hp : p < 48) (hr : railOf s p = some r) (hst : (s.rail r).st = .precheck ∨ (s.rail r).st = .prebias) :
    ((enablePhase p s).ph p).gen.act = shadowSet s p ∧ ((enablePhase p s).ph p).pst = (s.ph p).pst ∧ OtherRails r s (enablePhase p s) := by
  have hrun : (s.rail r).st.running = false := by rcases hst with h | h <;> rw [h] <;> rfl
  have hload : (loadShadow p s).ph p = { s.ph p with gen := ((loadShadow p s).ph p).gen } ∧ ((loadShadow p s).ph p).gen.act = shadowSet s p := by
    rw [loadShadow, ph_modGen, if_pos ⟨rfl, hp⟩]
    exact ⟨rfl, rfl⟩
  obtain ⟨hph, hact⟩ := hload
  unfold enablePhase
  rw [hr]
  dsimp only
  rw [if_neg (by simp [hrun]), if_pos (by simpa using hst)]
  split
  · exact ⟨hact, by rw [hph], fun _ _ => rfl⟩
  · rw [ph_modGen, if_pos ⟨rfl, hp⟩, ph_modRail_of]
    refine ⟨hact, by rw [hph], fun q hq => ?_⟩
    rw [rail_modGen_of, rail_modRail_ne _ _ _ _ hq]
    rfl

/-- A phase in manual duty takes its instant, and its domain's DRVEN may rise with it (R26, R27). -/
theorem enablePhase_manual (hp : p < 48) (hr : railOf s p = none) :
    (enablePhase p s).rails = s.rails ∧
    (∀ k < 4, (enablePhase p s).dom k = if drvHigh (enablePhase p s) k &&
        !drvHigh (s.setReg ((0x20 + p) * 256 + Reg.PH_CTL) (setFld (s.pr p Reg.PH_CTL) 0 0 0)) k
      then { s.dom k with drvRise := edgeCnt s } else s.dom k) ∧
    (enablePhase p s).ph p = { s.ph p with gen := { (s.ph p).gen with
      ref := some (max (edgeCnt s) (((enablePhase p s).dom (domOfPh s p)).drvRise + 800)) } } := by
  obtain ⟨v, hv⟩ : ∃ v, v = noteDrv (edgeCnt s) (s.setReg ((0x20 + p) * 256 + Reg.PH_CTL) (setFld (s.pr p Reg.PH_CTL) 0 0 0)) s := ⟨_, rfl⟩
  have hsv : Only [.doms] s v := hv ▸ noteDrv_only s _ _
  have he : enablePhase p s = startManual (edgeCnt s) v p := by
    unfold enablePhase
    rw [hr, hv]
    rfl
  have hst : Only [.phases] v (startManual (edgeCnt s) v p) := startManual_only _ _ _
  have hall : Only [.phases, .doms] s (startManual (edgeCnt s) v p) := only_then (l := [.doms]) hsv hst
  have hdp : domOfPh v p = domOfPh s p := by rw [eq_take_of_only hsv]; rfl
  rw [he]
  refine ⟨only_rails hall, fun k hk => ?_, ?_⟩
  · rw [drvHigh_congr (only_mono hall), only_dom hst, hv, noteDrv_dom hk]
  · rw [only_dom hst, startManual, ph_modGen, if_pos ⟨rfl, hp⟩, only_ph hsv, hdp]

theorem bit_setFld_zero (w : Word) : bit (setFld w 0 0 0) 0 = false := by
  simp only [bit, setFld, fld, BitVec.toNat_ofNat, Nat.testBit_zero, decide_eq_false_iff_not]
  omega

/-- With EN taken back the drive states are those before the write, of a generator that was disabled. -/
theorem drvHigh_beforeEnable {h : Fin 3} {w : Word} (hs : s.StoresWf) (ho : enOf s p = false) (k : Nat) :
    drvHigh ((s.ctlWritten h p w).setReg ((0x20 + p) * 256 + Reg.PH_CTL) (setFld ((s.ctlWritten h p w).pr p Reg.PH_CTL) 0 0 0)) k = drvHigh s k := by
  refine drvHigh_of_ctl (s := s) (t := (s.ctlWritten h p w).setReg _ _) (p := p) rfl rfl (fun a ha => ?_) ?_ k
  · rw [reg_setReg_ne (by simpa using ha), ctlWritten_regs a ha]
  · have hwf : swf defaultWord (s.ctlWritten h p w).bank := setReg_swf hs.1
    rw [ho, enOf, State.pr, reg_setReg_same hwf, bit_setFld_zero]

theorem phEnable_acts {h : Fin 3} {p : Fin 48} {m : BitVec 8} {s : State} (hs : s.StoresWf)
    (ht : s.Takes h ((0x20 + p.val) * 256 + 0x18) (BitVec.ofNat 32 (m.toNat * 16777216 + 1))) :
    ∃ t, exec (.phEnable h p m) s = .next t ∧ SameRegs [(0x20 + p.val) * 256 + 0x18] s t ∧
      t = { s.wrote t with phases := t.phases, rails := t.rails, doms := t.doms } ∧ OtherPhases p s t ∧ enOf t p = true ∧
      fld (t.pr p 0x18) 31 24 = m.toNat ∧
      (enOf s p = true → t.phases = s.phases ∧ t.rails = s.rails ∧ t.doms = s.doms) ∧
      (enOf s p = false → railOf s p = none → t.rails = s.rails ∧
        (∀ k < 4, t.dom k = if drvHigh t k && !drvHigh s k then { s.dom k with drvRise := edgeCnt (s.begin h) } else s.dom k) ∧
        t.ph p = { s.ph p with gen := { (s.ph p).gen with
          ref := some (max (edgeCnt (s.begin h)) ((t.dom (domOfPh s p)).drvRise + 800)) } }) ∧
      (∀ r, enOf s p = false → railOf s p = some r → (s.rail r).st.running = true → t.rails = s.rails ∧ t.doms = s.doms ∧
        (t.ph p).gen = { (s.ph p).gen with hold := true } ∧
        (t.ph p).pst = if (s.ph p).pst = .failed then .failed else .shed) ∧
      (∀ r, enOf s p = false → railOf s p = some r → (s.rail r).st = .precheck ∨ (s.rail r).st = .prebias →
        (t.ph p).gen.act = shadowSet s p ∧ (t.ph p).pst = (s.ph p).pst ∧ OtherRails r s t) := by
  obtain ⟨w, hw⟩ : ∃ w, w = BitVec.ofNat 32 (m.toNat * 16777216 + 1) := ⟨_, rfl⟩
  obtain ⟨u, hu⟩ : ∃ u, u = s.ctlWritten h p w := ⟨_, rfl⟩
  obtain ⟨t, htdef⟩ : ∃ t, t = if enOf s p then u else enablePhase p u := ⟨_, rfl⟩
  rw [← hw] at ht
  have hw0 : bit w 0 = true := hw ▸ bit_enableWord m
  have hexec : exec (.phEnable h p m) s = .next t := by
    show Host.Outcome.next (writeCmd h ((0x20 + p.val) * 256 + 0x18) (pack [(m.toNat, 24), (1, 0)]) (s.begin h)) = _
    rw [enableWord, ← hw, writeCmd_phCtl ht, if_pos hw0, ← hu, htdef]
  have hph (q : Nat) : u.ph q = s.ph q := by rw [hu]; rfl
  have hrail (q : Nat) : u.rail q = s.rail q := by rw [hu]; rfl
  have hrails : u.rails = s.rails := by rw [hu]; rfl
  have hru : railOf u p = railOf s p := hu ▸ ctlWritten_railOf _
  have hot : Only [.phases, .rails, .doms] u t := htdef ▸ only_ite only_refl (enablePhase_only p u)
  have hon (ho : enOf s p = false) : t = enablePhase p u := by rw [htdef, ho]; rfl
  refine ⟨t, hexec, fun k hk => ?_, written_frame [.phases, .rails, .doms] (only_mono (hu ▸ hot)), fun q hq => ?_,
    ?_, ?_, fun ho => ?_, fun ho hr => ?_, fun r ho hr hst => ?_, fun r ho hr hst => ?_⟩
  · rw [only_reg hot, hu, ctlWritten_regs k hk]
  · rw [htdef]
    split
    · exact hph q
    · rw [enablePhase_others u q hq, hph]
  · rw [enOf, State.pr, only_reg hot, hu]
    exact (ctlWritten_enOf hs).trans hw0
  · rw [State.pr, only_reg hot, hu, hw]
    exact (ctlWritten_minpw hs).trans (fld_ctlWord m (by decide))
  · rw [htdef, ho, hu]
    exact ⟨rfl, rfl, rfl⟩
  · obtain ⟨h1, hdom, hp⟩ := enablePhase_manual (s := u) p.isLt (hru.trans hr)
    have hedge : edgeCnt u = edgeCnt (s.begin h) := hu ▸ ctlWritten_edgeCnt s h p w
    have hdp : domOfPh u p = domOfPh s p := by
      unfold domOfPh
      rw [hru, hr, hu]
      exact congrArg (fld · 9 8) (ctlWritten_pr _)
    have hbefore (k : Nat) : drvHigh (u.setReg ((0x20 + p.val) * 256 + Reg.PH_CTL) (setFld (u.pr p Reg.PH_CTL) 0 0 0)) k = drvHigh s k :=
      hu ▸ drvHigh_beforeEnable hs ho k
    rw [hdp, hedge, hph] at hp
    rw [hon ho]
    refine ⟨h1.trans hrails, fun k hk => ?_, hp⟩
    rw [hdom k hk, hbefore, hedge, show u.dom k = s.dom k by rw [hu]; rfl]
  · obtain ⟨h1, h2, h3, h4⟩ := enablePhase_running (s := u) p.isLt (hru.trans hr) ((hrail r).symm ▸ hst)
    rw [hon ho, h1, h2, h3, h4, hph, hu]
    exact ⟨rfl, rfl, rfl, rfl⟩
  · obtain ⟨h1, h2, h3⟩ := enablePhase_starting (s := u) p.isLt (hru.trans hr) ((hrail r).symm ▸ hst)
    rw [hon ho, h1, h2, hph, hu]
    exact ⟨ctlWritten_shadowSet _, rfl, fun q hq => (hu ▸ h3 q hq).trans rfl⟩

end
end Sys2Proof.Machine
end

section
/-! PROOFS: PH_DISABLE; the statement about the commands of a phase (R127, R208, R229). -/

-- The package as one text: its declarations are elaborated one after another, to hold few threads.
set_option Elab.async false

namespace Sys2Proof.Machine

section
variable {s t : State} {p : Nat}

/-! ### PH_DISABLE (R127, R208, R229) -/

/-- A generator that is not enabled is in STOP or FROZEN, so its outputs are in high impedance (R126). -/
theorem pins_of_disabled (h : enOf s p = false) (hs : scanned s = false) : pins s p = (.hiZ, .hiZ) := by
  refine pins_hiZ hs (.inr ?_)
  unfold gst
  dsimp only
  split
  · decide
  · rw [if_pos (by simp [h])]
    decide

/-- What follows a write beside registers and counters moves, of the listed parts, and what every accepted access may move. -/
theorem written_frame_counted (l : List Part) {h : Fin 3} {a : Nat} {w : Word} {row : RegRow} (ho : Only (.perf :: l) (s.written h a w row) t)
    (hl : ∀ p ∈ [Part.bank, .clk, .perf, .ports, .twin], p ∉ l := by decide) : t = (s.wrote t).take l t := by
  have part (p : Part) (hp : p ∈ [Part.bank, .clk, .ports, .twin]) : Same p (s.written h a w row) t := by
    refine ho.2 p fun hm => ?_
    rcases List.mem_cons.1 hm with rfl | hm
    · simp at hp
    · exact hl p (by revert hp; simp only [List.mem_cons]; tauto) hm
  have hb : t.bank = (s.written h a w row).bank := part .bank (by decide)
  have hc : t.clk = (s.written h a w row).clk := part .clk (by decide)
  have hq : t.ports = (s.written h a w row).ports := part .ports (by decide)
  have ht : t.twin = (s.written h a w row).twin := part .twin (by decide)
  have e : s.wrote t = { s.written h a w row with perf := t.perf } := by
    unfold State.wrote
    rw [hb, hc, hq, ht]
    rfl
  have hp : Part.perf ∉ l := hl _ (by decide)
  refine (eq_take_of_only ho).trans ?_
  rw [e]
  simp [State.take, hp]

/-- The phase once its generator is disabled: at rest, and no longer ACTIVE or SHED. -/
def Phase.disabled (s : State) (x : Phase) : Phase :=
  { x with gen := x.gen.restIn s, converting := false, sampled := false, joining := false, joinNext := false
           offAt := if x.pst == .active then some s.clk else x.offAt
           pst := if x.pst == .active || x.pst == .shed then .unavail else x.pst }

/-- What the rail makes of a phase that is disabled: a change of its active set where the phase was ACTIVE, a report where it took part. -/
def afterDisable (p r : Nat) (was : Pst) (v : State) : State :=
  if was == .active then activeChanged r (event Src.PH_UNAVAIL p v)
  else if was == .shed then
    if ((event Src.PH_UNAVAIL p v).rail r).st.running && (availOf (event Src.PH_UNAVAIL p v) r).isEmpty then
      event Src.RAIL_NOPH r (event Src.PH_UNAVAIL p v) else event Src.PH_UNAVAIL p v
  else v

theorem disablePhase_none (hr : railOf s p = none) : disablePhase p s = s.modPh p (Phase.disabled s) := by
  unfold disablePhase
  extract_lets was v
  have e : railOf v p = none := hr
  rw [e]
  rfl

theorem disablePhase_some {r : Nat} (hr : railOf s p = some r) :
    ∃ f, disablePhase p s = afterDisable p r (s.ph p).pst ((s.modPh p (Phase.disabled s)).modRail r f) := by
  unfold disablePhase
  extract_lets was v
  have e : railOf v p = some r := hr
  rw [e]
  exact ⟨_, rfl⟩

theorem afterDisable_only (p r : Nat) (was : Pst) (v : State) : Only [.rails, .phases, .perf, .msgs] v (afterDisable p r was v) := by
  have hev : Only [.msgs] v (event Src.PH_UNAVAIL p v) := event_only _ _ _
  refine only_ite (only_then (l := [.msgs]) hev (activeChanged_only _ r)) (only_ite (only_ite ?_ (only_mono hev)) only_refl)
  exact only_mono (only_trans hev (event_only _ _ _))

theorem event_samplesStay (src addr : Nat) (v : State) : SamplesStay v (event src addr v) :=
  .ofOnly (event_only _ _ _) (event_stays _ _ _)

/-- What the rail makes of it moves the condition of no phase. -/
theorem afterDisable_samplesStay (p r : Nat) (was : Pst) (v : State) : SamplesStay v (afterDisable p r was v) := by
  have hev := event_samplesStay Src.PH_UNAVAIL p v
  exact .ite (hev.trans (activeChanged_samplesStay r _ false)) (.ite (.ite (hev.trans (event_samplesStay _ _ _)) hev) .refl)

/-- A phase that took part is reported (R229). -/
theorem afterDisable_waits {p r : Nat} {was : Pst} {v : State} (hc : v.dev.clkStop = false) (hw : was = .active ∨ was = .shed) :
    (afterDisable p r was v).Waits 0x3A 0 p := by
  have hev : (event Src.PH_UNAVAIL p v).Waits 0x3A 0 p := event_waits _ _ hc
  unfold afterDisable
  rcases hw with rfl | rfl
  · rw [if_pos (beq_self_eq_true _)]
    exact (activeChanged_samplesStay r _ false).stays.waits _ _ _ hev
  · rw [if_neg (by decide), if_pos (beq_self_eq_true _)]
    split
    · exact (event_stays _ _ _).waits _ _ _ hev
    · exact hev

theorem disablePhase_only (p : Nat) (s : State) : Only [.perf, .rails, .phases, .msgs] s (disablePhase p s) := by
  cases hr : railOf s p with
  | none =>
    rw [disablePhase_none hr]
    exact only_mono (modPh_only s p _)
  | some r =>
    obtain ⟨f, he⟩ := disablePhase_some hr
    rw [he]
    exact only_then (l := [.phases, .rails]) (only_then (modPh_only s p _) (modRail_only _ r f)) (afterDisable_only p r _ _)

/-- A phase that took part in its rail becomes UNAVAIL (R208). -/
theorem disablePhase_pst (hp : p < 48) (hw : (s.ph p).pst = .active ∨ (s.ph p).pst = .shed) : ((disablePhase p s).ph p).pst = .unavail := by
  have hst : ((s.modPh p (Phase.disabled s)).ph p).pst = .unavail := by
    rw [ph_modPh_same _ _ _ hp]
    exact if_pos (by simpa using hw)
  cases hr : railOf s p with
  | none => rw [disablePhase_none hr, hst]
  | some r =>
    obtain ⟨f, he⟩ := disablePhase_some hr
    rw [he]
    exact (congrArg Sample.pst ((afterDisable_samplesStay p r _ _).sample p)).trans hst

theorem disablePhase_waits (hc : s.dev.clkStop = false) (hw : (s.ph p).pst = .active ∨ (s.ph p).pst = .shed) (hr : railOf s p ≠ none) :
    (disablePhase p s).Waits 0x3A 0 p := by
  obtain ⟨r, hr⟩ := Option.ne_none_iff_exists'.1 hr
  obtain ⟨f, he⟩ := disablePhase_some hr
  rw [he]
  exact afterDisable_waits hc hw

theorem phDisable_acts {h : Fin 3} {p : Fin 48} {m : BitVec 8} {s : State} (hs : s.StoresWf)
    (ht : s.Takes h ((0x20 + p.val) * 256 + 0x18) (BitVec.ofNat 32 (m.toNat * 16777216))) :
    ∃ t, exec (.phDisable h p m) s = .next t ∧
      t = { s.wrote t with phases := t.phases, rails := t.rails, fc := { s.fc with pend := t.fc.pend } } ∧
      SameRegs [(0x20 + p.val) * 256 + 0x18] s t ∧ enOf t p = false ∧ fld (t.pr p 0x18) 31 24 = m.toNat ∧ (scanned s = false → pins t p = (.hiZ, .hiZ)) ∧
      (enOf s p = true → (s.ph p).pst = .active ∨ (s.ph p).pst = .shed → (t.ph p).pst = .unavail) ∧
      (enOf s p = true → (s.ph p).pst = .active ∨ (s.ph p).pst = .shed → railOf s p ≠ none → t.Waits 0x3A 0 p) ∧
      (enOf s p = false → t.phases = s.phases ∧ t.rails = s.rails) := by
  obtain ⟨w, hw⟩ : ∃ w, w = BitVec.ofNat 32 (m.toNat * 16777216) := ⟨_, rfl⟩
  obtain ⟨u, hu⟩ : ∃ u, u = s.ctlWritten h p w := ⟨_, rfl⟩
  obtain ⟨t, htdef⟩ : ∃ t, t = if enOf s p then disablePhase p u else u := ⟨_, rfl⟩
  rw [← hw] at ht
  have hw0 : bit w 0 = false := hw ▸ bit_disableWord m
  have hexec : exec (.phDisable h p m) s = .next t := by
    show Host.Outcome.next (writeCmd h ((0x20 + p.val) * 256 + 0x18) (pack [(m.toNat, 24)]) (s.begin h)) = _
    rw [disableWord, ← hw, writeCmd_phCtl ht, if_neg (by simp [hw0]), ← hu, htdef]
  have hot : Only [.perf, .rails, .phases, .msgs] u t := htdef ▸ only_ite (disablePhase_only p u) only_refl
  have hen : enOf t p = false := by
    rw [enOf, State.pr, only_reg hot, hu]
    exact (ctlWritten_enOf hs).trans hw0
  have hph : u.ph p = s.ph p := by rw [hu]; rfl
  have hru : railOf u p = railOf s p := hu ▸ ctlWritten_railOf _
  have hon (ho : enOf s p = true) : t = disablePhase p u := htdef.trans (if_pos ho)
  have hdev : t.dev = s.dev := (only_dev hot).trans (by rw [hu]; rfl)
  refine ⟨t, hexec, written_frame_counted [.rails, .phases, .msgs] (hu ▸ hot), fun k hk => ?_, hen, ?_, fun hsc => ?_, fun ho hst => ?_,
    fun ho hst hr => ?_, fun ho => ?_⟩
  · rw [only_reg hot, hu, ctlWritten_regs k hk]
  · rw [State.pr, only_reg hot, hu, hw]
    refine (ctlWritten_minpw hs).trans ?_
    rw [← Nat.add_zero (m.toNat * 16777216)]
    exact fld_ctlWord m (by decide)
  · refine pins_of_disabled hen ?_
    unfold scanned
    rw [hdev]
    exact hsc
  · rw [hon ho]
    exact disablePhase_pst p.isLt (hph ▸ hst)
  · rw [hon ho]
    refine disablePhase_waits ?_ (hph ▸ hst) (hru ▸ hr)
    rw [hu]
    exact ht.1.1.2
  · rw [htdef, ho, hu]
    exact ⟨rfl, rfl⟩

end
end Sys2Proof.Machine

section
open Sys2Proof Sys2Proof.Machine

/-- Settles O16: each of the three writes through what its effect makes of the phase. -/
theorem phaseCommands : Obligations.PhaseCommands :=
  ⟨fun _ _ _ hs ht => phLoad_acts hs ht, fun _ _ _ _ hs ht => phEnable_acts hs ht, fun _ _ _ _ hs ht => phDisable_acts hs ht⟩
end
end

section
/-! PROOFS: what a check of the observers and the measurements of a period keep of the phases (R87, R88, R139, R214, R225-R228, R237). -/

-- The package as one text: its declarations are elaborated one after another, to hold few threads.
set_option Elab.async false

namespace Sys2Proof.Machine

section
variable {s t u : State} {p : Nat}

/-! ### What a check of the observers keeps of the phases (R214, R220, R225, R227) -/

section
variable {α : Type} {g : Phase → α}

/-- What `g` reads of every phase. -/
def State.phasesBy (s : State) (g : Phase → α) (q : Nat) : α := g (s.ph q)

theorem only_phasesBy {l : List Part} (h : Only l s t) (hn : .phases ∉ l := by decide) : t.phasesBy g = s.phasesBy g :=
  funext fun q => congrArg g (only_ph h q hn)

theorem phasesBy_modPh (s : State) (p : Nat) {f : Phase → Phase} (hf : ∀ x, g (f x) = g x) : (s.modPh p f).phasesBy g = s.phasesBy g := by
  funext q
  rw [State.phasesBy, ph_modPh]
  split
  · exact hf _
  · rfl

theorem phasesBy_fold {β : Type} {f : State → β → State} (hf : ∀ s a, (f s a).phasesBy g = s.phasesBy g) (l : List β) (s : State) :
    (l.foldl f s).phasesBy g = s.phasesBy g :=
  foldl_keeps (P := fun t : State => t.phasesBy g = s.phasesBy g) (fun t a h => (hf t a).trans h) l rfl

theorem phasesBy_ite {c : Prop} [Decidable c] (h : t.phasesBy g = s.phasesBy g) (k : u.phasesBy g = s.phasesBy g) :
    (if c then t else u).phasesBy g = s.phasesBy g := by
  split
  · exact h
  · exact k

/-- A phase that has FAILED (R208, R214). -/
def Phase.failedNow (x : Phase) : Phase :=
  { x with pst := .failed, joining := false, joinNext := false, seeded := false, gen := { x.gen with hold := true } }

/-- `g` reads nothing that a check of the observers moves: the plan of the active set, the seeds, the marks of a failure. -/
structure ReadsNoFailure (g : Phase → α) : Prop where
  newOfs : ∀ x n, g { x with newOfs := n } = g x
  preload : ∀ x u, g { x with plC := u } = g x
  seeded : ∀ x b, g { x with seeded := b } = g x
  failed : ∀ x, g x.failedNow = g x

variable (hg : ReadsNoFailure g)
include hg

theorem activeChanged_phasesBy (r : Nat) (s : State) (f : Bool) : (activeChanged r s f).phasesBy g = s.phasesBy g := by
  have hdrip : ∀ v : State, (dripExit r v).phasesBy g = v.phasesBy g := fun v => by
    refine phasesBy_ite ?_ rfl
    unfold preloadDrip
    extract_lets w
    refine phasesBy_ite ?_ rfl
    exact phasesBy_fold (fun w q => phasesBy_modPh w q fun x => hg.preload x _) _ w
  unfold activeChanged
  extract_lets _ _ _ u v w x y
  have hu : u.phasesBy g = s.phasesBy g := phasesBy_fold (fun w q => phasesBy_modPh w _ fun x => hg.newOfs x _) _ s
  have hw : w.phasesBy g = v.phasesBy g := phasesBy_ite (only_phasesBy (redecimate_only v r)) rfl
  have hx : x.phasesBy g = w.phasesBy g := phasesBy_ite rfl (hdrip w)
  have hy : y.phasesBy g = x.phasesBy g := phasesBy_ite (only_phasesBy (perf_only x _ _ _)) rfl
  have hys : y.phasesBy g = s.phasesBy g := hy.trans (hx.trans (hw.trans hu))
  exact phasesBy_ite ((only_phasesBy (event_only y _ _)).trans hys) hys

theorem obsCheck1_phasesBy (p : Nat) (s : State) : (obsCheck1 p s).phasesBy g = s.phasesBy g := by
  unfold obsCheck1 obsCheckOf
  extract_lets lost t u
  have ht : t.phasesBy g = s.phasesBy g := phasesBy_fold (fun w q => phasesBy_modPh w q fun x => hg.seeded x _) [p] s
  have hu : u.phasesBy g = t.phasesBy g := phasesBy_fold
    (fun w q => (only_phasesBy (event_only (markFailed q w) _ _)).trans (phasesBy_modPh w q fun x => hg.failed x)) lost t
  exact (phasesBy_fold (fun w r => phasesBy_ite (activeChanged_phasesBy hg r w true) rfl) _ u).trans (hu.trans ht)

end

/-- A phase that is not on dead reckoning loses at most the seed of its estimate. -/
theorem obsCheck1_of_measuring (h : (s.ph p).est = false) : obsCheck1 p s = s.modPh p fun x => { x with seeded := x.seeded && obsCan s p } := by
  have hlost : ([p].filter fun q => (s.ph q).est && (s.ph q).pst == .active && !obsCan s q) = [] := by simp [h]
  unfold obsCheck1 obsCheckOf
  dsimp only
  rw [hlost]
  rfl

/-! ### The measurements and counters of a period (R87, R88, R139, R225, R228, R237) -/

/-- A phase without its measurements and the counts that its periods move. -/
def Phase.unmeasured (x : Phase) : Phase :=
  { x with oest := 0, ores := 0, obs := none, seeded := false, ncnt := 0, iavg := 0, isamp := 0, cntCur := 0, cntBal := 0, ocnt := 0
           cbcAct := false, cbcRun := 0, cbcQuiet := 0, cbcArmed := false }

/-- Of the phases only `p` moves, and of it measurements and counts alone; triggers and messages may join those that wait. -/
structure Measures (p : Nat) (s t : State) : Prop where
  parts : Only [.phases, .eng, .perf, .msgs] s t
  others : OtherPhases p s t
  halt : t.eng.haltReq = s.eng.haltReq
  rest : (t.ph p).unmeasured = (s.ph p).unmeasured

theorem Measures.refl : Measures p s s := ⟨only_refl, fun _ _ => rfl, rfl, rfl⟩

theorem Measures.trans (h : Measures p s t) (k : Measures p t u) : Measures p s u :=
  ⟨only_trans h.parts k.parts, fun q hq => (k.others q hq).trans (h.others q hq), k.halt.trans h.halt, k.rest.trans h.rest⟩

theorem Measures.ite {c : Prop} [Decidable c] (h : Measures p s t) (k : Measures p s u) : Measures p s (if c then t else u) := by
  split
  · exact h
  · exact k

theorem measures_modPh (s : State) (p : Nat) {f : Phase → Phase} (hf : ∀ x, (f x).unmeasured = x.unmeasured) : Measures p s (s.modPh p f) := by
  refine ⟨only_mono (modPh_only s p f), fun q hq => ph_modPh_ne _ _ _ _ hq, rfl, ?_⟩
  rw [ph_modPh]
  split
  · exact hf _
  · rfl

theorem Measures.ofOnly {l : List Part} (h : Only l s t) (hl : l ⊆ [.perf, .msgs] := by decide) : Measures p s t := by
  have h' : Only [.perf, .msgs] s t := only_mono h hl
  exact ⟨only_mono h', fun q _ => only_ph h' q, by rw [only_eng h'], by rw [only_ph h']⟩

theorem enqueue_measures (at_ c : Nat) (s : State) : Measures p s (enqueue at_ c s) := by
  refine ⟨only_mono (enqueue_only at_ c s), fun q _ => only_ph (enqueue_only at_ c s) q, ?_, by rw [only_ph (enqueue_only at_ c s)]⟩
  rw [enqueue_eq]
  split
  · rw [only_eng (event_only _ _ _), only_eng (perf_only _ _ _ _)]
    rfl
  · rfl

theorem triggerI_measures (at_ p : Nat) (s : State) : Measures p s (triggerI at_ p s) := by
  unfold triggerI
  split
  · exact .refl
  · extract_lets t
    have ht : Measures p s t := by
      unfold t
      split
      · exact .refl
      · split
        · exact measures_modPh s p fun _ => rfl
        · refine .trans ?_ (enqueue_measures _ _ _)
          exact measures_modPh s p fun _ => rfl
    split
    · exact ht
    · split
      · exact ht.trans (measures_modPh t p fun _ => rfl)
      · refine .trans (.trans ht ?_) (enqueue_measures _ _ _)
        exact measures_modPh t p fun _ => rfl

theorem obsRedo_measures (p : Nat) (s : State) : Measures p s (obsRedo p s) := by
  unfold obsRedo
  split
  · exact .ite .refl (measures_modPh s p fun _ => rfl)
  · exact .refl

/-- An observer step measures, once the observer has been checked. -/
theorem observerStep_checks (p : Nat) (s : State) : ∃ u, (u = s ∨ u = obsCheck1 p s) ∧ Measures p u (observerStep p s) := by
  unfold observerStep
  split
  · exact ⟨s, .inl rfl, .refl⟩
  · refine ⟨_, .inr rfl, .ite (measures_modPh _ p fun _ => rfl) ?_⟩
    exact .ite (measures_modPh _ p fun _ => rfl) (measures_modPh _ p fun _ => rfl)

theorem openTest_measures (p : Nat) (s : State) : Measures p s (openTest p s) := by
  unfold openTest
  split
  · exact .refl
  · exact measures_modPh s p fun _ => rfl

/-- A period is closed by measurements, among them at most one check of the observer, and then its delays are trimmed. -/
theorem endPeriod_closes (p : Nat) (nodeH nodeL : List (Nat × Rat)) (s : State) : ∃ u v w, Measures p s u ∧ (v = u ∨ v = obsCheck1 p u) ∧
    Measures p v w ∧ endPeriod p nodeH nodeL s = trimPeriod p nodeH nodeL w := by
  unfold endPeriod
  extract_lets a x avg b i c ended d
  have hb : Measures p s b := ((Measures.ofOnly (perf_only s _ _ _)).trans (obsRedo_measures p _)).trans (measures_modPh a p fun _ => rfl)
  have hd : Measures p c d := measures_modPh c p fun _ => rfl
  have hc : ∃ u v, Measures p b u ∧ (v = u ∨ v = obsCheck1 p u) ∧ Measures p v c := by
    unfold c
    split
    · have hi : Measures p b (b.modPh p fun x => { x with isamp := i }) := measures_modPh b p fun _ => rfl
      obtain ⟨v, hv, hm⟩ := observerStep_checks p (b.modPh p fun x => { x with isamp := i })
      exact ⟨_, v, hi, hv, hm.trans (triggerI_measures _ _ _)⟩
    · exact ⟨b, b, .refl, .inl rfl, .refl⟩
  obtain ⟨u, v, hu, hv, hm⟩ := hc
  exact ⟨u, v, _, hb.trans hu, hv, (hm.trans hd).trans (openTest_measures p d), rfl⟩

end
end Sys2Proof.Machine
end

section
/-! PROOFS: the end of a generator's period: the plan of the next one, which it keeps, and the trims of its delays (R114, R115, R119-R122). -/

-- The package as one text: its declarations are elaborated one after another, to hold few threads.
set_option Elab.async false

namespace Sys2Proof.Machine

section
variable {s t u : State} {p : Nat}

/-! ### What the next period is made of (R119-R122, R126, R219) -/

/-- What of a phase decides its next set, compare and HOLD. -/
structure Plan where
  pst : Pst
  joining : Bool
  dripDuty : Rat
  row : GenRow
  act : GenSet
  eset : Option GenSet
  ldpend : Bool

def Phase.plan (x : Phase) : Plan := ⟨x.pst, x.joining, x.dripDuty, x.gen.row, x.gen.act, x.gen.eset, x.gen.ldpend⟩

/-- All that the next period of phase `p` is made of is the same. -/
structure SamePlan (p : Nat) (s t : State) : Prop where
  parts : Only [.phases, .eng, .perf, .msgs] s t
  halt : t.eng.haltReq = s.eng.haltReq
  plan : (t.ph p).plan = (s.ph p).plan

theorem SamePlan.trans (h : SamePlan p s t) (k : SamePlan p t u) : SamePlan p s u :=
  ⟨only_trans h.parts k.parts, k.halt.trans h.halt, k.plan.trans h.plan⟩

theorem Measures.samePlan (h : Measures p s t) : SamePlan p s t := ⟨h.parts, h.halt, (congrArg Phase.plan h.rest :)⟩

theorem Measures.gen (h : Measures p s t) : (t.ph p).gen = (s.ph p).gen := (congrArg (fun x : Phase => x.gen) h.rest :)

section
variable (h : SamePlan p s t)
include h

theorem SamePlan.regs : t.reg = s.reg := funext fun k => only_reg h.parts k

theorem SamePlan.pr (q off : Nat) : t.pr q off = s.pr q off := only_reg h.parts _

theorem SamePlan.rail (r : Nat) : t.rail r = s.rail r := only_rail h.parts r

theorem SamePlan.railOf (q : Nat) : railOf t q = railOf s q := railOf_of_regs h.regs q

theorem SamePlan.gst : gst t p = gst s p :=
  SameRow.gst ⟨h.regs, h.halt, only_dev h.parts, fun r => by rw [h.rail], only_latch h.parts, congrArg Plan.row h.plan⟩

theorem SamePlan.runsNow : runsNow t p = runsNow s p := by
  have hgoing : (t.ph p).gen.going = (s.ph p).gen.going := congrArg (fun x : Plan => x.row.going) h.plan
  have hhold : (t.ph p).gen.hold = (s.ph p).gen.hold := congrArg (fun x : Plan => x.row.hold) h.plan
  unfold Machine.runsNow
  rw [hgoing, hhold, h.gst]

theorem SamePlan.nextSet : nextSet t p = nextSet s p := by
  have hact : (t.ph p).gen.act = (s.ph p).gen.act := congrArg Plan.act h.plan
  have heset : (t.ph p).gen.eset = (s.ph p).gen.eset := congrArg Plan.eset h.plan
  have hldpend : (t.ph p).gen.ldpend = (s.ph p).gen.ldpend := congrArg Plan.ldpend h.plan
  unfold Machine.nextSet
  dsimp only
  rw [heset, hldpend, hact, shadowSet_of_regs h.regs]

theorem SamePlan.nextCmp : nextCmp t p = nextCmp s p := by
  have hpst : (t.ph p).pst = (s.ph p).pst := congrArg Plan.pst h.plan
  have hduty : (t.ph p).dripDuty = (s.ph p).dripDuty := congrArg Plan.dripDuty h.plan
  have hdrip : dripPh t p = dripPh s p := by
    unfold dripPh
    simp only [h.railOf, h.rail, hpst]
  have hboost : boostPh t p = boostPh s p := by
    unfold boostPh topo State.rr
    rw [h.railOf, h.regs]
  unfold Machine.nextCmp
  dsimp only
  rw [hdrip, hboost, hduty, h.nextSet]

theorem SamePlan.nextHold : nextHold t p = nextHold s p := by
  have hpst : (t.ph p).pst = (s.ph p).pst := congrArg Plan.pst h.plan
  have hjoin : (t.ph p).joining = (s.ph p).joining := congrArg Plan.joining h.plan
  have heset : (t.ph p).gen.eset = (s.ph p).gen.eset := congrArg Plan.eset h.plan
  have hrail : t.rail = s.rail := funext h.rail
  unfold Machine.nextHold holdFor refCode rgOf
  dsimp only
  rw [h.railOf, hrail, hpst, hjoin, heset]

theorem SamePlan.swsCode : swsCode t p = swsCode s p := by
  unfold Machine.swsCode
  simp only [h.railOf, h.rail, h.pr]

theorem SamePlan.bothWhole (hg : (t.ph p).gen = (s.ph p).gen) : bothWhole t p = bothWhole s p := by
  have hout : outputs t p = outputs s p := by
    unfold outputs
    rw [hg, h.nextCmp, h.nextHold, h.pr]
  unfold Machine.bothWhole
  rw [hout, hg]

end

/-! ### The trims of the delays (R114, R115) -/

/-- An edge of a generator: its delay, the hard flag, the misses, whether it is adapted, and the bounds in force. -/
structure Edge where
  dt : Nat
  hard : Bool
  miss : Nat
  adapted : Bool
  lo : Nat
  up : Nat

def Gen.edge (g : Gen) (hi : Bool) : Edge :=
  if hi then ⟨g.dth, g.hardH, g.missH, g.adH, fld g.dtMin 29 16, fld g.dtMax 29 16⟩
  else ⟨g.dtl, g.hardL, g.missL, g.adL, fld g.dtMin 13 0, fld g.dtMax 13 0⟩

/-- An edge at the end of a period: delay, hard flag, misses, and whether 0x39 is raised. -/
def trimOf (s : State) (p : Nat) (hi : Bool) (node : List (Nat × Rat)) : Nat × Bool × Nat × Bool :=
  let e := (s.ph p).gen.edge hi
  let c := (s.ph p).gen.dtCfg
  if bothWhole s p && runsNow s p && e.adapted then
    trimEdge e.dt e.hard e.miss (crossing (swsCode s p) hi node) (fld c 13 0) (fld c 21 16) (fld c 27 24) e.lo e.up
  else (e.dt, e.hard, e.miss, false)

/-- A generator with both edges trimmed. -/
def Gen.trimmedBy (h l : Nat × Bool × Nat × Bool) (g : Gen) : Gen :=
  { g with dth := h.1, hardH := h.2.1, missH := h.2.2.1, dtl := l.1, hardL := l.2.1, missL := l.2.2.1 }

/-- 0x39 is raised at a phase where an edge asks for it. -/
def raiseHard (p : Nat) (b : Bool) (s : State) : State := if b then event Src.PH_DT_HARD p s else s

theorem raiseHard_only (p : Nat) (b : Bool) (s : State) : Only [.msgs] s (raiseHard p b s) := only_ite (event_only _ _ _) only_refl

theorem raiseHard_stays (p : Nat) (b : Bool) (s : State) : Stays s (raiseHard p b s) := .ite (event_stays _ _ _) .refl

/-- A change of a generator to what it is changes nothing. -/
theorem modGen_self {f : Gen → Gen} (h : f (s.ph p).gen = (s.ph p).gen) : s.modGen p f = s := by
  have e : (s.modGen p f).phases = s.phases := phases_ext _ _ fun q _ => by
    rw [ph_modGen]
    split
    · next hq => rw [← hq.1, h]
    · rfl
  show { s with phases := (s.modGen p f).phases } = s
  rw [e]

theorem trimOf_untrimmed (h : (bothWhole s p && runsNow s p) = false) (hi : Bool) (node : List (Nat × Rat)) : trimOf s p hi node =
    (((s.ph p).gen.edge hi).dt, ((s.ph p).gen.edge hi).hard, ((s.ph p).gen.edge hi).miss, false) := by
  unfold trimOf
  rw [h]
  rfl

theorem raiseHard_waits {b : Bool} (hb : b = true) (hc : s.dev.clkStop = false) : (raiseHard p b s).Waits 0x39 0 p := by
  rw [raiseHard, if_pos hb]
  exact event_waits _ _ hc

theorem trimPeriod_eq (p : Nat) (nodeH nodeL : List (Nat × Rat)) (s : State) : trimPeriod p nodeH nodeL s =
    raiseHard p (trimOf s p false nodeL).2.2.2 (raiseHard p (trimOf s p true nodeH).2.2.2
      (s.modGen p (Gen.trimmedBy (trimOf s p true nodeH) (trimOf s p false nodeL)))) := by
  cases hb : bothWhole s p && runsNow s p
  · rw [trimOf_untrimmed hb, trimOf_untrimmed hb]
    refine (if_pos (by simp [hb])).trans (modGen_self ?_).symm
    rfl
  · unfold trimPeriod trimOf
    dsimp only
    rw [hb, if_neg (by decide)]
    simp only [Bool.true_and]
    rfl

theorem trimPeriod_only (p : Nat) (nodeH nodeL : List (Nat × Rat)) (s : State) : Only [.phases, .msgs] s (trimPeriod p nodeH nodeL s) := by
  rw [trimPeriod_eq]
  exact only_then (l := [.phases]) (m := [.msgs]) (modGen_only s p _) (only_trans (raiseHard_only p _ _) (raiseHard_only p _ _))

theorem trimPeriod_ph (p q : Nat) (nodeH nodeL : List (Nat × Rat)) (s : State) :
    (trimPeriod p nodeH nodeL s).ph q = (s.modGen p (Gen.trimmedBy (trimOf s p true nodeH) (trimOf s p false nodeL))).ph q := by
  rw [trimPeriod_eq, only_ph (raiseHard_only _ _ _), only_ph (raiseHard_only _ _ _)]

/-- An edge that has missed its target often enough is reported (R115). -/
theorem trimPeriod_waits {nodeH nodeL : List (Nat × Rat)} (hc : s.dev.clkStop = false) (hi : Bool)
    (h : (trimOf s p hi (if hi then nodeH else nodeL)).2.2.2 = true) : (trimPeriod p nodeH nodeL s).Waits 0x39 0 p := by
  rw [trimPeriod_eq]
  cases hi
  · exact raiseHard_waits h ((congrArg Dev.clkStop (only_dev (raiseHard_only p _ _))).trans hc)
  · exact (raiseHard_stays p _ _).waits _ _ _ (raiseHard_waits h hc)

theorem trimOf_congr (h : SamePlan p s t) (hg : (t.ph p).gen = (s.ph p).gen) (hi : Bool) (node : List (Nat × Rat)) :
    trimOf t p hi node = trimOf s p hi node := by
  unfold trimOf
  rw [hg, h.bothWhole hg, h.runsNow, h.swsCode]

/-! ### The period that ends (R88, R115, R228, R237) -/

/-- What the end of a period makes of a phase that is not on dead reckoning. -/
structure Ends (p : Nat) (nodeH nodeL : List (Nat × Rat)) (s t : State) : Prop where
  plan : SamePlan p s t
  others : OtherPhases p s t
  est : (t.ph p).est = (s.ph p).est
  gen : (t.ph p).gen = (s.ph p).gen.trimmedBy (trimOf s p true nodeH) (trimOf s p false nodeL)
  waits : s.dev.clkStop = false → ∀ hi, (trimOf s p hi (if hi then nodeH else nodeL)).2.2.2 = true → t.Waits 0x39 0 p

theorem endPeriod_ends (hp : p < 48) (he : (s.ph p).est = false) (nodeH nodeL : List (Nat × Rat)) :
    Ends p nodeH nodeL s (endPeriod p nodeH nodeL s) := by
  obtain ⟨u, v, w, hu, hv, hw, hend⟩ := endPeriod_closes p nodeH nodeL s
  have hsw : Measures p s w := by
    refine (hu.trans ?_).trans hw
    rcases hv with rfl | rfl
    · exact .refl
    · rw [obsCheck1_of_measuring ((congrArg Phase.est hu.rest :).trans he)]
      exact measures_modPh u p fun _ => rfl
  have hph : (trimPeriod p nodeH nodeL w).ph p =
      { w.ph p with gen := (s.ph p).gen.trimmedBy (trimOf s p true nodeH) (trimOf s p false nodeL) } := by
    rw [trimPeriod_ph, ph_modGen, if_pos ⟨rfl, hp⟩, trimOf_congr hsw.samePlan hsw.gen, trimOf_congr hsw.samePlan hsw.gen, hsw.gen]
  have hpar := trimPeriod_only p nodeH nodeL w
  rw [hend]
  refine ⟨hsw.samePlan.trans ⟨only_mono hpar, by rw [only_eng hpar], ?_⟩, fun q hq => ?_, ?_, by rw [hph], fun hc hi h => ?_⟩
  · rw [hph, Phase.plan, Phase.plan, hsw.gen]
    rfl
  · rw [trimPeriod_ph, State.modGen, ph_modPh_ne _ _ _ _ hq, hsw.others q hq]
  · rw [hph]
    exact (congrArg Phase.est hsw.rest :)
  · refine trimPeriod_waits ((congrArg Dev.clkStop (only_dev hsw.parts)).trans hc) hi ?_
    rw [trimOf_congr hsw.samePlan hsw.gen]
    exact h

/-- What of a generator says where its period lies and which sets wait. -/
structure Timing where
  count : Nat
  org : Nat
  ref : Option Nat
  act : GenSet
  curPer : Nat
  eset : Option GenSet
  ldpend : Bool
  going : Bool

def Phase.timing (x : Phase) : Timing :=
  ⟨x.gen.count, x.gen.org, x.gen.ref, x.gen.act, x.gen.curPer, x.gen.eset, x.gen.ldpend, x.gen.going⟩

theorem timing_readsNoFailure : ReadsNoFailure Phase.timing := ⟨fun _ _ => rfl, fun _ _ => rfl, fun _ _ => rfl, fun _ => rfl⟩

theorem obsCheck1_timing (p q : Nat) (s : State) : ((obsCheck1 p s).ph q).timing = (s.ph q).timing :=
  congrFun (obsCheck1_phasesBy timing_readsNoFailure p s) q

theorem Measures.timing (h : Measures p s t) : (t.ph p).timing = (s.ph p).timing := (congrArg Phase.timing h.rest :)

/-- The end of a period leaves where it lay, and the sets that wait; on dead reckoning too. -/
theorem endPeriod_timing (p : Nat) (nodeH nodeL : List (Nat × Rat)) (s : State) : ((endPeriod p nodeH nodeL s).ph p).timing = (s.ph p).timing := by
  obtain ⟨u, v, w, hu, hv, hw, hend⟩ := endPeriod_closes p nodeH nodeL s
  have huv : (v.ph p).timing = (u.ph p).timing := by
    rcases hv with rfl | rfl
    · rfl
    · exact obsCheck1_timing p p u
  have htrim : ((trimPeriod p nodeH nodeL w).ph p).timing = (w.ph p).timing := by
    rw [trimPeriod_ph, ph_modGen]
    split <;> rfl
  rw [hend, htrim, hw.timing, huv, hu.timing]

theorem endPeriod_only (p : Nat) (nodeH nodeL : List (Nat × Rat)) (s : State) :
    Only [.rails, .phases, .eng, .perf, .msgs] s (endPeriod p nodeH nodeL s) := by
  obtain ⟨u, v, w, hu, hv, hw, hend⟩ := endPeriod_closes p nodeH nodeL s
  have huv : Only [.rails, .phases, .perf, .msgs] u v := by
    rcases hv with rfl | rfl
    · exact only_refl
    · exact obsCheck1_only u p
  rw [hend]
  exact only_then (l := [.rails, .phases, .eng, .perf, .msgs]) (m := [.phases, .eng, .perf, .msgs])
    (only_then (l := [.phases, .eng, .perf, .msgs]) hu.parts huv)
    (only_then (l := [.phases, .eng, .perf, .msgs]) hw.parts (trimPeriod_only p nodeH nodeL w))

end
end Sys2Proof.Machine
end

section
/-! PROOFS: a period that begins: its place, its sets, its outputs; the reference boundary of a rail; the boundary that completes a handover
(R107, R110-R116, R119-R122, R214, R230, R312, R321). -/

-- The package as one text: its declarations are elaborated one after another, to hold few threads.
set_option Elab.async false

namespace Sys2Proof.Machine

section
variable {s t u : State} {p : Nat}

/-! ### A period begins (R107, R119-R125) -/

/-- The length of the period that begins: the set's own, and behind another period the change of offset and a standby's alignment
(R120, R312). -/
def periodLen (first : Bool) (s : State) (p : Nat) : Nat :=
  let set := nextSet s p
  let lim : Int := (((set.per + 2047) / 2048 : Nat) : Int)
  ((set.per : Int) + (if first then 0 else wrapHalf set.per ((set.ofs : Int) - (s.ph p).gen.act.ofs)) +
    (if first then 0 else clampI (-lim) lim (s.twin.phAdj.getD p 0))).toNat

/-- The compare of a period, blended where its length is not the set's (R120). -/
def blendedCmp (c n per : Nat) : Nat :=
  if c = 0 ∨ c = 0x3FFFFF then c else if n = per then c else (roundAway (((c * n : Nat) : Rat) / (per : Rat))).toNat

/-- The two outputs of the period that begins (R110-R113). -/
def wave (first : Bool) (s : State) (p : Nat) (y : Gen) : Wave :=
  if nextHold s p then ⟨.low, .low, false, 0, 0⟩ else
  waveform (s.ph p).gen (!first && runsNow s p) y.curCmp y.curPer y.dth y.dtl (fld (s.pr p Reg.PH_CTL) 31 24) y.fine

/-- A phase `y` as it begins a period at `org` in `s`, behind another period or as the first. -/
structure Begun (first : Bool) (org p : Nat) (s : State) (y : Phase) : Prop where
  est : y.est = (s.ph p).est
  timing : y.timing =
    ⟨min (nowCnt s - org) (periodLen first s p - 1), org, none, nextSet s p, periodLen first s p, none, false, true⟩
  cmp : y.gen.curCmp = blendedCmp (nextCmp s p) (periodLen first s p) (nextSet s p).per
  fine : y.gen.fine = ((s.ph p).gen.fine || (s.ph p).gen.dlok)
  hold : y.gen.hold = nextHold s p
  dth : y.gen.dth = edgeDelay (s.ph p).gen.adH (bit (s.pr p Reg.PH_DTCFG) 31) (s.ph p).gen.dth (nextSet s p).dth
    (fld (s.pr p Reg.PH_DTMIN) 29 16) (fld (s.pr p Reg.PH_DTMAX) 29 16)
  dtl : y.gen.dtl = edgeDelay (s.ph p).gen.adL (bit (s.pr p Reg.PH_DTCFG) 30) (s.ph p).gen.dtl (nextSet s p).dtl
    (fld (s.pr p Reg.PH_DTMIN) 13 0) (fld (s.pr p Reg.PH_DTMAX) 13 0)
  now : y.gen.dthNow = y.gen.dth ∧ y.gen.dtlNow = y.gen.dtl
  hard : y.gen.hardH = ((s.ph p).gen.hardH && bit (s.pr p Reg.PH_DTCFG) 31) ∧ y.gen.hardL = ((s.ph p).gen.hardL && bit (s.pr p Reg.PH_DTCFG) 30)
  miss : y.gen.missH = (if bit (s.pr p Reg.PH_DTCFG) 31 then (s.ph p).gen.missH else 0) ∧
    y.gen.missL = if bit (s.pr p Reg.PH_DTCFG) 30 then (s.ph p).gen.missL else 0
  low : y.gen.lowAt = y.gen.curCmp ∧ y.gen.lowCut = false
  outs : y.gen.hpin = (wave first s p y.gen).h ∧ y.gen.lpin = (wave first s p y.gen).l ∧ y.gen.endHigh = (wave first s p y.gen).endHigh

/-- What a period that begins means to its rail. -/
def periodToRail (changed skips : Bool) (p : Nat) (s : State) : State :=
  match railOf s p with
  | none => s
  | some r =>
    let s := if changed then s.modRail r fun x => { x with notchDue := true } else s
    let s := if changed && (s.rail r).st.running then redecimate r s else s
    if skips then perf 0x26 r 1 s else s

/-- The state with phase `p` in its new period, `n` left of a standby's alignment. -/
def beginPeriod (p : Nat) (f : Phase → Phase) (n : Int) (s : State) : State :=
  { s.modPh p f with twin := { s.twin with phAdj := s.twin.phAdj.set p n } }

theorem startPeriod_begins (first : Bool) (org p : Nat) (s : State) : ∃ f n changed skips, Begun first org p s (f (s.ph p)) ∧
    startPeriod first org p s = periodToRail changed skips p (obsCheck1 p (beginPeriod p f n s)) := by
  refine ⟨_, _, _, _, ?_, rfl⟩
  exact ⟨rfl, rfl, rfl, rfl, rfl, rfl, rfl, ⟨rfl, rfl⟩, ⟨rfl, rfl⟩, ⟨rfl, rfl⟩, ⟨rfl, rfl⟩, ⟨rfl, rfl, rfl⟩⟩

theorem st_readsNoCounts : ReadsNoCounts Rail.st := ⟨fun _ _ _ _ => rfl, fun _ _ _ _ => rfl, fun _ _ => rfl, fun _ _ => rfl⟩

theorem periodToRail_only (changed skips : Bool) (p : Nat) (s : State) : Only [.rails, .perf] s (periodToRail changed skips p s) := by
  unfold periodToRail
  split
  · exact only_refl
  · extract_lets u v
    have hu : Only [.rails] s u := only_ite (modRail_only s _ _) only_refl
    have hv : Only [.rails] u v := only_ite (redecimate_only u _) only_refl
    exact only_then (l := [.rails]) (m := [.perf]) (only_trans hu hv) (only_ite (perf_only v _ _ _) only_refl)

/-- No rail changes its state. -/
theorem periodToRail_st (changed skips : Bool) (p : Nat) (s : State) : (periodToRail changed skips p s).railsBy Rail.st = s.railsBy Rail.st := by
  unfold periodToRail
  split
  · rfl
  · extract_lets u v
    have hu : u.railsBy Rail.st = s.railsBy Rail.st := railsBy_ite (railsBy_modRail s _ fun _ => rfl) rfl
    have hv : v.railsBy Rail.st = u.railsBy Rail.st := railsBy_ite (redecimate_railsBy st_readsNoCounts _ u) rfl
    exact (railsBy_ite (only_railsBy (perf_only v _ _ _)) rfl).trans (hv.trans hu)

theorem beginPeriod_only (p : Nat) (f : Phase → Phase) (n : Int) (s : State) : Only [.phases, .twin] s (beginPeriod p f n s) :=
  only_then (l := [.phases]) (m := [.twin]) (modPh_only s p f) (upd_twin _ _)

theorem beginPeriod_ph (p q : Nat) (f : Phase → Phase) (n : Int) (s : State) : (beginPeriod p f n s).ph q = (s.modPh p f).ph q := rfl

theorem startPeriod_only (first : Bool) (org p : Nat) (s : State) :
    Only [.rails, .phases, .twin, .perf, .msgs] s (startPeriod first org p s) := by
  obtain ⟨f, n, changed, skips, -, he⟩ := startPeriod_begins first org p s
  rw [he]
  exact only_then (l := [.rails, .phases, .twin, .perf, .msgs])
    (only_then (l := [.phases, .twin]) (beginPeriod_only p f n s) (obsCheck1_only _ p)) (periodToRail_only _ _ p _)

theorem startPeriod_leaving (first : Bool) (org p : Nat) (s : State) : (startPeriod first org p s).twin.leaving = s.twin.leaving := by
  obtain ⟨f, n, changed, skips, -, he⟩ := startPeriod_begins first org p s
  rw [he, only_twin (periodToRail_only _ _ p _), only_twin (obsCheck1_only _ p)]
  rfl

/-- Where a period that begins lies, and which sets wait; on dead reckoning too. -/
theorem startPeriod_timing (hp : p < 48) (first : Bool) (org : Nat) (s : State) : ((startPeriod first org p s).ph p).timing =
    ⟨min (nowCnt s - org) (periodLen first s p - 1), org, none, nextSet s p, periodLen first s p, none, false, true⟩ := by
  obtain ⟨f, n, changed, skips, hb, he⟩ := startPeriod_begins first org p s
  rw [he, only_ph (periodToRail_only _ _ p _), obsCheck1_timing, beginPeriod_ph, ph_modPh_same _ _ _ hp, hb.timing]

/-- A period of a phase that is not on dead reckoning has begun. -/
structure Starts (first : Bool) (org p : Nat) (s t : State) : Prop where
  parts : Only [.rails, .phases, .twin, .perf] s t
  others : OtherPhases p s t
  phase : Begun first org p s (t.ph p)
  rails : ∀ r, (t.rail r).st = (s.rail r).st

theorem startPeriod_starts (hp : p < 48) (hest : (s.ph p).est = false) (first : Bool) (org : Nat) :
    Starts first org p s (startPeriod first org p s) := by
  obtain ⟨f, n, changed, skips, hb, he⟩ := startPeriod_begins first org p s
  have hph : (beginPeriod p f n s).ph p = f (s.ph p) := ph_modPh_same _ _ _ hp
  have hcheck := obsCheck1_of_measuring (s := beginPeriod p f n s) (p := p) (by rw [hph, hb.est, hest])
  have hpar := periodToRail_only changed skips p (obsCheck1 p (beginPeriod p f n s))
  have hst := periodToRail_st changed skips p (obsCheck1 p (beginPeriod p f n s))
  have hq (q : Nat) : (startPeriod first org p s).ph q = (obsCheck1 p (beginPeriod p f n s)).ph q := by rw [he, only_ph hpar]
  rw [hcheck] at hq hpar hst
  refine ⟨?_, fun q hne => ?_, ?_, fun r => ?_⟩
  · rw [he, hcheck]
    exact only_then (l := [.phases, .twin]) (only_then (m := [.phases]) (beginPeriod_only p f n s) (modPh_only _ p _)) hpar
  · rw [hq, ph_modPh_ne _ _ _ _ hne, beginPeriod_ph, ph_modPh_ne _ _ _ _ hne]
  · rw [hq, ph_modPh_same _ _ _ hp, hph]
    exact ⟨hb.est, hb.timing, hb.cmp, hb.fine, hb.hold, hb.dth, hb.dtl, hb.now, hb.hard, hb.miss, hb.low, hb.outs⟩
  · rw [he, hcheck]
    exact congrFun hst r

/-! ### The reference boundary of a rail (R89, R119, R214, R230) -/

/-- What a boundary leaves of a phase: everything but a reference instant it was waiting for, which is that boundary. -/
structure Awaits (org : Nat) (x y : Phase) : Prop where
  phase : y = { x with gen := { x.gen with ref := y.gen.ref } }
  ref : y.gen.ref = x.gen.ref ∨ y.gen.ref = some org
  going : x.gen.going = true → y = x

theorem Awaits.refl {org : Nat} (x : Phase) : Awaits org x x := ⟨rfl, .inl rfl, fun _ => rfl⟩

theorem refAll_awaits {f : Nat → Bool} (hf : ∀ q, f q = true → (s.ph q).gen.going = false) (org q : Nat) :
    Awaits org (s.ph q) ((refAll f org s).ph q) := by
  by_cases hq : q < 48
  · rw [ph_refAll _ _ _ hq]
    split
    · next h => exact ⟨rfl, .inr rfl, fun hg => absurd (hf q h) (by simp [hg])⟩
    · exact .refl _
  · rw [ph_beyond _ _ (by omega), ph_beyond _ _ (by omega)]
    exact .refl _

/-- The boundary of phase `p` at `org`: the rail's lead phase and its grid of measurements may move, phases that wait take their reference. -/
structure Bounds (org : Nat) (s t : State) : Prop where
  parts : Only [.rails, .phases] s t
  rails : ∀ r, (t.rail r).st = (s.rail r).st
  phases : ∀ q, Awaits org (s.ph q) (t.ph q)

theorem railBoundary_bounds (org p : Nat) (s : State) : Bounds org s (railBoundary org p s) := by
  unfold railBoundary
  split
  · exact ⟨only_refl, fun _ => rfl, fun _ => .refl _⟩
  · next r _ =>
    extract_lets beat q old stands takes u v
    have hu : Only [.rails] s u := only_ite (modRail_only s r _) only_refl
    have hv : Only [.rails] u v := only_ite (modRail_only u r _) only_refl
    have hust : u.railsBy Rail.st = s.railsBy Rail.st := railsBy_ite (railsBy_modRail s r fun _ => rfl) rfl
    have hvst : v.railsBy Rail.st = u.railsBy Rail.st := railsBy_ite (railsBy_modRail u r fun _ => rfl) rfl
    have hsv : Only [.rails] s v := only_trans hu hv
    have hwait : ∀ a, q.contains a = true → (v.ph a).gen.going = false := fun a ha => by
      have hw : waitsFor s beat p a = true := (List.mem_filter.1 (List.contains_iff_mem.1 ha)).2
      unfold waitsFor at hw
      rw [only_ph hsv]
      simp only [Bool.and_eq_true, Bool.not_eq_true'] at hw
      exact hw.1.1.1
    have hr := refAll_only v q.contains org
    refine ⟨only_then hsv hr, fun a => ?_, fun a => ?_⟩
    · rw [only_rail hr]
      exact congrFun (hvst.trans hust) a
    · have h := refAll_awaits hwait org a
      rwa [only_ph hsv] at h

/-! ### The boundary that completes a handover (R321) -/

/-- What the completion of a handover may move. -/
abbrev syncParts : List Part := [.dev, .twin, .phases, .rails, .doms, .cup, .capt, .msgs, .sb]

theorem enterSyncing_only (b : Bool) (s : State) : Only syncParts s (enterSyncing b s) := by
  have h := beforeSyncing_only s
  refine only_then (l := [.rails, .doms, .cup, .capt, .msgs, .sb]) (m := [.dev, .twin, .phases]) h ?_
  exact only_then (l := [.dev]) (m := [.twin, .phases]) (upd_dev (beforeSyncing s) (enterSyncing b s).dev)
    (only_then (l := [.twin]) (m := [.phases]) (upd_twin _ (enterSyncing b s).twin) (upd_phases _ (enterSyncing b s).phases))

/-- Every generator drives from its next boundary (R321). -/
def driveAll (s : State) : State := { s with phases := s.phases.map fun x => { x with gen := { x.gen with driving := true } } }

theorem driveAll_timing (s : State) (q : Nat) : ((driveAll s).ph q).timing = (s.ph q).timing := by
  by_cases hq : q < 48
  · have h : (driveAll s).ph q = { s.ph q with gen := { (s.ph q).gen with driving := true } } := by simp [driveAll, State.ph, hq]
    rw [h]
    rfl
  · rw [ph_beyond _ _ (by omega), ph_beyond _ _ (by omega)]

theorem enterSyncing_timing (b : Bool) (s : State) (q : Nat) : ((enterSyncing b s).ph q).timing = (s.ph q).timing := by
  have h := driveAll_timing (beforeSyncing s) q
  rw [only_ph (beforeSyncing_only s)] at h
  exact h

theorem handoverDone_of_staying (h : s.twin.leaving = false) : handoverDone s = s := if_neg (by simp [h])

theorem handoverDone_only (s : State) : Only syncParts s (handoverDone s) := only_ite (enterSyncing_only false s) only_refl

theorem handoverDone_timing (s : State) (q : Nat) : ((handoverDone s).ph q).timing = (s.ph q).timing := by
  unfold handoverDone
  split
  · exact enterSyncing_timing false s q
  · rfl

theorem handoverDone_st (s : State) (r : Nat) : ((handoverDone s).rail r).st = (s.rail r).st := by
  unfold handoverDone
  split
  · exact enterSyncing_st s false r
  · rfl

end
end Sys2Proof.Machine
end

section
/-! PROOFS: PERIOD_BOUNDARY and GENERATOR_START; the statement about both (R27, R107, R119-R122, R125, R230, R312). -/

-- The package as one text: its declarations are elaborated one after another, to hold few threads.
set_option Elab.async false

namespace Sys2Proof.Machine

section
variable {s t u : State} {p : Nat}

/-! ### A period that begins, in its rail -/

/-- A period of phase `p` begins at `org`, and its boundary is the rail's where that one waits for it. -/
def periodFrom (first : Bool) (org p : Nat) (s : State) : State := railBoundary org p (startPeriod first org p s)

theorem periodFrom_only (first : Bool) (org p : Nat) (s : State) : Only [.rails, .phases, .twin, .perf, .msgs] s (periodFrom first org p s) :=
  only_then (l := [.rails, .phases, .twin, .perf, .msgs]) (startPeriod_only first org p s) (railBoundary_bounds org p _).parts

theorem periodFrom_leaving (first : Bool) (org p : Nat) (s : State) : (periodFrom first org p s).twin.leaving = s.twin.leaving := by
  rw [periodFrom, only_twin (railBoundary_bounds org p _).parts, startPeriod_leaving]

/-- Its own boundary gives a phase no reference: it goes. -/
theorem periodFrom_ph (hp : p < 48) (first : Bool) (org : Nat) (s : State) : (periodFrom first org p s).ph p = (startPeriod first org p s).ph p :=
  ((railBoundary_bounds org p _).phases p).going (congrArg Timing.going (startPeriod_timing hp first org s))

theorem periodFrom_timing (hp : p < 48) (first : Bool) (org : Nat) (s : State) : ((periodFrom first org p s).ph p).timing =
    ⟨min (nowCnt s - org) (periodLen first s p - 1), org, none, nextSet s p, periodLen first s p, none, false, true⟩ := by
  rw [periodFrom_ph hp, startPeriod_timing hp]

/-- What begins of a phase that is not on dead reckoning moves no other phase but those that wait for its boundary. -/
theorem periodFrom_others (hp : p < 48) (he : (s.ph p).est = false) (first : Bool) (org : Nat) :
    (∀ r, ((periodFrom first org p s).rail r).st = (s.rail r).st) ∧ ∀ q, q ≠ p → Awaits org (s.ph q) ((periodFrom first org p s).ph q) := by
  have hs := startPeriod_starts hp he first org
  have hb := railBoundary_bounds org p (startPeriod first org p s)
  exact ⟨fun r => (hb.rails r).trans (hs.rails r), fun q hq => hs.others q hq ▸ hb.phases q⟩

/-- The set that transfers, from what the timing of its generator names and from the registers. -/
theorem nextSet_of_timing (hr : t.reg = s.reg) (h : (t.ph p).timing = (s.ph p).timing) : nextSet t p = nextSet s p := by
  have hact : (t.ph p).gen.act = (s.ph p).gen.act := congrArg Timing.act h
  have heset : (t.ph p).gen.eset = (s.ph p).gen.eset := congrArg Timing.eset h
  have hldpend : (t.ph p).gen.ldpend = (s.ph p).gen.ldpend := congrArg Timing.ldpend h
  unfold nextSet
  dsimp only
  rw [heset, hldpend, hact, shadowSet_of_regs hr]

/-! ### PERIOD_BOUNDARY (R107) -/

/-- The period of phase `p` ends and the next one begins; that may complete a handover. -/
def nextPeriod (p : Nat) (nodeH nodeL : List (Nat × Rat)) (s : State) : State :=
  handoverDone (periodFrom false (s.ph p).gen.periodEnd p (endPeriod p nodeH nodeL s))

theorem exec_periodBoundary {p : Fin 48} (hs : s.Runs) (hc : counts s p = true) (hg : (s.ph p).gen.going = true)
    (ht : (s.ph p).gen.org + (s.ph p).gen.curPer < (s.dev.frame + 1) * 400) (nodeH nodeL : List (Nat × Rat)) :
    exec (.periodBoundary p nodeH nodeL) s = .next (nextPeriod p nodeH nodeL (s.begin none (some (s.ph p).gen.periodEnd))) := by
  refine (next_clocked_of_runs hs).trans (congrArg Host.Outcome.next (if_neg ?_))
  have h1 : counts (s.begin none (some (s.ph p).gen.periodEnd)) p = true := hc
  have h2 : decide (nextCnt s ≤ (s.ph p).gen.periodEnd) = false := decide_eq_false (Nat.not_le.2 ht)
  simp only [h1, ph_begin_of, hg, show nextCnt (s.begin none (some (s.ph p).gen.periodEnd)) = nextCnt s from rfl, h2]
  simpa using hs.1

theorem nextPeriod_only (p : Nat) (nodeH nodeL : List (Nat × Rat)) (s : State) : Only (.eng :: .perf :: syncParts) s (nextPeriod p nodeH nodeL s) :=
  only_then (l := .eng :: .perf :: syncParts) (only_then (endPeriod_only p nodeH nodeL s) (periodFrom_only _ _ _ _)) (handoverDone_only _)

theorem nextPeriod_timing (hp : p < 48) (nodeH nodeL : List (Nat × Rat)) (s : State) : ((nextPeriod p nodeH nodeL s).ph p).timing =
    ⟨min (nowCnt s - (s.ph p).gen.periodEnd) (periodLen false s p - 1), (s.ph p).gen.periodEnd, none, nextSet s p, periodLen false s p,
      none, false, true⟩ := by
  have he := endPeriod_only p nodeH nodeL s
  have htim := endPeriod_timing p nodeH nodeL s
  have hset : nextSet (endPeriod p nodeH nodeL s) p = nextSet s p := nextSet_of_timing (funext fun k => only_reg he k) htim
  have hact : ((endPeriod p nodeH nodeL s).ph p).gen.act = (s.ph p).gen.act := congrArg Timing.act htim
  have hlen : periodLen false (endPeriod p nodeH nodeL s) p = periodLen false s p := by
    unfold periodLen
    rw [hset, hact, only_twin he]
  have hnow : nowCnt (endPeriod p nodeH nodeL s) = nowCnt s := by rw [nowCnt, only_dev he]; rfl
  rw [nextPeriod, handoverDone_timing, periodFrom_timing hp, hset, hlen, hnow]

theorem nextPeriod_st (hp : p < 48) (he : (s.ph p).est = false) (nodeH nodeL : List (Nat × Rat)) (r : Nat) :
    ((nextPeriod p nodeH nodeL s).rail r).st = (s.rail r).st := by
  have hend := endPeriod_ends hp he nodeH nodeL
  rw [nextPeriod, handoverDone_st, (periodFrom_others hp (hend.est.trans he) _ _).1, hend.plan.rail]

/-- Where the device is not leaving, no handover completes. -/
theorem nextPeriod_of_staying (hl : s.twin.leaving = false) (nodeH nodeL : List (Nat × Rat)) :
    nextPeriod p nodeH nodeL s = periodFrom false (s.ph p).gen.periodEnd p (endPeriod p nodeH nodeL s) :=
  handoverDone_of_staying (by rw [periodFrom_leaving, only_twin (endPeriod_only p nodeH nodeL s), hl])

/-- A boundary of a phase that is not on dead reckoning, where no handover completes, gives others at most their reference. -/
theorem nextPeriod_staying (hp : p < 48) (he : (s.ph p).est = false) (hl : s.twin.leaving = false) (nodeH nodeL : List (Nat × Rat)) :
    (nextPeriod p nodeH nodeL s).dev = s.dev ∧ ∀ q, q ≠ p → Awaits (s.ph p).gen.periodEnd (s.ph q) ((nextPeriod p nodeH nodeL s).ph q) := by
  have hend := endPeriod_ends hp he nodeH nodeL
  rw [nextPeriod_of_staying hl]
  refine ⟨?_, fun q hq => ?_⟩
  · rw [only_dev (periodFrom_only _ _ _ _), only_dev hend.plan.parts]
  · rw [← hend.others q hq]
    exact (periodFrom_others hp (hend.est.trans he) _ _).2 q hq

theorem periodBoundary_acts {p : Fin 48} {nodeH nodeL : List (Nat × Rat)} (hs : s.Runs) (hc : counts s p = true) (hg : (s.ph p).gen.going = true)
    (ht : (s.ph p).gen.org + (s.ph p).gen.curPer < (s.dev.frame + 1) * 400) :
    ∃ t, exec (.periodBoundary p nodeH nodeL) s = .next t ∧ (t.ph p).gen.eset = none ∧
      (t.ph p).gen.ldpend = false ∧ (t.ph p).gen.going = true ∧
      (t.ph p).gen.act = (match (s.ph p).gen.eset with
        | some e => e
        | none => if (s.ph p).gen.ldpend then shadowSet s p else (s.ph p).gen.act) ∧
      (t.ph p).gen.org = (s.ph p).gen.org + (s.ph p).gen.curPer ∧
      (t.ph p).gen.count = min (s.dev.frame * 400 - (t.ph p).gen.org) ((t.ph p).gen.curPer - 1) ∧
      (s.twin.phAdj.getD p 0 = 0 → (t.ph p).gen.curPer =
        (((t.ph p).gen.act.per : Int) + wrapHalf (t.ph p).gen.act.per (((t.ph p).gen.act.ofs : Int) - (s.ph p).gen.act.ofs)).toNat) ∧
      t.bank = s.bank ∧ t.nv = s.nv ∧
      ((s.ph p).est = false → (∀ r, (t.rail r).st = (s.rail r).st) ∧ (s.twin.leaving = false → t.dev = s.dev ∧
        ∀ q, q ≠ p → t.ph q = { s.ph q with gen := { (s.ph q).gen with ref := (t.ph q).gen.ref } } ∧
          ((t.ph q).gen.ref = (s.ph q).gen.ref ∨ (t.ph q).gen.ref = some (t.ph p).gen.org))) := by
  obtain ⟨b, hb⟩ : ∃ b, b = s.begin none (some (s.ph p).gen.periodEnd) := ⟨_, rfl⟩
  obtain ⟨t, htdef⟩ : ∃ t, t = nextPeriod p nodeH nodeL b := ⟨_, rfl⟩
  have hbph (q : Nat) : b.ph q = s.ph q := by rw [hb]; rfl
  have hot : Only (.eng :: .perf :: syncParts) b t := htdef ▸ nextPeriod_only _ _ _ _
  have htim := nextPeriod_timing p.isLt nodeH nodeL b
  rw [← htdef] at htim
  have horg : (t.ph p).gen.org = (s.ph p).gen.periodEnd := (congrArg Timing.org htim).trans (by rw [hbph])
  have hlen : (t.ph p).gen.curPer = periodLen false s p := (congrArg Timing.curPer htim).trans (by rw [hb]; rfl)
  have hact : (t.ph p).gen.act = nextSet s p := (congrArg Timing.act htim).trans (by rw [hb]; rfl)
  refine ⟨t, ?_, congrArg Timing.eset htim, congrArg Timing.ldpend htim, congrArg Timing.going htim, hact, horg, ?_, fun hadj => ?_, ?_, ?_,
    fun he => ⟨fun r => ?_, fun hl => ?_⟩⟩
  · rw [exec_periodBoundary hs hc hg ht, htdef, hb]
  · rw [horg, hlen]
    exact (congrArg Timing.count htim).trans (by rw [hb]; rfl)
  · have hz : ∀ n : Nat, clampI (-(n : Int)) n 0 = 0 := fun n => by
      unfold clampI
      rw [if_neg (by omega), if_neg (by omega)]
    rw [hlen, hact, periodLen, hadj]
    rw [if_neg (by decide), if_neg (by decide), hz, add_zero]
  · rw [only_bank hot, hb]
    rfl
  · rw [only_nv hot, hb]
    rfl
  · rw [htdef, nextPeriod_st p.isLt (hbph p ▸ he), hb]
    rfl
  · obtain ⟨hdev, hph⟩ := nextPeriod_staying p.isLt (s := b) (hbph p ▸ he) (by rw [hb]; exact hl) nodeH nodeL
    rw [← htdef] at hdev hph
    refine ⟨hdev.trans (by rw [hb]; rfl), fun q hq => ?_⟩
    have h := hph q fun e => hq (Fin.ext e)
    rw [hbph, hbph] at h
    exact ⟨h.phase, horg ▸ h.ref⟩

/-! ### GENERATOR_START (R27, R119, R128, R190, R214) -/

theorem exec_generatorStart {p : Fin 48} {n : Nat} (hs : s.Runs) (hc : counts s p = true) (hg : (s.ph p).gen.going = false)
    (hsb : isStandby s = false) (hj : (s.ph p).joining = false ∨ (s.ph p).gen.eset ≠ none) (hr : (s.ph p).gen.ref = some n)
    (ht : n + (nextSet s p).ofs < (s.dev.frame + 1) * 400) :
    exec (.generatorStart p) s = .next (periodFrom true (n + (nextSet s p).ofs) p (s.begin none (startDue s p))) := by
  refine (next_clocked_of_runs hs).trans (congrArg Host.Outcome.next ?_)
  have h1 : counts (s.begin none (startDue s p)) p = true := hc
  have h2 : decide (nextCnt s ≤ n + (nextSet s p).ofs) = false := decide_eq_false (Nat.not_le.2 ht)
  have h3 : ((s.ph p).joining && (s.ph p).gen.eset.isNone) = false := by
    rcases hj with h | h
    · rw [h]; rfl
    · rw [Option.isNone_eq_false_iff.2 (Option.isSome_iff_ne_none.2 h), Bool.and_false]
  unfold generatorStart
  dsimp only
  rw [ph_begin_of, hr]
  dsimp only
  rw [if_neg]
  · rfl
  · simp only [h1, hg, h3, show nextSet (s.begin none (startDue s p)) p = nextSet s p from rfl,
      show nextCnt (s.begin none (startDue s p)) = nextCnt s from rfl, h2,
      show isStandby (s.begin none (startDue s p)) = isStandby s from rfl, hsb]
    simpa using hs.1

theorem generatorStart_acts {p : Fin 48} {e : GenSet} {n : Nat} (hs : s.Runs) (hc : counts s p = true) (hg : (s.ph p).gen.going = false)
    (hsb : isStandby s = false) (hj : (s.ph p).joining = false ∨ (s.ph p).gen.eset ≠ none)
    (he : e = nextSet s p) (hr : (s.ph p).gen.ref = some n) (ht : n + e.ofs < (s.dev.frame + 1) * 400) :
    ∃ t, exec (.generatorStart p) s = .next t ∧ (t.ph p).gen.going = true ∧ (t.ph p).gen.act = e ∧ (t.ph p).gen.ref = none ∧
      (t.ph p).gen.org = n + e.ofs ∧ (t.ph p).gen.curPer = e.per ∧
      (t.ph p).gen.count = min (s.dev.frame * 400 - (n + e.ofs)) (e.per - 1) ∧
      (t.ph p).gen.eset = none ∧ (t.ph p).gen.ldpend = false ∧ t.bank = s.bank ∧ t.dev = s.dev ∧ t.nv = s.nv ∧
      ((s.ph p).est = false → (∀ r, (t.rail r).st = (s.rail r).st) ∧
        ∀ q, q ≠ p → t.ph q = { s.ph q with gen := { (s.ph q).gen with ref := (t.ph q).gen.ref } } ∧
          ((t.ph q).gen.ref = (s.ph q).gen.ref ∨ (t.ph q).gen.ref = some (n + e.ofs))) := by
  subst he
  obtain ⟨b, hb⟩ : ∃ b, b = s.begin none (startDue s p) := ⟨_, rfl⟩
  obtain ⟨t, htdef⟩ : ∃ t, t = periodFrom true (n + (nextSet s p).ofs) p b := ⟨_, rfl⟩
  have hot : Only [.rails, .phases, .twin, .perf, .msgs] b t := htdef ▸ periodFrom_only _ _ _ _
  have hlen : periodLen true b p = (nextSet s p).per := by
    have hset : nextSet b p = nextSet s p := by rw [hb]; rfl
    unfold periodLen
    rw [hset]
    dsimp only
    rw [if_pos rfl, if_pos rfl, add_zero, add_zero, Int.toNat_natCast]
  have htim := periodFrom_timing p.isLt true (n + (nextSet s p).ofs) b
  rw [← htdef, hlen] at htim
  refine ⟨t, ?_, congrArg Timing.going htim, (congrArg Timing.act htim).trans (by rw [hb]; rfl), congrArg Timing.ref htim,
    congrArg Timing.org htim, congrArg Timing.curPer htim, (congrArg Timing.count htim).trans (by rw [hb]; rfl), congrArg Timing.eset htim,
    congrArg Timing.ldpend htim, ?_, ?_, ?_, fun he => ?_⟩
  · rw [exec_generatorStart hs hc hg hsb hj hr ht, htdef, hb]
  · rw [only_bank hot, hb]
    rfl
  · rw [only_dev hot, hb]
    rfl
  · rw [only_nv hot, hb]
    rfl
  · obtain ⟨hst, hph⟩ := periodFrom_others p.isLt (s := b) (by rw [hb]; exact he) true (n + (nextSet s p).ofs)
    rw [← htdef] at hst hph
    refine ⟨fun r => (hst r).trans (by rw [hb]; rfl), fun q hq => ?_⟩
    have h := hph q fun e => hq (Fin.ext e)
    rw [show b.ph q = s.ph q by rw [hb]; rfl] at h
    exact ⟨h.phase, h.ref⟩

end
end Sys2Proof.Machine

section
open Sys2Proof Sys2Proof.Machine

/-- Settles O39: both commands through the period that begins, its timing where a phase fails too, the rest where none does. -/
theorem generatorPeriods : Obligations.GeneratorPeriods :=
  ⟨fun _ _ _ _ hs hc hg ht => periodBoundary_acts hs hc hg ht,
    fun _ _ _ _ hs hc hg hsb hj he hr ht => generatorStart_acts hs hc hg hsb hj he hr ht⟩
end
end

section
/-! PROOFS: the two outputs of a period, output by output, and that they are never high together (R110-R113, R118). -/

-- The package as one text: its declarations are elaborated one after another, to hold few threads.
set_option Elab.async false

namespace Sys2Proof.Machine

section
variable {s t : State} {p : Nat} {g : Gen} {prev fine : Bool} {cmp per dth dtl minpw : Nat}

/-! ### Placement (R118) -/

theorem place1_mono (fine : Bool) {a b : Nat} (h : a ≤ b) : place1 fine a ≤ place1 fine b := by
  unfold place1
  split
  · exact h
  · omega

/-- A whole CNT stays where it is. -/
theorem place1_cnt (fine : Bool) (n : Nat) : place1 fine (n * 64) = n * 64 := by
  unfold place1
  split
  · rfl
  · omega

/-! ### The compares (R109) -/

theorem special_iff {c : Nat} : special c = true ↔ c = 0 ∨ c = 0x3FFFFF := by simp [special]

theorem special_eq_false {c : Nat} : special c = false ↔ c ≠ 0 ∧ c ≠ 0x3FFFFF := by simp [special]

/-! ### The outputs of a period, by its compare (R110-R113) -/

theorem pulseOrLow_eq (minpw rise fall : Nat) (o : Bool) : pulseOrLow minpw rise fall o =
    if rise < fall ∧ minpw * 64 ≤ fall - rise then .pulse (some rise) (if o then none else some fall) else .low := by
  unfold pulseOrLow
  by_cases h : rise < fall ∧ minpw * 64 ≤ fall - rise
  · rw [if_pos h, if_neg (by omega)]
  · rw [if_neg h, if_pos (by omega)]

theorem carryOver_none (old e : Nat) : (carryOver none old e).1 = none := rfl

theorem carryOver_risen {a e : Nat} (old : Nat) (h : a ≤ e) : (carryOver (some a) old e).1 = none :=
  congrArg Prod.fst (if_neg (Nat.not_lt.2 h))

theorem carryOver_rises {a e : Nat} (old : Nat) (h : e < a) : (carryOver (some a) old e).1 = some (a - e) :=
  congrArg Prod.fst (if_pos h)

/-- The rise of a high side that continues behind the period of `g`. -/
def Gen.carriedH (g : Gen) (fine : Bool) : Option Nat := (carryOver (lastRise g.hpin (place1 fine g.dthNow)) g.riseH (g.curPer * 64)).1

/-- The rise of a low side that continues behind the period of `g`. -/
def Gen.carriedL (g : Gen) (fine : Bool) : Option Nat :=
  (carryOver (lastRise g.lpin (place1 fine (g.lowAt + g.dtlNow))) g.riseL (g.curPer * 64)).1

theorem waveform_endHigh : (waveform g prev cmp per dth dtl minpw fine).endHigh = (cmp == 0x3FFFFF || cmp == per * 64) := rfl

/-- The low side of an ordinary compare (R110, R112). -/
theorem waveform_low (h : special cmp = false) :
    (waveform g prev cmp per dth dtl minpw fine).l = pulseOrLow minpw (place1 fine (cmp + dtl)) (per * 64) true := by
  obtain ⟨h0, h1⟩ := special_eq_false.1 h
  exact (if_neg h1).trans (if_neg h0)

/-- The high side of an ordinary compare behind an ordinary one (R110, R112). -/
theorem waveform_high (h : special cmp = false) (hg : special g.curCmp = false) (hc : g.lowCut = false) :
    (waveform g prev cmp per dth dtl minpw fine).h = pulseOrLow minpw (place1 fine dth) (place1 fine cmp) false := by
  obtain ⟨h0, h1⟩ := special_eq_false.1 h
  refine (if_neg h0).trans ((if_neg h1).trans (if_neg ?_))
  simp [h, hg, hc]

/-- The high side of an ordinary compare that continues from a 100 % period (R113). -/
theorem waveform_high_after_full (h : special cmp = false) (hg : special g.curCmp = true) (hr : prev = true) (he : g.endHigh = true) :
    (waveform g prev cmp per dth dtl minpw fine).h = contPulse (g.carriedH fine) (place1 fine cmp) (cmp == per * 64) := by
  obtain ⟨h0, h1⟩ := special_eq_false.1 h
  refine (if_neg h0).trans ((if_neg h1).trans (if_pos ?_))
  simp [h, hg, hr, he, h0]

/-- The high side of an ordinary compare continues or begins anew (R110, R113). -/
theorem waveform_high_cases (h : special cmp = false) :
    (waveform g prev cmp per dth dtl minpw fine).h = contPulse (g.carriedH fine) (place1 fine cmp) (cmp == per * 64) ∨
    (waveform g prev cmp per dth dtl minpw fine).h = pulseOrLow minpw (place1 fine dth) (place1 fine cmp) false := by
  obtain ⟨h0, h1⟩ := special_eq_false.1 h
  rw [show (waveform g prev cmp per dth dtl minpw fine).h = _ from (if_neg h0).trans (if_neg h1)]
  split
  · exact .inl rfl
  · exact .inr rfl

/-- 0 % has no high pulse (R111). -/
theorem waveform_zero_high (h : cmp = 0) : (waveform g prev cmp per dth dtl minpw fine).h = .low := if_pos h

/-- The low side of 0 % (R111, R113). -/
theorem waveform_zero_low (h : cmp = 0) : (waveform g prev cmp per dth dtl minpw fine).l =
    if (prev && !g.endHigh && !g.lowCut) = true then .pulse (g.carriedL fine) none else .pulse (some (place1 fine dtl)) none := by
  refine (if_neg (by omega)).trans ((if_pos h).trans ?_)
  simp only [h, beq_self_eq_true, Bool.and_true]
  rfl

/-- 100 % has no low pulse (R111). -/
theorem waveform_full_low (h : cmp = 0x3FFFFF) : (waveform g prev cmp per dth dtl minpw fine).l = .low := if_pos h

/-- The high side of 100 % (R111, R113). -/
theorem waveform_full_high (h : cmp = 0x3FFFFF) : (waveform g prev cmp per dth dtl minpw fine).h =
    if (prev && g.endHigh) = true then .pulse (g.carriedH fine) none else .pulse (some (place1 fine dth)) none := by
  refine (if_neg (by omega)).trans ((if_pos h).trans ?_)
  simp only [h, show special 0x3FFFFF = true from rfl, show (0x3FFFFF != 0) = true from rfl, Bool.true_or, Bool.and_true]
  rfl

/-! ### When an output is high -/

/-- An output that is high at most before `c`. -/
def Pin.HighBefore (c : Nat) (x : Pin) : Prop := ∀ n, x.HighAt n → n < c

/-- An output that is high at most from `c` on. -/
def Pin.HighFrom (c : Nat) (x : Pin) : Prop := ∀ n, x.HighAt n → c ≤ n

theorem not_highAt_low (n : Nat) : ¬ Pin.low.HighAt n := fun ⟨_, hy, _⟩ => absurd hy (by simp [Pin.pulses])

theorem not_highAt_hiZ (n : Nat) : ¬ Pin.hiZ.HighAt n := fun ⟨_, hy, _⟩ => absurd hy (by simp [Pin.pulses])

theorem highAt_pulse {r f : Option Nat} {n : Nat} : (Pin.pulse r f).HighAt n ↔ r.getD 0 ≤ n ∧ ∀ c, f = some c → n < c := by
  simp [Pin.HighAt, Pin.pulses]

theorem highBefore_low (c : Nat) : Pin.low.HighBefore c := fun n h => absurd h (not_highAt_low n)

theorem highFrom_low (c : Nat) : Pin.low.HighFrom c := fun n h => absurd h (not_highAt_low n)

theorem highBefore_pulse (r : Option Nat) (c : Nat) : (Pin.pulse r (some c)).HighBefore c := fun _ h => (highAt_pulse.1 h).2 c rfl

theorem highFrom_pulse {c a : Nat} (h : c ≤ a) (f : Option Nat) : (Pin.pulse (some a) f).HighFrom c := fun _ hn => h.trans (highAt_pulse.1 hn).1

theorem pulseOrLow_highBefore (minpw rise c : Nat) : (pulseOrLow minpw rise c false).HighBefore c := by
  unfold pulseOrLow
  split
  · exact highBefore_low c
  · exact highBefore_pulse _ c

theorem pulseOrLow_highFrom {c rise : Nat} (h : c ≤ rise) (minpw fall : Nat) (o : Bool) : (pulseOrLow minpw rise fall o).HighFrom c := by
  unfold pulseOrLow
  split
  · exact highFrom_low c
  · exact highFrom_pulse h _

theorem contPulse_highBefore (r : Option Nat) (c : Nat) : (contPulse r c false).HighBefore c := by
  unfold contPulse
  split
  · split
    · exact highBefore_low c
    · exact highBefore_pulse _ c
  · exact highBefore_pulse _ c

/-- Of an ordinary compare before the period's end the high side is high before the compare and the low side behind it. -/
theorem waveform_apart (h : special cmp = false) (he : cmp ≠ per * 64) :
    (waveform g prev cmp per dth dtl minpw fine).h.HighBefore (place1 fine cmp) ∧
    (waveform g prev cmp per dth dtl minpw fine).l.HighFrom (place1 fine cmp) := by
  have hne : (cmp == per * 64) = false := beq_eq_false_iff_ne.2 he
  refine ⟨?_, ?_⟩
  · rcases waveform_high_cases (g := g) (prev := prev) (per := per) (dth := dth) (dtl := dtl) (minpw := minpw) (fine := fine) h with hw | hw
    · rw [hw, hne]
      exact contPulse_highBefore _ _
    · rw [hw]
      exact pulseOrLow_highBefore _ _ _
  · rw [waveform_low h]
    exact pulseOrLow_highFrom (place1_mono fine (Nat.le_add_right _ _)) _ _ _

/-- Of a compare at the period's end or behind it there is no low pulse. -/
theorem waveform_low_late (h : special cmp = false) (he : per * 64 ≤ cmp) : (waveform g prev cmp per dth dtl minpw fine).l = .low := by
  have hlo : per * 64 ≤ place1 fine (cmp + dtl) := (place1_cnt fine per).symm.trans_le (place1_mono fine (by omega))
  rw [waveform_low h]
  exact if_pos (.inl hlo)

/-! ### What the outputs and the pins show of it -/

/-- The balls of an own phase are high only where its outputs are (R110, R126). -/
theorem pins_high (hs : scanned s = false) (n : Nat) (h : (pins s p).1.HighAt n ∧ (pins s p).2.HighAt n) :
    (outputs s p).1.HighAt n ∧ (outputs s p).2.HighAt n := by
  have hhead (x : Pin) : ((s.ph p).gen.head x).HighAt n → x.HighAt n := fun hx => by
    unfold Gen.head at hx
    split at hx
    · exact hx
    · exact hx
  unfold pins at h
  dsimp only at h
  rw [if_neg (by simp [hs])] at h
  split at h
  · exact absurd h.1 (not_highAt_hiZ n)
  · split at h
    · exact absurd (hhead _ h.1) (not_highAt_low n)
    · exact ⟨hhead _ h.1, hhead _ h.2⟩
    · exact absurd h.1 (not_highAt_hiZ n)

end
end Sys2Proof.Machine
end

section
/-! PROOFS: a period that has begun: its outputs are never high together, its edges' delays, and the trim of one (R110-R116). -/

-- The package as one text: its declarations are elaborated one after another, to hold few threads.
set_option Elab.async false

namespace Sys2Proof.Machine

section
variable {s t : State} {p org : Nat} {first : Bool} {y : Phase}

/-! ### The outputs of a period that has begun -/

theorem wave_held (h : nextHold s p = true) (g : Gen) : wave first s p g = ⟨.low, .low, false, 0, 0⟩ := if_pos h

theorem wave_driven (h : nextHold s p = false) (g : Gen) : wave first s p g = waveform (s.ph p).gen (!first && runsNow s p) g.curCmp g.curPer
    g.dth g.dtl (fld (s.pr p Reg.PH_CTL) 31 24) g.fine := if_neg (by simp [h])

/-- An output shows its pulse, or the high side the pulse that a 100 % period to come continues (R113). -/
theorem outputs_high (hc : (s.ph p).gen.lowCut = false) : (outputs s p).1 = (s.ph p).gen.hpin ∨
    (s.ph p).gen.hold = false ∧ special (s.ph p).gen.curCmp = false ∧ (s.ph p).gen.endHigh = true := by
  unfold outputs
  dsimp only
  rw [hc, if_neg (by simp)]
  split
  · next h =>
    simp only [Bool.and_eq_true, Bool.not_eq_true'] at h
    obtain ⟨⟨⟨⟨⟨hplain, hsp⟩, -⟩, he⟩, -⟩, -⟩ := h
    exact .inr ⟨hplain.1, hsp, he⟩
  · exact .inl rfl

/-- The low side shows its pulse, or the one that a 0 % period to come continues (R113). -/
theorem outputs_low (s : State) (p : Nat) : (outputs s p).2 = (s.ph p).gen.lpin ∨
    (s.ph p).gen.hold = false ∧ (s.ph p).gen.endHigh = false ∧
      (outputs s p).2 = .pulse (some (place1 (s.ph p).gen.fine ((s.ph p).gen.lowAt + (s.ph p).gen.dtlNow))) none := by
  unfold outputs
  dsimp only
  split
  · next h =>
    simp only [Bool.and_eq_true, Bool.not_eq_true'] at h
    obtain ⟨⟨⟨⟨⟨hplain, -⟩, he⟩, -⟩, -⟩, -⟩ := h
    exact .inr ⟨hplain.1, he, rfl⟩
  · exact .inl rfl

/-- The outputs of a period that has begun are never high together: both low in HOLD, one of them low at 0 % and 100 %, else the high side
before the compare and the low side behind it. -/
theorem Begun.apart (h : Begun first org p s (t.ph p)) (n : Nat) : ¬ ((outputs t p).1.HighAt n ∧ (outputs t p).2.HighAt n) := by
  obtain ⟨hlowAt, hcut⟩ := h.low
  obtain ⟨hh, hl, hend⟩ := h.outs
  have hhigh := outputs_high hcut
  have hlow := outputs_low t p
  rintro ⟨h1, h2⟩
  cases hhold : nextHold s p
  case true =>
    rw [wave_held hhold] at hh
    rw [h.hold.trans hhold, hh] at hhigh
    rw [hhigh.resolve_right (by simp)] at h1
    exact not_highAt_low n h1
  case false =>
    rw [wave_driven hhold] at hh hl hend
    cases hsp : special (t.ph p).gen.curCmp
    case true =>
      rw [hsp] at hhigh
      rcases special_iff.1 hsp with h0 | hf
      · rw [hhigh.resolve_right (by simp), hh, waveform_zero_high h0] at h1
        exact not_highAt_low n h1
      · have he : (t.ph p).gen.endHigh = true := hend.trans (by rw [waveform_endHigh, hf]; rfl)
        rw [he] at hlow
        rw [hlow.resolve_right (by simp), hl, waveform_full_low hf] at h2
        exact not_highAt_low n h2
    case false =>
      have he : (t.ph p).gen.endHigh = ((t.ph p).gen.curCmp == (t.ph p).gen.curPer * 64) := by
        rw [hend, waveform_endHigh, beq_eq_false_iff_ne.2 (special_eq_false.1 hsp).2, Bool.false_or]
      by_cases hce : (t.ph p).gen.curCmp = (t.ph p).gen.curPer * 64
      · rw [he, beq_iff_eq.2 hce] at hlow
        rw [hlow.resolve_right (by simp), hl, waveform_low_late hsp hce.ge] at h2
        exact not_highAt_low n h2
      · obtain ⟨hbefore, hfrom⟩ := waveform_apart (g := (s.ph p).gen) (prev := !first && runsNow s p) (dth := (t.ph p).gen.dth)
          (dtl := (t.ph p).gen.dtl) (minpw := fld (s.pr p Reg.PH_CTL) 31 24) (fine := (t.ph p).gen.fine) hsp hce
        rw [← hh] at hbefore
        rw [← hl] at hfrom
        rw [he, beq_eq_false_iff_ne.2 hce] at hhigh
        rw [hhigh.resolve_right (by simp)] at h1
        have hc2 : place1 (t.ph p).gen.fine (t.ph p).gen.curCmp ≤ n := by
          rcases hlow with hlow | ⟨-, -, hlow⟩
          · exact hfrom n (hlow ▸ h2)
          · rw [hlow, hlowAt] at h2
            exact (place1_mono _ (Nat.le_add_right _ _)).trans (highAt_pulse.1 h2).1
        exact absurd (hbefore n h1) (Nat.not_lt.2 hc2)

/-! ### The edges of a period that has begun (R114-R116) -/

/-- The half of a delay register that an edge has. -/
def edgeFld (hi : Bool) (w : Word) : Nat := if hi then fld w 29 16 else fld w 13 0

/-- A node's voltages at an edge. -/
def nodeOf (hi : Bool) (nodeH nodeL : List (Nat × Rat)) : List (Nat × Rat) := if hi then nodeH else nodeL

theorem Gen.edge_eq (g : Gen) (hi : Bool) : g.edge hi = ⟨if hi then g.dth else g.dtl, if hi then g.hardH else g.hardL,
    if hi then g.missH else g.missL, if hi then g.adH else g.adL, edgeFld hi g.dtMin, edgeFld hi g.dtMax⟩ := by cases hi <;> rfl

theorem edge_trimmedBy (g : Gen) (h l : Nat × Bool × Nat × Bool) (hi : Bool) : (g.trimmedBy h l).edge hi =
    { g.edge hi with dt := (if hi then h else l).1, hard := (if hi then h else l).2.1, miss := (if hi then h else l).2.2.1 } := by
  cases hi <;> rfl

/-- An edge that is not adapted takes the delay of the set. -/
theorem Begun.edge_off (h : Begun first org p s y) {hi : Bool} (hb : bit (s.pr p Reg.PH_DTCFG) (if hi then 31 else 30) = false) :
    (y.gen.edge hi).dt = if hi then y.gen.act.dth else y.gen.act.dtl := by
  have hact : y.gen.act = nextSet s p := congrArg Timing.act h.timing
  have hdelay (was now : Bool) (dt set lo up : Nat) (hn : now = false) : edgeDelay was now dt set lo up = set := if_neg (by simp [hn])
  rw [hact]
  cases hi
  · exact h.dtl.trans (hdelay _ _ _ _ _ _ hb)
  · exact h.dth.trans (hdelay _ _ _ _ _ _ hb)

/-- An adapted edge keeps its delay, clamped into the bounds where its adaptation begins, and its flag and misses. -/
theorem Begun.edge_on (h : Begun first org p s y) {hi : Bool} (hb : bit (s.pr p Reg.PH_DTCFG) (if hi then 31 else 30) = true) :
    (y.gen.edge hi).dt = (if ((s.ph p).gen.edge hi).adapted then ((s.ph p).gen.edge hi).dt
      else (clampI (edgeFld hi (s.pr p Reg.PH_DTMIN)) (edgeFld hi (s.pr p Reg.PH_DTMAX)) ((s.ph p).gen.edge hi).dt).toNat) ∧
    (y.gen.edge hi).hard = ((s.ph p).gen.edge hi).hard ∧ (y.gen.edge hi).miss = ((s.ph p).gen.edge hi).miss := by
  have hdelay (was now : Bool) (dt set lo up : Nat) (hn : now = true) :
      edgeDelay was now dt set lo up = if was then dt else (clampI lo up dt).toNat := if_pos hn
  have hkeep (a b : Bool) (hn : b = true) : (a && b) = a := by rw [hn, Bool.and_true]
  cases hi
  · exact ⟨h.dtl.trans (hdelay _ _ _ _ _ _ hb), h.hard.2.trans (hkeep _ _ hb), h.miss.2.trans (if_pos hb)⟩
  · exact ⟨h.dth.trans (hdelay _ _ _ _ _ _ hb), h.hard.1.trans (hkeep _ _ hb), h.miss.1.trans (if_pos hb)⟩

/-! ### The trim of an edge (R115) -/

theorem clampI_toNat (lo up : Nat) (x : Int) : ((clampI lo up x).toNat : Int) = clampI lo up x := by
  refine Int.toNat_of_nonneg ?_
  unfold clampI
  split
  · omega
  · split <;> omega

/-- A crossing inside the delay moves it a step at most towards the target. -/
theorem trimEdge_crossed {dt n : Nat} {tc : Option Nat} (htc : tc = some n) (hn : n < dt) (hard : Bool) (miss target step nhard lo up : Nat) :
    trimEdge dt hard miss tc target step nhard lo up = ((clampI lo up (if target < dt - n then (dt : Int) - (min step (dt - n - target) : Nat)
      else dt + (min step (target - (dt - n)) : Nat))).toNat, false, 0, false) := by
  have hf : tc.filter (· < dt) = some n := by simp [htc, hn]
  unfold trimEdge
  dsimp only
  rw [hf]
  dsimp only
  congr 3
  split
  · rfl
  · split
    · rfl
    · simp [show target - (dt - n) = 0 by omega]

theorem filter_missed {dt : Nat} {tc : Option Nat} (htc : ∀ n, tc = some n → dt ≤ n) : tc.filter (· < dt) = none := by
  cases tc with
  | none => rfl
  | some n => simp [htc n rfl]

/-- A crossing missed before the edge is hard makes the delay a step longer and counts. -/
theorem trimEdge_missed {dt : Nat} {hard : Bool} {tc : Option Nat} (htc : ∀ n, tc = some n → dt ≤ n) (hh : hard = false)
    (miss target step nhard lo up : Nat) :
    trimEdge dt hard miss tc target step nhard lo up =
      ((clampI lo up ((dt : Int) + step)).toNat, decide (nhard ≤ miss + 1), miss + 1, decide (nhard ≤ miss + 1)) := by
  unfold trimEdge
  dsimp only
  rw [filter_missed htc, hh]
  rfl

/-- A crossing missed by a hard edge makes the delay a step shorter. -/
theorem trimEdge_hard {dt : Nat} {hard : Bool} {tc : Option Nat} (htc : ∀ n, tc = some n → dt ≤ n) (hh : hard = true)
    (miss target step nhard lo up : Nat) :
    trimEdge dt hard miss tc target step nhard lo up = ((clampI lo up ((dt : Int) - step)).toNat, true, miss, false) := by
  unfold trimEdge
  dsimp only
  rw [filter_missed htc, hh]
  rfl

end
end Sys2Proof.Machine
end

section
/-! PROOFS: what a PERIOD_BOUNDARY makes the two outputs show, and the adapted dead times; the statement about both (R107-R116, R118, R120, R121). -/

-- The package as one text: its declarations are elaborated one after another, to hold few threads.
set_option Elab.async false

namespace Sys2Proof.Machine

section
variable {s t : State} {p : Nat} {nodeH nodeL : List (Nat × Rat)}

/-! ### The period that a PERIOD_BOUNDARY begins -/

/-- The outputs and edges of the period that follows the present one of phase `p`, from the state before the boundary. -/
structure NextPeriod (p : Nat) (nodeH nodeL : List (Nat × Rat)) (s t : State) : Prop where
  dev : t.dev = s.dev
  cmp : (t.ph p).gen.curCmp = blendedCmp (nextCmp s p) (t.ph p).gen.curPer (t.ph p).gen.act.per
  fine : (t.ph p).gen.fine = ((s.ph p).gen.fine || (s.ph p).gen.dlok)
  held : nextHold s p = true → (t.ph p).gen.hpin = .low ∧ (t.ph p).gen.lpin = .low
  driven : nextHold s p = false → ∃ w, w = waveform (s.ph p).gen (runsNow s p) (t.ph p).gen.curCmp (t.ph p).gen.curPer (t.ph p).gen.dth
    (t.ph p).gen.dtl (fld (s.pr p Reg.PH_CTL) 31 24) (t.ph p).gen.fine ∧ (t.ph p).gen.hpin = w.h ∧ (t.ph p).gen.lpin = w.l
  apart : ∀ n, ¬ ((outputs t p).1.HighAt n ∧ (outputs t p).2.HighAt n)
  off : ∀ hi, bit (s.pr p Reg.PH_DTCFG) (if hi then 31 else 30) = false →
    ((t.ph p).gen.edge hi).dt = if hi then (t.ph p).gen.act.dth else (t.ph p).gen.act.dtl
  on : ∀ hi, bit (s.pr p Reg.PH_DTCFG) (if hi then 31 else 30) = true →
    ((t.ph p).gen.edge hi).dt = (if ((s.ph p).gen.edge hi).adapted then (trimOf s p hi (nodeOf hi nodeH nodeL)).1
      else (clampI (edgeFld hi (s.pr p Reg.PH_DTMIN)) (edgeFld hi (s.pr p Reg.PH_DTMAX)) (trimOf s p hi (nodeOf hi nodeH nodeL)).1).toNat) ∧
    ((t.ph p).gen.edge hi).hard = (trimOf s p hi (nodeOf hi nodeH nodeL)).2.1 ∧
    ((t.ph p).gen.edge hi).miss = (trimOf s p hi (nodeOf hi nodeH nodeL)).2.2.1
  waits : s.dev.clkStop = false → ∀ hi, (trimOf s p hi (nodeOf hi nodeH nodeL)).2.2.2 = true → t.Waits 0x39 0 p

theorem nextPeriod_ends_and_begins (hp : p < 48) (he : (s.ph p).est = false) (hl : s.twin.leaving = false) (nodeH nodeL : List (Nat × Rat)) :
    NextPeriod p nodeH nodeL s (nextPeriod p nodeH nodeL s) := by
  have hend := endPeriod_ends hp he nodeH nodeL
  obtain ⟨e, hedef⟩ : ∃ e, e = endPeriod p nodeH nodeL s := ⟨_, rfl⟩
  obtain ⟨t, htdef⟩ : ∃ t, t = periodFrom false (s.ph p).gen.periodEnd p e := ⟨_, rfl⟩
  rw [nextPeriod_of_staying hl, ← hedef, ← htdef]
  rw [← hedef] at hend
  have hstart := startPeriod_starts (s := e) hp (hend.est.trans he) false (s.ph p).gen.periodEnd
  have hb : Begun false (s.ph p).gen.periodEnd p e (t.ph p) := by
    rw [htdef, periodFrom_ph hp]
    exact hstart.phase
  have hplan := hend.plan
  have hnode (hi : Bool) : (if hi then trimOf s p true nodeH else trimOf s p false nodeL) = trimOf s p hi (nodeOf hi nodeH nodeL) := by
    cases hi <;> rfl
  have hedge (hi : Bool) : (e.ph p).gen.edge hi = { (s.ph p).gen.edge hi with
      dt := (trimOf s p hi (nodeOf hi nodeH nodeL)).1, hard := (trimOf s p hi (nodeOf hi nodeH nodeL)).2.1
      miss := (trimOf s p hi (nodeOf hi nodeH nodeL)).2.2.1 } := by rw [hend.gen, edge_trimmedBy, hnode]
  have hact : (t.ph p).gen.act = nextSet e p := congrArg Timing.act hb.timing
  have hper : (t.ph p).gen.curPer = periodLen false e p := congrArg Timing.curPer hb.timing
  have hmsgs : t.fc.pend = e.fc.pend := by
    rw [htdef, periodFrom, only_msgs (railBoundary_bounds _ _ _).parts, only_msgs hstart.parts]
  obtain ⟨hh, hlo, -⟩ := hb.outs
  refine ⟨?_, ?_, ?_, fun hhold => ?_, fun hhold => ⟨_, rfl, ?_⟩, hb.apart, fun hi h => ?_, fun hi h => ?_, fun hc hi h => ?_⟩
  · rw [htdef, only_dev (periodFrom_only _ _ _ _), only_dev hplan.parts]
  · rw [hact, hper, hb.cmp, hplan.nextCmp]
  · rw [hb.fine, hend.gen]
    rfl
  · rw [← hplan.nextHold] at hhold
    rw [hh, hlo, wave_held hhold]
    exact ⟨rfl, rfl⟩
  · rw [← hplan.nextHold] at hhold
    rw [hh, hlo, wave_driven hhold, hend.gen, hplan.runsNow, hplan.pr]
    exact ⟨rfl, rfl⟩
  · exact hb.edge_off (hplan.pr _ _ ▸ h)
  · have hon := hb.edge_on (hi := hi) (hplan.pr _ _ ▸ h)
    rw [hedge, hplan.pr, hplan.pr] at hon
    exact hon
  · obtain ⟨m, hm, hw⟩ := hend.waits hc hi h
    exact ⟨m, hmsgs ▸ hm, hw⟩

/-- A PERIOD_BOUNDARY on a device that is not leaving, of a phase that is not on dead reckoning. -/
theorem periodBoundary_next {p : Fin 48} (hs : s.Runs) (hc : counts s p = true) (hg : (s.ph p).gen.going = true)
    (ht : (s.ph p).gen.org + (s.ph p).gen.curPer < (s.dev.frame + 1) * 400) (he : (s.ph p).est = false) (hl : s.twin.leaving = false)
    (nodeH nodeL : List (Nat × Rat)) :
    ∃ t, exec (.periodBoundary p nodeH nodeL) s = .next t ∧ NextPeriod p nodeH nodeL s t := by
  obtain ⟨t, htdef⟩ : ∃ t, t = nextPeriod p nodeH nodeL (s.begin none (some (s.ph p).gen.periodEnd)) := ⟨_, rfl⟩
  have h : NextPeriod p nodeH nodeL (s.begin none (some (s.ph p).gen.periodEnd)) t := by
    rw [htdef]
    exact nextPeriod_ends_and_begins (s := s.begin none (some (s.ph p).gen.periodEnd)) p.isLt he hl nodeH nodeL
  obtain ⟨hdev, hcmp, hfine, hheld, hdriven, hapart, hoff, hon, hwaits⟩ := h
  exact ⟨t, htdef ▸ exec_periodBoundary hs hc hg ht nodeH nodeL, hdev, hcmp, hfine, hheld, hdriven, hapart, hoff, hon, hwaits⟩

/-! ### The outputs of that period, by its compare (R109-R113, R118, R120) -/

theorem blendedCmp_eq (c n per : Nat) : blendedCmp c n per =
    if c = 0 ∨ c = 0x3FFFFF ∨ n = per then c else (roundAway (((c * n : Nat) : Rat) / (per : Rat))).toNat := by
  unfold blendedCmp
  simp only [← or_assoc, ite_or]

/-- An output that is high already, or whose rise is behind it, goes on; one whose rise is still to come rises then (R113). -/
theorem carryOver_of_open (x : Pin) (rise old e a : Nat) :
    (x = .pulse none none ∨ (x = .pulse (some a) none ∧ a ≤ e) → (carryOver (lastRise x rise) old e).1 = none) ∧
    (x = .pulse (some a) none → e < a → (carryOver (lastRise x rise) old e).1 = some (a - e)) := by
  refine ⟨?_, fun h hlt => ?_⟩
  · rintro (h | ⟨h, hle⟩)
    · rw [h]
      exact carryOver_none _ _
    · rw [h]
      exact carryOver_risen _ hle
  · rw [h]
    exact carryOver_rises _ hlt

theorem carriedH_of_open (g : Gen) (fine : Bool) (a : Nat) :
    (g.hpin = .pulse none none ∨ (g.hpin = .pulse (some a) none ∧ a ≤ g.curPer * 64) → g.carriedH fine = none) ∧
    (g.hpin = .pulse (some a) none → g.curPer * 64 < a → g.carriedH fine = some (a - g.curPer * 64)) := carryOver_of_open _ _ _ _ a

theorem carriedL_of_open (g : Gen) (fine : Bool) (a : Nat) :
    (g.lpin = .pulse none none ∨ (g.lpin = .pulse (some a) none ∧ a ≤ g.curPer * 64) → g.carriedL fine = none) ∧
    (g.lpin = .pulse (some a) none → g.curPer * 64 < a → g.carriedL fine = some (a - g.curPer * 64)) := carryOver_of_open _ _ _ _ a

section
variable (h : NextPeriod p nodeH nodeL s t) (hhold : nextHold s p = false)
include h hhold

/-- The low side of an ordinary compare (R110, R112). -/
theorem NextPeriod.ordinary_low (hsp : special (t.ph p).gen.curCmp = false) : (t.ph p).gen.lpin =
    pulseOrLow (fld (s.pr p Reg.PH_CTL) 31 24) (place1 (t.ph p).gen.fine ((t.ph p).gen.curCmp + (t.ph p).gen.dtl)) ((t.ph p).gen.curPer * 64) true := by
  obtain ⟨w, hw, -, hlow⟩ := h.driven hhold
  rw [hlow, hw, waveform_low hsp]

/-- The high side of an ordinary compare behind an ordinary period (R110, R112). -/
theorem NextPeriod.ordinary_high (hsp : special (t.ph p).gen.curCmp = false) (hf : special (s.ph p).gen.curCmp = false)
    (hcut : (s.ph p).gen.lowCut = false) : (t.ph p).gen.hpin = pulseOrLow (fld (s.pr p Reg.PH_CTL) 31 24)
      (place1 (t.ph p).gen.fine (t.ph p).gen.dth) (place1 (t.ph p).gen.fine (t.ph p).gen.curCmp) false := by
  obtain ⟨w, hw, hhigh, -⟩ := h.driven hhold
  rw [hhigh, hw, waveform_high hsp hf hcut]

/-- The high side of an ordinary compare behind a 100 % period in which it stayed high (R113). -/
theorem NextPeriod.high_after_full (hsp : special (t.ph p).gen.curCmp = false) (hf : (s.ph p).gen.curCmp = 0x3FFFFF) (hr : runsNow s p = true)
    (hend : (s.ph p).gen.endHigh = true) (hpin : (s.ph p).gen.hpin = .pulse none none) :
    (t.ph p).gen.hpin = .pulse none (some (place1 (t.ph p).gen.fine (t.ph p).gen.curCmp)) := by
  obtain ⟨w, hw, hhigh, -⟩ := h.driven hhold
  rw [hhigh, hw, waveform_high_after_full hsp (special_iff.2 (.inr hf)) hr hend, (carriedH_of_open _ _ 0).1 (.inl hpin)]
  rfl

/-- 0 % (R111, R113). -/
theorem NextPeriod.zero (h0 : (t.ph p).gen.curCmp = 0) : (t.ph p).gen.hpin = .low ∧ (t.ph p).gen.lpin =
    if (runsNow s p && !(s.ph p).gen.endHigh && !(s.ph p).gen.lowCut) = true then .pulse ((s.ph p).gen.carriedL (t.ph p).gen.fine) none
    else .pulse (some (place1 (t.ph p).gen.fine (t.ph p).gen.dtl)) none := by
  obtain ⟨w, hw, hhigh, hlow⟩ := h.driven hhold
  rw [hhigh, hlow, hw, waveform_zero_high h0, waveform_zero_low h0]
  exact ⟨rfl, rfl⟩

/-- 100 % (R111, R113). -/
theorem NextPeriod.full (hf : (t.ph p).gen.curCmp = 0x3FFFFF) : (t.ph p).gen.lpin = .low ∧ (t.ph p).gen.hpin =
    if (runsNow s p && (s.ph p).gen.endHigh) = true then .pulse ((s.ph p).gen.carriedH (t.ph p).gen.fine) none
    else .pulse (some (place1 (t.ph p).gen.fine (t.ph p).gen.dth)) none := by
  obtain ⟨w, hw, hhigh, hlow⟩ := h.driven hhold
  rw [hhigh, hlow, hw, waveform_full_high hf, waveform_full_low hf]
  exact ⟨rfl, rfl⟩

end

theorem NextPeriod.pins_apart (h : NextPeriod p nodeH nodeL s t) (hs : scanned s = false) (n : Nat) :
    ¬ ((pins t p).1.HighAt n ∧ (pins t p).2.HighAt n) := by
  have hst : scanned t = false := by rw [scanned, h.dev, ← scanned, hs]
  exact fun hn => h.apart n (pins_high hst n hn)

/-! ### The adapted delays of that period (R114-R116) -/

section
variable {hi : Bool} (h : NextPeriod p nodeH nodeL s t) (hb : bit (s.pr p Reg.PH_DTCFG) (if hi then 31 else 30) = true)
include h hb

/-- An edge whose adaptation is switched on. -/
theorem NextPeriod.edge_starts (had : ((s.ph p).gen.edge hi).adapted = false) : (((t.ph p).gen.edge hi).dt : Int) =
    clampI (edgeFld hi (s.pr p Reg.PH_DTMIN)) (edgeFld hi (s.pr p Reg.PH_DTMAX)) ((s.ph p).gen.edge hi).dt := by
  have htrim : (trimOf s p hi (nodeOf hi nodeH nodeL)).1 = ((s.ph p).gen.edge hi).dt := congrArg Prod.fst (if_neg (by simp [had]))
  rw [(h.on hi hb).1, htrim, had]
  exact clampI_toNat _ _ _

variable (had : ((s.ph p).gen.edge hi).adapted = true)
include had

/-- An adapted edge after a period without both pulses whole. -/
theorem NextPeriod.edge_stays (hw : (bothWhole s p && runsNow s p) = false) :
    ((t.ph p).gen.edge hi).dt = ((s.ph p).gen.edge hi).dt ∧ ((t.ph p).gen.edge hi).hard = ((s.ph p).gen.edge hi).hard ∧
    ((t.ph p).gen.edge hi).miss = ((s.ph p).gen.edge hi).miss := by
  have hon := h.on hi hb
  rw [trimOf_untrimmed hw, if_pos had] at hon
  exact hon

variable (hw : bothWhole s p = true) (hr : runsNow s p = true) {v : Nat × Bool × Nat × Bool}
  (hv : trimEdge ((s.ph p).gen.edge hi).dt ((s.ph p).gen.edge hi).hard ((s.ph p).gen.edge hi).miss
    (crossing (swsCode s p) hi (nodeOf hi nodeH nodeL)) (fld (s.ph p).gen.dtCfg 13 0) (fld (s.ph p).gen.dtCfg 21 16)
    (fld (s.ph p).gen.dtCfg 27 24) ((s.ph p).gen.edge hi).lo ((s.ph p).gen.edge hi).up = v)
include hw hr hv

/-- An adapted edge after a period with both pulses whole is trimmed, and reported where the trim asks for it. -/
theorem NextPeriod.edge_trimmed : ((t.ph p).gen.edge hi).dt = v.1 ∧ ((t.ph p).gen.edge hi).hard = v.2.1 ∧ ((t.ph p).gen.edge hi).miss = v.2.2.1 ∧
    (s.dev.clkStop = false → v.2.2.2 = true → t.Waits 0x39 0 p) := by
  have htrim : trimOf s p hi (nodeOf hi nodeH nodeL) = v := (if_pos (by simp [hw, hr, had])).trans hv
  obtain ⟨hdt, hhard, hmiss⟩ := h.on hi hb
  rw [if_pos had] at hdt
  rw [htrim] at hdt hhard hmiss
  exact ⟨hdt, hhard, hmiss, fun hc hraise => h.waits hc hi (htrim ▸ hraise)⟩

end

end
end Sys2Proof.Machine

section
open Sys2Proof Sys2Proof.Machine

/-- Settles O37: the waveform by its compare, the delays by the trim, both of the period that `periodBoundary_next` gives. -/
theorem outputsOfAPeriod : Obligations.OutputsOfAPeriod := by
  refine ⟨fun p nh nl s hs hc hg ht he hl => ?_, fun p nh nl hi s dt lo up hs hc hg ht he hl hb hdt hlo hup => ?_, fun _ _ => rfl⟩
  · obtain ⟨t, hexec, h⟩ := periodBoundary_next hs hc hg ht he hl nh nl
    refine ⟨t, (t.ph p).gen, (s.ph p).gen, _, _, _, _, _, hexec, rfl, rfl, h.cmp.trans (blendedCmp_eq _ _ _), h.fine, rfl, rfl, rfl, rfl, rfl,
      h.held, fun hhold => ⟨fun hsp hf hcut => ⟨?_, ?_⟩, fun h0 => ?_, fun hfull => ?_, fun hsp hf hr hend hpin => ⟨?_, ?_⟩⟩,
      h.pins_apart, fun hoff => h.off true hoff, fun hoff => h.off false hoff⟩
    · exact (h.ordinary_high hhold hsp hf hcut).trans (pulseOrLow_eq _ _ _ _)
    · exact (h.ordinary_low hhold hsp).trans (pulseOrLow_eq _ _ _ _)
    · obtain ⟨hhigh, hlow⟩ := h.zero hhold h0
      refine ⟨hhigh, fun hnew => ?_, fun hr hend hcut a => ?_⟩
      · rw [hlow, if_neg]
        rcases hnew with hnew | hnew <;> simp [hnew]
      · obtain ⟨hgoes, hrises⟩ := carriedL_of_open (s.ph p).gen (t.ph p).gen.fine a
        rw [hlow, if_pos (by simp [hr, hend, hcut])]
        exact ⟨fun ho => by rw [hgoes ho], fun ho hlt => by rw [hrises ho hlt]⟩
    · obtain ⟨hlow, hhigh⟩ := h.full hhold hfull
      refine ⟨hlow, fun hnew => ?_, fun hr hend a => ?_⟩
      · rw [hhigh, if_neg]
        rcases hnew with hnew | hnew <;> simp [hnew]
      · obtain ⟨hgoes, hrises⟩ := carriedH_of_open (s.ph p).gen (t.ph p).gen.fine a
        rw [hhigh, if_pos (by simp [hr, hend])]
        exact ⟨fun ho => by rw [hgoes ho], fun ho hlt => by rw [hrises ho hlt]⟩
    · exact h.high_after_full hhold hsp hf hr hend hpin
    · exact (h.ordinary_low hhold hsp).trans (pulseOrLow_eq _ _ _ _)
  · obtain ⟨t, hexec, h⟩ := periodBoundary_next hs hc hg ht he hl nh nl
    have hx := Gen.edge_eq (s.ph p).gen hi
    have hy := Gen.edge_eq (t.ph p).gen hi
    have hxdt : ((s.ph p).gen.edge hi).dt = dt := (congrArg Edge.dt hx).trans hdt.symm
    have hxlo : ((s.ph p).gen.edge hi).lo = lo := (congrArg Edge.lo hx).trans hlo.symm
    have hxup : ((s.ph p).gen.edge hi).up = up := (congrArg Edge.up hx).trans hup.symm
    refine ⟨t, ((t.ph p).gen.edge hi).dt, _, _, _, ((s.ph p).gen.edge hi).hard, ((t.ph p).gen.edge hi).hard, ((s.ph p).gen.edge hi).miss,
      ((t.ph p).gen.edge hi).miss, _, hexec, congrArg Edge.dt hy, congrArg Edge.hard hx, congrArg Edge.hard hy, congrArg Edge.miss hx,
      congrArg Edge.miss hy, rfl, rfl, rfl, rfl, fun hoff => ?_, fun hon => ⟨fun hw => ?_, fun hw hr hcross => ?_, fun hw hr hmiss hsoft => ?_,
      fun hw hr hmiss hhard => ?_⟩⟩
    · have hstart := h.edge_starts hb ((congrArg Edge.adapted hx).trans hoff)
      rw [hxdt, edgeFld, edgeFld, Nat.cast_ite, Nat.cast_ite] at hstart
      exact hstart
    · have hstays := h.edge_stays hb ((congrArg Edge.adapted hx).trans hon) hw
      rw [hxdt] at hstays
      exact hstays
    · obtain ⟨n, htc, hn⟩ := hcross
      have htrim := h.edge_trimmed hb ((congrArg Edge.adapted hx).trans hon) hw hr (trimEdge_crossed htc (hxdt.symm ▸ hn) _ _ _ _ _ _ _)
      rw [hxdt, hxlo, hxup] at htrim
      obtain ⟨hdt', hhard', hmiss', -⟩ := htrim
      refine ⟨hhard', hmiss', ?_⟩
      rw [hdt', clampI_toNat, htc]
      rfl
    · have htrim := h.edge_trimmed hb ((congrArg Edge.adapted hx).trans hon) hw hr
        (trimEdge_missed (hxdt.symm ▸ hmiss) hsoft _ _ _ _ _ _)
      rw [hxdt, hxlo, hxup] at htrim
      obtain ⟨hdt', hhard', hmiss', hwaits⟩ := htrim
      exact ⟨by rw [hdt', clampI_toNat], hmiss', hhard', fun hraise => hwaits hs.2 (hhard'.symm.trans hraise)⟩
    · have htrim := h.edge_trimmed hb ((congrArg Edge.adapted hx).trans hon) hw hr
        (trimEdge_hard (hxdt.symm ▸ hmiss) hhard _ _ _ _ _ _)
      rw [hxdt, hxlo, hxup] at htrim
      obtain ⟨hdt', hhard', -, -⟩ := htrim
      exact ⟨by rw [hdt', clampI_toNat], hhard'⟩
end
end

section
/-! PROOFS: the coefficient banks: RCOMP_COMMIT, BANK_SWITCH, BANK_COPY_BACK (R157-R160). -/

-- The package as one text: its declarations are elaborated one after another, to hold few threads.
set_option Elab.async false

namespace Sys2Proof.Machine

section
variable {s : State} {r : Nat}

/-! ### Registers copied from one place to another -/

/-- The words of the registers `src o` copied to the registers `dst o`. -/
def copyRegs (src dst : Nat → Nat) (l : List Nat) (s : State) : State := l.foldl (fun s o => s.setReg (dst o) (s.reg (src o))) s

theorem copyRegs_only (src dst : Nat → Nat) (l : List Nat) (s : State) : Only [.bank] s (copyRegs src dst l s) :=
  only_foldl (fun t _ => setReg_only t _ _) l

theorem copyRegs_swf {src dst : Nat → Nat} {l : List Nat} (hs : swf defaultWord s.bank) : swf defaultWord (copyRegs src dst l s).bank :=
  foldl_keeps (P := fun t : State => swf defaultWord t.bank) (fun _ _ h => setReg_swf h) l hs

/-- A register that is no target keeps its word. -/
theorem copyRegs_reg_ne {src dst : Nat → Nat} {l : List Nat} {k : Nat} (hk : ∀ o ∈ l, k ≠ dst o) : (copyRegs src dst l s).reg k = s.reg k := by
  induction l generalizing s with
  | nil => rfl
  | cons a l ih =>
    exact (ih fun o ho => hk o (List.mem_cons_of_mem _ ho)).trans (reg_setReg_ne (hk a (List.mem_cons_self ..)))

/-- A target holds the word of its source, where no source is a target. -/
theorem copyRegs_reg {src dst : Nat → Nat} (hd : Function.Injective dst) {l : List Nat} {o : Nat} (ho : o ∈ l)
    (hsd : ∀ a ∈ l, src o ≠ dst a) (hs : swf defaultWord s.bank) : (copyRegs src dst l s).reg (dst o) = s.reg (src o) := by
  induction l generalizing s with
  | nil => simp at ho
  | cons a l ih =>
    by_cases hl : o ∈ l
    · refine (ih hl (fun b hb => hsd b (List.mem_cons_of_mem _ hb)) (setReg_swf hs)).trans ?_
      exact reg_setReg_ne (hsd a (List.mem_cons_self ..))
    · obtain rfl : o = a := by simpa [hl] using ho
      have hrest : (copyRegs src dst l (s.setReg (dst o) (s.reg (src o)))).reg (dst o) = (s.setReg (dst o) (s.reg (src o))).reg (dst o) :=
        copyRegs_reg_ne fun b hb e => hl (by rwa [hd e])
      exact hrest.trans (reg_setReg_same hs)

/-- Bit 1 of a word takes the bit 1 of another. -/
theorem bit_setFld_one (w v : Word) : bit (setFld w 1 1 (fld v 1 1)) 1 = bit v 1 := by
  have hw := w.isLt
  simp only [bit, fld, setFld, BitVec.toNat_ofNat, Nat.testBit_eq_decide_div_mod_eq, Nat.shiftRight_eq_div_pow, decide_eq_decide]
  omega

/-! ### The two banks of a rail (R157) -/

/-- Keys of a rail's coefficients: in the pending bank, and in the active one. -/
def pendKey (r o : Nat) : Nat := (0x50 + r) * 256 + o
def actKey (r o : Nat) : Nat := bankKey (pendKey r o)

theorem pendKey_injective (r : Nat) : Function.Injective (pendKey r) := fun _ _ h => Nat.add_left_cancel h
theorem actKey_injective (r : Nat) : Function.Injective (actKey r) := fun _ _ h => pendKey_injective r (Nat.add_left_cancel h)

theorem mem_coefOffs {o : Nat} : o ∈ coefOffs ↔ o < 0xE8 ∧ 0x0C ≤ o := by simp [coefOffs]

/-- The keys of the two banks do not meet. -/
theorem pendKey_ne_actKey {o a : Nat} (ho : o < 256) : pendKey r o ≠ actKey r a := by
  unfold actKey bankKey pendKey
  omega

/-! ### The pending bank becomes the active one (R159) -/

/-- The coefficients and LUTEN of the pending bank in the active bank. -/
def pendToAct (r : Nat) (s : State) : State :=
  let t := copyRegs (pendKey r) (actKey r) coefOffs s
  t.setReg (actKey r 0x08) (setFld (t.reg (actKey r 0x08)) 1 1 (fld (t.reg (pendKey r 0x08)) 1 1))

/-- The coefficients and LUTEN of the active bank in the pending bank. -/
theorem copyBank_eq (r : Nat) (s : State) : copyBank r s =
    let t := copyRegs (actKey r) (pendKey r) coefOffs s
    t.setReg (pendKey r 0x08) (setFld (t.reg (pendKey r 0x08)) 1 1 (fld (t.reg (actKey r 0x08)) 1 1)) := rfl

/-- A commit is done: the bank fails parity no more, an injection into the rail measures afresh, and ENG_COMMIT is raised. -/
def commitDone (r : Nat) (s : State) : State :=
  let t := s.modRail r fun x => { x with bankErr := false }
  event Src.ENG_COMMIT r (if t.cup.run && t.cup.rail == r then cupAgain t else t)

theorem switchBank_eq (r : Nat) (s : State) : switchBank r s = commitDone r (pendToAct r s) := rfl

theorem commitDone_parts (r : Nat) (s : State) : Only [.cup, .msgs] (s.modRail r fun x => { x with bankErr := false }) (commitDone r s) :=
  only_then (l := [.cup]) (only_ite (cupAgain_only _) only_refl) (event_only _ _ _)

theorem commitDone_waits (r : Nat) (hc : s.dev.clkStop = false) : (commitDone r s).Waits 0x63 0 r := by
  unfold commitDone
  extract_lets t
  have ht : Only [.cup] t (if t.cup.run && t.cup.rail == r then cupAgain t else t) := only_ite (cupAgain_only t) only_refl
  exact event_waits _ _ ((congrArg Dev.clkStop (only_dev ht)).trans hc)

theorem pendToAct_only (r : Nat) (s : State) : Only [.bank] s (pendToAct r s) := only_trans (copyRegs_only ..) (setReg_only _ _ _)

theorem switchBank_bank (r : Nat) (s : State) : (switchBank r s).bank = (pendToAct r s).bank := by
  rw [switchBank_eq]
  generalize pendToAct r s = v
  exact (only_bank (commitDone_parts r v)).trans rfl

theorem switchBank_rail (r q : Nat) (s : State) : (switchBank r s).rail q = (s.modRail r fun x => { x with bankErr := false }).rail q := by
  have hp (i : Nat) : (pendToAct r s).rail i = s.rail i := only_rail (pendToAct_only r s) i
  rw [switchBank_eq, only_rail (commitDone_parts r _), rail_modRail, rail_modRail, hp]

theorem switchBank_waits (r : Nat) (hc : s.dev.clkStop = false) : (switchBank r s).Waits 0x63 0 r := by
  have hp : (pendToAct r s).dev = s.dev := only_dev (pendToAct_only r s)
  rw [switchBank_eq]
  exact commitDone_waits r (by rw [hp, hc])

section
variable (hs : swf defaultWord s.bank)
include hs

theorem pendToAct_swf : swf defaultWord (pendToAct r s).bank := setReg_swf (copyRegs_swf hs)

theorem switchBank_swf : swf defaultWord (switchBank r s).bank := by
  rw [switchBank_bank]
  exact pendToAct_swf hs

/-- The active bank holds the pending coefficients, the pending bank what it held; LUTEN goes with them. -/
theorem switchBank_regs : (∀ o ∈ coefOffs, (switchBank r s).actC r o = s.pendC r o) ∧
    (∀ o < 256, (switchBank r s).pendC r o = s.pendC r o) ∧ bit ((switchBank r s).actC r 0x08) 1 = bit (s.pendC r 0x08) 1 := by
  have hreg (k : Nat) : (switchBank r s).reg k = (pendToAct r s).reg k := by rw [State.reg, switchBank_bank]; rfl
  have hpend (o : Nat) (ho : o < 256) : (copyRegs (pendKey r) (actKey r) coefOffs s).reg (pendKey r o) = s.reg (pendKey r o) :=
    copyRegs_reg_ne fun _ _ => pendKey_ne_actKey ho
  refine ⟨fun o ho => ?_, fun o ho => ?_, ?_⟩
  · have h8 : o ≠ 0x08 := by have := mem_coefOffs.1 ho; omega
    refine (hreg (actKey r o)).trans ((reg_setReg_ne ((actKey_injective r).ne h8)).trans ?_)
    exact copyRegs_reg (actKey_injective r) ho (fun _ _ => pendKey_ne_actKey (by have := mem_coefOffs.1 ho; omega)) hs
  · exact (hreg (pendKey r o)).trans ((reg_setReg_ne (pendKey_ne_actKey ho)).trans (hpend o ho))
  · have h := (hreg (actKey r 0x08)).trans (reg_setReg_same (copyRegs_swf hs))
    refine (congrArg (bit · 1) h).trans ((bit_setFld_one _ _).trans ?_)
    exact congrArg (bit · 1) (hpend 0x08 (by decide))

/-- The pending bank holds the active coefficients, the active bank what it held; LUTEN goes with them. -/
theorem copyBank_regs : (∀ o ∈ coefOffs, (copyBank r s).pendC r o = s.actC r o) ∧
    (∀ o, (copyBank r s).actC r o = s.actC r o) ∧ bit ((copyBank r s).pendC r 0x08) 1 = bit (s.actC r 0x08) 1 := by
  have hact (o : Nat) : (copyRegs (actKey r) (pendKey r) coefOffs s).reg (actKey r o) = s.reg (actKey r o) :=
    copyRegs_reg_ne fun a ha => (pendKey_ne_actKey (by have := mem_coefOffs.1 ha; omega)).symm
  rw [copyBank_eq]
  refine ⟨fun o ho => ?_, fun o => ?_, ?_⟩
  · have h8 : o ≠ 0x08 := by have := mem_coefOffs.1 ho; omega
    refine (reg_setReg_ne ((pendKey_injective r).ne h8)).trans ?_
    exact copyRegs_reg (pendKey_injective r) ho
      (fun a ha => (pendKey_ne_actKey (by have := mem_coefOffs.1 ha; omega)).symm) hs
  · exact (reg_setReg_ne (pendKey_ne_actKey (by decide)).symm).trans (hact o)
  · refine (congrArg (bit · 1) (reg_setReg_same (copyRegs_swf hs))).trans ((bit_setFld_one _ _).trans ?_)
    exact congrArg (bit · 1) (hact 0x08)

end

theorem copyBank_only (r : Nat) (s : State) : Only [.bank] s (copyBank r s) := only_trans (copyRegs_only ..) (setReg_only _ _ _)

/-! ### RCOMP_COMMIT (R158, R159) -/

/-- The word of a commit. -/
def commitWord (luten : Bool) : Word := if luten then 3 else 1

theorem effectBlock_rcompCtl (h r : Nat) (old : Word) (luten : Bool) (u : State) :
    effectBlock h ((0x50 + r) * 256 + 0x08) .rcomp old (commitWord luten) u = commitBank r u := by
  have hb : bit (commitWord luten) 0 = true := by cases luten <;> rfl
  simp only [effectBlock]
  rw [page_div, page_mod, hb, Nat.add_sub_cancel_left]
  rfl

theorem rcompCommit_takes {s : State} {h : Fin 3} {r : Fin 16} {luten : Bool} (ht : s.Takes h ((0x50 + r.val) * 256 + 0x08) (commitWord luten)) :
    exec (.rcompCommit h r luten) s = .next (commitBank r
      (s.written h ((0x50 + r.val) * 256 + 0x08) (commitWord luten) (PType.rcomp.rowAt 0x08))) := by
  have hword : pack [(b2n luten, 1), (1, 0)] = commitWord luten := by cases luten <;> rfl
  show Host.Outcome.next (writeCmd h ((0x50 + r.val) * 256 + 0x08) (pack [(b2n luten, 1), (1, 0)]) (s.begin h)) = _
  rw [hword, writeCmd_reg (isReg_of_page (pageType_rcomp r) (by decide) (by decide)) (by simp only [Pg.FC, Reg.FC_LOGSEL]; omega) ht,
    effectBlock_rcompCtl]

theorem rcompCommit_idle {s : State} {h : Fin 3} {r : Fin 16} {luten : Bool} (hs : s.StoresWf)
    (ht : s.Takes h ((0x50 + r.val) * 256 + 0x08) (commitWord luten)) (hp : (s.rail r).pend = false) (hst : (s.rail r).st.running = false) :
    ∃ t, exec (.rcompCommit h r luten) s = .next t ∧ (∀ o ∈ coefOffs, t.actC r o = s.pendC r o ∧ t.pendC r o = s.pendC r o) ∧
      bit (t.actC r 0x08) 1 = luten ∧ bit (t.pendC r 0x08) 1 = luten ∧ (t.rail r).pend = false ∧ OtherRails r s t ∧
      t.Waits 0x63 0 r ∧ t = { s.wrote t with rails := t.rails, cup := t.cup, fc := { s.fc with pend := t.fc.pend } } := by
  obtain ⟨u, hu⟩ : ∃ u, u = s.written h ((0x50 + r.val) * 256 + 0x08) (commitWord luten) (PType.rcomp.rowAt 0x08) := ⟨_, rfl⟩
  obtain ⟨v, hv⟩ : ∃ v, v = switchBank r u := ⟨_, rfl⟩
  have hrail (q : Nat) : u.rail q = s.rail q := by rw [hu]; rfl
  have hus : swf defaultWord u.bank := hu ▸ setReg_swf hs.1
  have hvs : swf defaultWord v.bank := hv ▸ switchBank_swf hus
  have hvo : Only [.bank, .rails, .cup, .msgs] u v := hv ▸ switchBank_only u r
  have hto : Only [.bank] v (copyBank r v) := copyBank_only r v
  have hexec : exec (.rcompCommit h r luten) s = .next (copyBank r v) := by
    rw [rcompCommit_takes ht, ← hu, commitBank, hrail, hp, hst, hv]
    rfl
  have hpend (o : Nat) (ho : o ∈ coefOffs) : u.pendC r o = s.pendC r o := by
    have := mem_coefOffs.1 ho
    rw [hu]
    exact written_reg_ne (by omega)
  have hluten : bit (u.pendC r 0x08) 1 = luten := by
    rw [hu]
    refine (written_bit hs (by decide)).trans ?_
    cases luten <;> rfl
  obtain ⟨hact, -, hbit⟩ := switchBank_regs (r := r) hus
  obtain ⟨hback, hkeep, hbit'⟩ := copyBank_regs (r := r) hvs
  rw [← hv] at hact hbit
  have hrails (q : Nat) : (copyBank r v).rail q = (u.modRail r fun x => { x with bankErr := false }).rail q := by
    rw [only_rail hto, hv]
    exact switchBank_rail r q u
  refine ⟨_, hexec, fun o ho => ⟨?_, ?_⟩, ?_, ?_, ?_, fun q hq => ?_, ?_, ?_⟩
  · rw [hkeep, hact o ho, hpend o ho]
  · rw [hback o ho, hact o ho, hpend o ho]
  · rw [hkeep, hbit, hluten]
  · rw [hbit', hbit, hluten]
  · rw [hrails, rail_modRail_same _ _ _ r.isLt, hrail]
    exact hp
  · rw [hrails, rail_modRail_ne _ _ _ _ hq, hrail]
  · have hw : v.Waits 0x63 0 r := hv ▸ switchBank_waits r (by rw [hu]; exact ht.1.1.2)
    rwa [State.Waits, only_fc hto]
  · exact written_frame [.rails, .cup, .msgs] (hu ▸ only_trans hvo (only_mono hto))

theorem rcompCommit_running {s : State} {h : Fin 3} {r : Fin 16} {luten : Bool}
    (ht : s.Takes h ((0x50 + r.val) * 256 + 0x08) (commitWord luten)) (hp : (s.rail r).pend = false) (hst : (s.rail r).st.running = true) :
    ∃ t, exec (.rcompCommit h r luten) s = .next t ∧ t = { s.wrote t with rails := t.rails } ∧
      SameRegs [(0x50 + r.val) * 256 + 0x08] s t ∧ t.rail r = { s.rail r with pend := true } ∧ OtherRails r s t := by
  obtain ⟨u, hu⟩ : ∃ u, u = s.written h ((0x50 + r.val) * 256 + 0x08) (commitWord luten) (PType.rcomp.rowAt 0x08) := ⟨_, rfl⟩
  have hrail (q : Nat) : u.rail q = s.rail q := by rw [hu]; rfl
  have hexec : exec (.rcompCommit h r luten) s = .next (u.modRail r fun x => { x with pend := true }) := by
    rw [rcompCommit_takes ht, ← hu, commitBank, hrail, hp, hst]
    rfl
  refine ⟨_, hexec, ?_, fun k hk => ?_, ?_, fun q hq => ?_⟩
  · rw [hu]
    exact written_frame [.rails] (only_mono (modRail_only _ r _))
  · rw [reg_modRail_of, hu]
    exact written_sameRegs k hk
  · rw [rail_modRail_same _ _ _ r.isLt, hrail]
  · rw [rail_modRail_ne _ _ _ _ hq, hrail]

/-! ### BANK_SWITCH and BANK_COPY_BACK (R159) -/

theorem bankSwitch_acts {r : Fin 16} {s : State} (hs : s.StoresWf) (hr : s.Runs) (hh : s.eng.haltReq = false) (hp : (s.rail r).pend = true)
    (hc : (s.rail r).copying = false) (hq : s.eng.queue.any (fun q => q.ctx == r.val) = true) :
    ∃ t, exec (.bankSwitch r) s = .next t ∧ (∀ o ∈ coefOffs, t.actC r o = s.pendC r o ∧ t.pendC r o = s.pendC r o) ∧
      (t.rail r).copying = true ∧ (t.rail r).pend = true ∧ OtherRails r s t ∧ t.Waits 0x63 0 r ∧
      t = { s.begin with bank := t.bank, rails := t.rails, cup := t.cup, fc := { s.fc with pend := t.fc.pend } } := by
  obtain ⟨u, hu⟩ : ∃ u, u = s.begin.modRail r fun x => { x with copying := true } := ⟨_, rfl⟩
  have hexec : exec (.bankSwitch r) s = .next (switchBank r u) := by
    refine (next_clocked_of_runs hr).trans ?_
    rw [bankSwitch, if_pos (by simp [hp, hc, hq, hh, hr.1, hr.2]), switchIfPending, if_pos (by simp [hp, hc]), hu]
  have hrails (q : Nat) : (switchBank r u).rail q = (u.modRail r fun x => { x with bankErr := false }).rail q := switchBank_rail r q u
  have hrail : (switchBank r u).rail r = { s.rail r with copying := true, bankErr := false } := by
    rw [hrails, rail_modRail_same _ _ _ r.isLt, hu, rail_modRail_same _ _ _ r.isLt]
    rfl
  have hreg (o : Nat) : u.pendC r o = s.pendC r o := by rw [hu]; rfl
  obtain ⟨hact, hpend, -⟩ := switchBank_regs (r := r.val) (s := u) (hu ▸ hs.1)
  refine ⟨_, hexec, fun o ho => ⟨(hact o ho).trans (hreg o), (hpend o ?_).trans (hreg o)⟩, by rw [hrail], by rw [hrail]; exact hp,
    fun q hq => ?_, switchBank_waits r (hu ▸ hr.2), ?_⟩
  · have := mem_coefOffs.1 ho
    omega
  · rw [hrails, rail_modRail_ne _ _ _ _ hq, hu, rail_modRail_ne _ _ _ _ hq]
    rfl
  · exact eq_take_of_only (l := [.bank, .rails, .cup, .msgs]) (only_then (l := [.rails]) (hu ▸ modRail_only _ _ _) (switchBank_only u r))

theorem bankCopyBack_acts {r : Fin 16} {s : State} (hs : s.StoresWf) (hr : s.Runs) (hc : (s.rail r).copying = true) :
    ∃ t, exec (.bankCopyBack r) s = .next t ∧ (∀ o ∈ coefOffs, t.pendC r o = s.actC r o ∧ t.actC r o = s.actC r o) ∧
      t.rail r = { s.rail r with pend := false, copying := false } ∧ OtherRails r s t ∧
      t = { s.begin with bank := t.bank, rails := t.rails } := by
  obtain ⟨v, hv⟩ : ∃ v, v = copyBank r s.begin := ⟨_, rfl⟩
  have ho : Only [.bank] s.begin v := hv ▸ copyBank_only r _
  have hexec : exec (.bankCopyBack r) s = .next (v.modRail r fun x => { x with pend := false, copying := false }) := by
    refine (next_clocked_of_runs hr).trans ?_
    rw [bankCopyBack, if_pos (by simp [hc, hr.1]), hv]
  obtain ⟨hpend, hact, -⟩ := copyBank_regs (r := r) (s := s.begin) hs.1
  rw [← hv] at hpend hact
  refine ⟨_, hexec, fun o hoff => ⟨hpend o hoff, hact o⟩, ?_, fun q hq => ?_, ?_⟩
  · rw [rail_modRail_same _ _ _ r.isLt, only_rail ho]
    rfl
  · rw [rail_modRail_ne _ _ _ _ hq, only_rail ho]
    rfl
  · exact eq_take_of_only (l := [.bank, .rails]) (only_then ho (modRail_only _ _ _))

end
end Sys2Proof.Machine
end

section
/-! PROOFS: writes of a ripple table; the statement about banks and tables (R197, R201). -/

-- The package as one text: its declarations are elaborated one after another, to hold few threads.
set_option Elab.async false

namespace Sys2Proof.Machine

section
variable {s : State}

theorem effectBlock_rtab (h r off : Nat) (old w : Word) (u : State) (ho : off < 256) :
    effectBlock h ((0x60 + r) * 256 + off) .rtab old w u = effectRtab r off w u := by
  simp only [effectBlock]
  rw [page_div ho, page_mod ho, Nat.add_sub_cancel_left]

/-- An accepted write of a ripple-table page stores its fields and has the register's effect. -/
theorem writeCmd_rtab {h : Fin 3} {r : Fin 16} {off : Nat} {w : Word} (ht : s.Takes h ((0x60 + r.val) * 256 + off) w)
    (ho : 8 ≤ off ∧ off < 255) (hrow : (PType.rtab.rows.find? (·.holds off)).isSome = true) :
    writeCmd h ((0x60 + r.val) * 256 + off) w (s.begin h) =
      effectRtab r off w (s.written h ((0x60 + r.val) * 256 + off) w (PType.rtab.rowAt off)) := by
  rw [writeCmd_reg (isReg_of_page (pageType_rtab r) ho hrow) (by simp only [Pg.FC, Reg.FC_LOGSEL]; omega) ht,
    effectBlock_rtab _ _ _ _ _ _ (by omega)]

/-! ### Two entries written (R197) -/

theorem rtab_rowAt_entry (j : Fin 128) : (PType.rtab.rows.find? (·.holds (0x08 + j.val))).isSome = true ∧
    (PType.rtab.rowAt (0x08 + j.val)).rwBits = BitVec.allOnes 32 ∧ (PType.rtab.rowAt (0x08 + j.val)).w1c = 0 := by
  revert j
  decide

/-- A register of which every bit is RW holds the word written. -/
theorem stored_allOnes {row : RegRow} (hrw : row.rwBits = BitVec.allOnes 32) (hw1 : row.w1c = 0) (old w : Word) : row.stored old w = w := by
  have hall : ~~~ (w &&& BitVec.ofNat 32 0) = BitVec.allOnes 32 := by simp
  rw [RegRow.stored, hrw, hw1, hall, BitVec.and_allOnes, BitVec.and_allOnes]
  simp

/-- The fractions of the two entries of a word are 0. -/
theorem effectRtab_entry (r : Nat) {j : Nat} (hj : j < 128) (w : Word) (u : State) : effectRtab r (0x08 + j) w u =
    (u.setReg (fracKey r (2 * j)) 0).setReg (fracKey r (2 * j + 1)) 0 := by
  have hoff : 2 * (0x08 + j - 8) = 2 * j := by omega
  unfold effectRtab
  rw [if_neg (by omega), if_pos (by omega)]
  dsimp only
  rw [hoff]

theorem rtabEntryWrite_acts {h : Fin 3} {r : Fin 16} {j : Fin 128} {w : Word} (hs : s.StoresWf)
    (ht : s.Takes h ((0x60 + r.val) * 256 + 0x08 + j.val) w) :
    ∃ t, exec (.rtabEntryWrite h r j w) s = .next t ∧ t = s.wrote t ∧
      SameRegs [(0x60 + r.val) * 256 + 0x08 + j.val, fracKey r (2 * j), fracKey r (2 * j + 1)] s t ∧
      tabEntry t r (2 * j) = s16 (fld w 15 0) * 256 ∧ tabEntry t r (2 * j + 1) = s16 (fld w 31 16) * 256 := by
  obtain ⟨hrow, hrw, hw1⟩ := rtab_rowAt_entry j
  have haddr : (0x60 + r.val) * 256 + 0x08 + j.val = (0x60 + r.val) * 256 + (0x08 + j.val) := Nat.add_assoc ..
  rw [haddr] at ht ⊢
  obtain ⟨u, hu⟩ : ∃ u, u = s.written h ((0x60 + r.val) * 256 + (0x08 + j.val)) w (PType.rtab.rowAt (0x08 + j.val)) := ⟨_, rfl⟩
  obtain ⟨t, htd⟩ : ∃ t, t = (u.setReg (fracKey r (2 * j)) 0).setReg (fracKey r (2 * j + 1)) 0 := ⟨_, rfl⟩
  have hus : swf defaultWord u.bank := hu ▸ setReg_swf hs.1
  have hexec : exec (.rtabEntryWrite h r j w) s = .next t := by
    show Host.Outcome.next (writeCmd h ((0x60 + r.val) * 256 + 0x08 + j.val) w (s.begin h)) = _
    rw [haddr, writeCmd_rtab ht (by omega) hrow, effectRtab_entry r j.isLt, ← hu, htd]
  have hreg (k : Nat) (h1 : k ≠ fracKey r (2 * j)) (h2 : k ≠ fracKey r (2 * j + 1)) : t.reg k = u.reg k := by
    rw [htd, reg_setReg_ne h2, reg_setReg_ne h1]
  have hword (i : Nat) (hi : i / 2 = j) : t.reg (entryAddr r i) = w := by
    have ha : entryAddr r i = (0x60 + r.val) * 256 + (0x08 + j.val) := by
      unfold entryAddr
      omega
    rw [ha, hreg _ (by unfold fracKey; omega) (by unfold fracKey; omega), hu, written_reg hs, stored_allOnes hrw hw1]
  have hfrac : t.reg (fracKey r (2 * j)) = 0 ∧ t.reg (fracKey r (2 * j + 1)) = 0 := by
    rw [htd]
    exact ⟨(reg_setReg_ne (by unfold fracKey; omega)).trans (reg_setReg_same hus), reg_setReg_same (setReg_swf hus)⟩
  refine ⟨t, hexec, by rw [htd, hu]; rfl, fun k hk => ?_, ?_, ?_⟩
  · simp only [List.mem_cons, List.not_mem_nil, or_false, not_or] at hk
    obtain ⟨hk, h1, h2⟩ := hk
    rw [hreg k h1 h2, hu, written_reg_ne hk]
  · rw [tabEntry_eq, hword _ (by omega), hfrac.1, entryHalf, if_pos (by omega)]
    exact add_zero _
  · rw [tabEntry_eq, hword _ (by omega), hfrac.2, entryHalf, if_neg (by omega)]
    exact add_zero _

/-! ### A table cleared (R201) -/

/-- The first `n` entries of a table cleared, with their fractions. -/
def zeroEntries (n r : Nat) (s : State) : State := loop n (fun s i => setEntry r i 0 s) s

theorem zeroEntries_succ (n r : Nat) (s : State) : zeroEntries (n + 1) r s = setEntry r n 0 (zeroEntries n r s) := by
  simp only [zeroEntries, loop, List.range_succ, List.foldl_append, List.foldl_cons, List.foldl_nil]

theorem zeroEntries_only (n r : Nat) (s : State) : Only [.bank] s (zeroEntries n r s) := only_loop (fun t i => setEntry_only r i 0 t) n

theorem zeroEntries_swf (hs : swf defaultWord s.bank) (n r : Nat) : swf defaultWord (zeroEntries n r s).bank :=
  foldl_keeps (P := fun t : State => swf defaultWord t.bank) (fun _ _ h => setEntry_swf h 0) _ hs

theorem zeroEntries_tabEntry (hs : swf defaultWord s.bank) {n r : Nat} (hn : n ≤ 256) {i : Nat} (hi : i < n) :
    tabEntry (zeroEntries n r s) r i = 0 := by
  induction n with
  | zero => omega
  | succ n ih =>
    rw [zeroEntries_succ, tabEntry_setEntry (zeroEntries_swf hs n r) (by omega) (by omega) (by decide)]
    split
    · rfl
    · exact ih (by omega) (by omega)

theorem zeroEntries_reg {n r : Nat} (hn : n ≤ 256) {k : Nat} (hk : ¬ TableKey r k) : (zeroEntries n r s).reg k = s.reg k := by
  induction n with
  | zero => rfl
  | succ n ih => rw [zeroEntries_succ, setEntry_reg (by omega) 0 hk, ih (by omega)]

/-- The word of a clear, with the controls of learning. -/
def zeroWord (freeze learn : Bool) : Word := BitVec.ofNat 32 (4 + 2 * freeze.toNat + learn.toNat)

theorem zeroWord_bits (freeze learn : Bool) : bit (zeroWord freeze learn) 2 = true ∧ bit (zeroWord freeze learn) 1 = freeze ∧
    bit (zeroWord freeze learn) 0 = learn ∧ pack [(1, 2), (b2n freeze, 1), (b2n learn, 0)] = zeroWord freeze learn := by
  revert freeze learn
  decide

theorem rtabZero_acts {h : Fin 3} {r : Fin 16} {freeze learn : Bool} (hs : s.StoresWf)
    (ht : s.Takes h ((0x60 + r.val) * 256 + 0x89) (zeroWord freeze learn)) :
    ∃ t, exec (.rtabZero h r freeze learn) s = .next t ∧ t = s.wrote t ∧ (∀ i < 256, tabEntry t r i = 0) ∧
      bit (t.tr r 0x89) 1 = freeze ∧ bit (t.tr r 0x89) 0 = learn ∧
      ∀ k, k / 256 ≠ 0x60 + r.val → (k < fracKey r 0 ∨ fracKey r 256 ≤ k) → t.reg k = s.reg k := by
  obtain ⟨hclear, hfreeze, hlearn, hpack⟩ := zeroWord_bits freeze learn
  obtain ⟨u, hu⟩ : ∃ u, u = s.written h ((0x60 + r.val) * 256 + 0x89) (zeroWord freeze learn) (PType.rtab.rowAt 0x89) := ⟨_, rfl⟩
  have hus : swf defaultWord u.bank := hu ▸ setReg_swf hs.1
  have hexec : exec (.rtabZero h r freeze learn) s = .next (zeroEntries 256 r u) := by
    show Host.Outcome.next (writeCmd h ((0x60 + r.val) * 256 + 0x89) (pack [(1, 2), (b2n freeze, 1), (b2n learn, 0)]) (s.begin h)) = _
    rw [hpack, writeCmd_rtab ht (by decide) (by decide), ← hu, effectRtab, if_pos rfl, if_pos hclear]
    rfl
  have hctl : (zeroEntries 256 r u).tr r 0x89 = u.tr r 0x89 :=
    zeroEntries_reg (le_refl _) (not_tableKey r.isLt (.inr ⟨by omega, by omega⟩))
  refine ⟨_, hexec, ?_, fun i hi => zeroEntries_tabEntry hus (le_refl _) hi, ?_, ?_, fun k hpage hfrac => ?_⟩
  · have ho := zeroEntries_only 256 r u
    generalize zeroEntries 256 r u = t at ho ⊢
    exact written_frame [] (hu ▸ ho)
  · rw [hctl, hu]
    exact (written_bit hs (by decide)).trans hfreeze
  · rw [hctl, hu]
    exact (written_bit hs (by decide)).trans hlearn
  · have hkey : ¬ TableKey r k := by
      rintro ⟨i, hi, rfl | rfl⟩
      · unfold entryAddr at hpage
        omega
      · unfold fracKey at hfrac
        omega
    rw [zeroEntries_reg (le_refl _) hkey, hu, written_reg_ne (by rintro rfl; exact hpage (page_div (by decide)))]

end
end Sys2Proof.Machine

section
open Sys2Proof Sys2Proof.Machine

/-- Settles O21: the words a bank switch and a copy back move, and the entries that a table write and a clear move. -/
theorem banksAndTablesAreWritten : Obligations.BanksAndTablesAreWritten := by
  unfold Obligations.BanksAndTablesAreWritten
  exact ⟨fun h r luten s hs ht hp hst => rcompCommit_idle hs ht hp hst,
    fun h r luten s _ ht hp hst => rcompCommit_running ht hp hst,
    fun r s hs hr hh hp hc hq => bankSwitch_acts hs hr hh hp hc hq,
    fun r s hs hr hc => bankCopyBack_acts hs hr hc,
    fun h r j w s hs ht => rtabEntryWrite_acts hs ht,
    fun h r freeze learn s hs ht => rtabZero_acts hs ht⟩
end
end

section
/-! PROOFS: the queue of the engine: the update served first, parity errors, the utilisation window (R138, R140, R164, R165). -/

-- The package as one text: its declarations are elaborated one after another, to hold few threads.
set_option Elab.async false

namespace Sys2Proof.Machine

section
variable {s : State}

/-! ### The update served first (R140) -/

/-- Place `i` of the queue with `q` is served before place `j` with `x`, or is that place. -/
def ServedBy (i j : Nat) (q x : QItem) : Prop :=
  ctxClass q.ctx < ctxClass x.ctx ∨ (ctxClass q.ctx = ctxClass x.ctx ∧
    (q.at_ < x.at_ ∨ (q.at_ = x.at_ ∧ (q.ctx < x.ctx ∨ (q.ctx = x.ctx ∧ i ≤ j)))))

theorem QItem.before_iff {a b : QItem} : a.before b = true ↔
    ctxClass a.ctx < ctxClass b.ctx ∨ (ctxClass a.ctx = ctxClass b.ctx ∧ (a.at_ < b.at_ ∨ (a.at_ = b.at_ ∧ a.ctx < b.ctx))) := by
  simp [QItem.before]

theorem pickUpdate_eq_none {l : List QItem} (h : pickUpdate l = none) : l = [] := by
  cases l with
  | nil => rfl
  | cons a l =>
    unfold pickUpdate at h
    split at h
    · simp at h
    · split at h <;> simp at h

/-- The update served first stands in the queue, and no other is served before it. -/
theorem pickUpdate_first {l : List QItem} {q : QItem} (h : pickUpdate l = some q) :
    ∃ i : Nat, l[i]? = some q ∧ ∀ (j : Nat) (x : QItem), l[j]? = some x → ServedBy i j q x := by
  have self (i : Nat) (x : QItem) : ServedBy i i x x := .inr ⟨rfl, .inr ⟨rfl, .inr ⟨rfl, le_refl i⟩⟩⟩
  induction l generalizing q with
  | nil => simp [pickUpdate] at h
  | cons a l ih =>
    unfold pickUpdate at h
    split at h
    · next hl =>
      obtain rfl : a = q := by simpa using h
      refine ⟨0, rfl, fun j x hx => ?_⟩
      rw [pickUpdate_eq_none hl] at hx
      cases j with
      | zero =>
        obtain rfl : a = x := by simpa using hx
        exact self 0 a
      | succ j => simp at hx
    · next y hl =>
      obtain ⟨i, hi, hmin⟩ := ih hl
      split at h
      · next hya =>
        obtain rfl : y = q := by simpa using h
        refine ⟨i + 1, hi, fun j x hx => ?_⟩
        cases j with
        | zero =>
          obtain rfl : a = x := by simpa using hx
          have := QItem.before_iff.1 hya
          unfold ServedBy
          omega
        | succ j =>
          have := hmin j x (by simpa using hx)
          unfold ServedBy at this ⊢
          omega
      · next hya =>
        obtain rfl : a = q := by simpa using h
        refine ⟨0, rfl, fun j x hx => ?_⟩
        cases j with
        | zero =>
          obtain rfl : a = x := by simpa using hx
          exact self 0 a
        | succ j =>
          have hxy := hmin j x (by simpa using hx)
          rw [QItem.before_iff] at hya
          unfold ServedBy at hxy ⊢
          omega

/-! ### Parity errors (R164, R165) -/

/-- The queued update that reads the word at a parity address writes no result. -/
def parityDropped (a : Nat) (s : State) : State :=
  match pickUpdate (s.eng.queue.filter fun q => if a < 0x80 then q.ctx == a else ctxRail s q.ctx == some (a - 0x80)) with
  | some q => { s with eng := { s.eng with queue := s.eng.queue.erase q } }
  | none => s

/-- The context of a state word, or the rail of an active bank, is marked. -/
def parityMarked (a : Nat) (s : State) : State :=
  if a < 0x80 then { s with eng := { s.eng with parity := a :: s.eng.parity.filter (· != a) } }
  else s.modRail (a - 0x80) fun x => { x with bankErr := true }

theorem parityError_eq {a : Nat} (hs : s.Runs) (ha : a < 0x90) :
    parityError a s = event Src.ENG_PARITY a (parityMarked a (parityDropped a s)) := by
  unfold parityError
  rw [if_neg (by simp [hs.1, hs.2, ha])]
  rfl

/-- Only the queue of the engine has moved, and nothing has joined it. -/
theorem parityDropped_moves (a : Nat) (s : State) : ∃ l, parityDropped a s = { s with eng := { s.eng with queue := l } } ∧ ∀ q ∈ l, q ∈ s.eng.queue := by
  unfold parityDropped
  split
  · exact ⟨_, rfl, fun q hq => List.mem_of_mem_erase hq⟩
  · exact ⟨_, rfl, fun q hq => hq⟩

/-- What a parity error leaves of engine and rails: its queue at most shorter, and the mark. -/
structure ParityNoted (a : Nat) (s t : State) : Prop where
  parts : Only [.eng, .rails] s t
  eng : t.eng = { s.eng with queue := t.eng.queue, parity := t.eng.parity }
  queue : ∀ q ∈ t.eng.queue, q ∈ s.eng.queue
  word : a < 0x80 → t.rails = s.rails ∧ ∀ c, c ∈ t.eng.parity ↔ c = a ∨ c ∈ s.eng.parity
  coefficient : 0x80 ≤ a → t.eng.parity = s.eng.parity ∧ t.rails = (s.modRail (a - 0x80) fun x => { x with bankErr := true }).rails

theorem parityMarked_notes (a : Nat) (s : State) : ParityNoted a s (parityMarked a (parityDropped a s)) := by
  obtain ⟨l, hl, hmem⟩ := parityDropped_moves a s
  rw [hl]
  unfold parityMarked
  split
  · next h =>
    refine ⟨only_mono (upd_eng s _), rfl, hmem, fun _ => ⟨rfl, fun c => ?_⟩, fun h' => absurd h (by omega)⟩
    by_cases hc : c = a <;> simp [hc]
  · next h =>
    exact ⟨only_then (l := [.eng]) (m := [.rails]) (upd_eng s _) (modRail_only _ _ _), rfl, hmem, fun h' => absurd h' h, fun _ => ⟨rfl, rfl⟩⟩

theorem engineParityError_acts {a : Nat} (hs : s.Runs) (ha : a < 0x90) :
    ∃ t, exec (.engineParityError a) s = .next t ∧ t.Waits 0x61 0 a ∧
      t = { s.msgs t with eng := { s.eng with queue := t.eng.queue, parity := t.eng.parity }, rails := t.rails } ∧
      (∀ q ∈ t.eng.queue, q ∈ s.eng.queue) ∧ (a < 0x80 → t.rails = s.rails ∧ ∀ c, c ∈ t.eng.parity ↔ c = a ∨ c ∈ s.eng.parity) ∧
      (0x80 ≤ a → t.eng.parity = s.eng.parity ∧ t.rail (a - 0x80) = { s.rail (a - 0x80) with bankErr := true } ∧ OtherRails (a - 0x80) s t) := by
  obtain ⟨v, hv⟩ : ∃ v, v = parityMarked a (parityDropped a s.begin) := ⟨_, rfl⟩
  obtain ⟨t, ht⟩ : ∃ t, t = event Src.ENG_PARITY a v := ⟨_, rfl⟩
  have h : ParityNoted a s.begin v := hv ▸ parityMarked_notes a s.begin
  have hvt : Only [.msgs] v t := ht ▸ event_only v _ _
  have heng : t.eng = v.eng := only_eng hvt
  have hrails : t.rails = v.rails := only_rails hvt
  have hexec : exec (.engineParityError a) s = .next t := by
    refine (next_clocked_of_runs hs).trans ?_
    rw [parityError_eq (s := s.begin) hs ha, ht, hv]
  refine ⟨t, hexec, ht ▸ event_waits _ _ ((congrArg Dev.clkStop (only_dev h.parts)).trans hs.2), ?_, fun q hq => ?_, fun ha => ?_, fun ha => ?_⟩
  · have e : t = s.begin.take [.msgs, .eng, .rails] t := eq_take_of_only (only_then (l := [.eng, .rails]) h.parts hvt)
    have he : t.eng = { s.eng with queue := t.eng.queue, parity := t.eng.parity } := heng ▸ h.eng
    rw [← he]
    exact e
  · exact h.queue q (heng ▸ hq)
  · rw [heng, hrails]
    exact h.word ha
  · obtain ⟨hpar, hmark⟩ := h.coefficient ha
    have hrail (q : Nat) : t.rail q = (s.modRail (a - 0x80) fun x => { x with bankErr := true }).rail q := by
      rw [State.rail, hrails, hmark]
      rfl
    rw [heng]
    refine ⟨hpar, ?_, fun q hq => ?_⟩
    · rw [hrail, rail_modRail_same _ _ _ (by omega)]
    · rw [hrail, rail_modRail_ne _ _ _ _ hq]

/-! ### The utilisation window (R138) -/

theorem engUtilWindow_acts (hs : s.Runs) (h : s.eng.winLeft = 0) :
    ∃ t, exec .engUtilWindow s = .next t ∧ t = { s.begin with eng := t.eng } ∧
      t.eng = { s.eng with util := t.eng.util, peak := max s.eng.peak t.eng.util, macs := 0, winLen := fld (s.reg 0x0E0B) 15 0
                           winLeft := fld (s.reg 0x0E0B) 15 0 } ∧
      t.eng.util = toPU16 ((s.eng.macs : Rat) / ((2560 * s.eng.winLen : Nat) : Rat)) := by
  refine ⟨_, (next_clocked_of_runs hs).trans (congrArg Host.Outcome.next (if_neg ?_)), rfl, rfl, rfl⟩
  simp [hs.1, hs.2, h]

/-! ### The engine around an update (R140, R145, R159, R165) -/

/-- A voltage loop's update meets a pending commit first (R159). -/
def committed (c r : Nat) (s : State) : State := if c < 16 then switchAtUpdate r s else s

theorem committed_off {c r : Nat} (h : (s.rail r).pend = false) : committed c r s = s := by
  unfold committed
  split
  · exact switchAtUpdate_off h
  · rfl

/-- The MACs of an update and its latency count (R138, R145). -/
def countUpdate (c latency : Nat) (s : State) : State :=
  { s with eng := { s.eng with
    macs := s.eng.macs + ctxCost s c
    latV := if ctxClass c = 1 then max s.eng.latV (min 65535 latency) else s.eng.latV
    latI := if ctxClass c = 2 then max s.eng.latI (min 65535 latency) else s.eng.latI } }

section
variable {q : QItem} {r : Nat} (hs : s.Runs) (hpick : pickUpdate s.eng.queue = some q) (hrail : ctxRail s q.ctx = some r)
include hs hpick hrail

theorem engineUpdate_eq (lane latency : Nat) (displaced : Bool) : engineUpdate lane latency displaced s =
    if !ctxActive s q.ctx then taken q s else
    let v := committed q.ctx r (taken q s)
    if readsBad v q.ctx r then v else
    let t := perf 0x11 lane (macsLeft s q) (perf 0x10 q.ctx 1 (countUpdate q.ctx latency (updateCtx q.ctx r v)))
    if displaced && !begun s q then perf 0x14 0 1 t else t := by
  have hctx : ctxRail (taken q s) q.ctx = some r := hrail
  unfold engineUpdate
  rw [if_neg (by simp [hs.1, hs.2]), hpick]
  dsimp only
  rw [← taken, hctx]
  rfl

/-- An update that reads no word that fails parity is carried out and counts. -/
theorem engineUpdate_carries (hact : ctxActive s q.ctx = true) (hok : readsBad (committed q.ctx r (taken q s)) q.ctx r = false)
    (lane latency : Nat) (displaced : Bool) :
    Only [.perf] (countUpdate q.ctx latency (updateCtx q.ctx r (committed q.ctx r (taken q s)))) (engineUpdate lane latency displaced s) := by
  rw [engineUpdate_eq hs hpick hrail, if_neg (by simp [hact])]
  dsimp only
  rw [if_neg (by simp [hok])]
  generalize countUpdate q.ctx latency _ = u
  have hp := only_trans (perf_only u 0x10 q.ctx 1) (perf_only _ 0x11 lane (macsLeft s q))
  exact only_ite (only_trans hp (perf_only _ _ _ _)) hp

/-- One that reads such a word, and meets no commit, only leaves the queue. -/
theorem engineUpdate_refuses (hbad : s.eng.parity.contains q.ctx = true ∨ (s.rail r).bankErr = true) (hp : (s.rail r).pend = false)
    (lane latency : Nat) (displaced : Bool) : engineUpdate lane latency displaced s = taken q s := by
  have hoff : committed q.ctx r (taken q s) = taken q s := committed_off hp
  have hreads : readsBad (taken q s) q.ctx r = true := (Bool.or_eq_true _ _).mpr hbad
  rw [engineUpdate_eq hs hpick hrail]
  dsimp only
  rw [hoff, if_pos hreads, ite_self]

end

theorem engineUpdate_refused {q : QItem} {r : Nat} (hs : s.Runs) (hpick : pickUpdate s.eng.queue = some q) (hrail : ctxRail s q.ctx = some r)
    (hbad : s.eng.parity.contains q.ctx = true ∨ (s.rail r).bankErr = true) (hp : (s.rail r).pend = false) (k : Fin 8) (l : Nat) (d : Bool) :
    ∃ t, exec (.engineUpdate l d k) s = .next t ∧
      t = { s.begin none (updateDue s l) with perf := t.perf, eng := { s.eng with queue := s.eng.queue.erase q } } := by
  refine ⟨taken q (s.begin none (updateDue s l)), ?_, rfl⟩
  refine (next_clocked_of_runs hs).trans (congrArg Host.Outcome.next ?_)
  exact engineUpdate_refuses (s := s.begin none (updateDue s l)) hs hpick hrail hbad hp k l d

end
end Sys2Proof.Machine
end

section
/-! PROOFS: an update of a context stays with its rail: what it leaves alone of the other rails and phases and of the engine (R140, R152-R154,
R159, R179, R198-R203, R214-R223, R257-R267). -/

-- The package as one text: its declarations are elaborated one after another, to hold few threads.
set_option Elab.async false

namespace Sys2Proof.Machine

/-- What an update may move: registers, rails, phases, state words, the cupping unit with its buffer, messages and performance counters. -/
abbrev updateParts : List Part := [.bank, .rails, .phases, .eng, .cup, .capt, .perf, .msgs]

/-- Of the rails only `r` has moved, of the phases only those of `r`, of the engine state words alone, and no phase has changed its rail. -/
structure Confined (r : Nat) (s t : State) : Prop where
  parts : Only updateParts s t
  eng : t.eng = { s.eng with ctx := t.eng.ctx, parity := t.eng.parity }
  assigned : ∀ p < 48, railOf t p = railOf s p
  rails : OtherRails r s t
  phases : ∀ p < 48, railOf s p ≠ some r → t.ph p = s.ph p

section
variable {s t u : State} {r p : Nat}

theorem Confined.refl : Confined r s s := ⟨only_refl, rfl, fun _ _ => rfl, fun _ _ => rfl, fun _ _ _ => rfl⟩

theorem Confined.trans (h : Confined r s t) (k : Confined r t u) : Confined r s u := by
  refine ⟨only_trans h.parts k.parts, ?_, fun p hp => (k.assigned p hp).trans (h.assigned p hp),
    fun q hq => (k.rails q hq).trans (h.rails q hq), fun p hp hr => (k.phases p hp (h.assigned p hp ▸ hr)).trans (h.phases p hp hr)⟩
  rw [k.eng, h.eng]

theorem Confined.ite {c : Prop} [Decidable c] (h : Confined r s t) (k : Confined r s u) : Confined r s (if c then t else u) := by
  split
  · exact h
  · exact k

/-- A change of parts that hold no rails, phases, registers or state words. -/
theorem Confined.ofOnly {l : List Part} (h : Only l s t) (hl : l ⊆ [.cup, .capt, .perf, .msgs] := by decide) : Confined r s t := by
  have h : Only [.cup, .capt, .perf, .msgs] s t := only_mono h hl
  exact ⟨only_mono h, by rw [only_eng h], fun p _ => railOf_congr (only_reg h _), fun q _ => only_rail h q, fun p _ _ => only_ph h p⟩

/-- A change of registers that assign no phase. -/
theorem Confined.ofBank (h : Only [.bank] s t) (hk : ∀ p < 48, t.pr p Reg.PH_CFG = s.pr p Reg.PH_CFG) : Confined r s t :=
  ⟨only_mono h, by rw [only_eng h], fun p hp => railOf_congr (hk p hp), fun q _ => only_rail h q, fun p _ _ => only_ph h p⟩

theorem confined_modRail (r : Nat) (s : State) (f : Rail → Rail) : Confined r s (s.modRail r f) :=
  ⟨only_mono (modRail_only s r f), rfl, fun _ _ => rfl, fun _ hq => rail_modRail_ne _ _ _ _ hq, fun _ _ _ => rfl⟩

theorem confined_modPh (hr : railOf s p = some r) (f : Phase → Phase) : Confined r s (s.modPh p f) :=
  ⟨only_mono (modPh_only s p f), rfl, fun _ _ => rfl, fun _ _ => rfl, fun _ _ hq => ph_modPh_ne _ _ _ _ (by rintro rfl; exact hq hr)⟩

theorem confined_setCtx (r c : Nat) (bs : List Block) (s : State) : Confined r s (s.setCtx c bs) :=
  ⟨only_mono (upd_eng s _), rfl, fun _ _ => rfl, fun _ _ => rfl, fun _ _ _ => rfl⟩

theorem confined_zeroCtx (r c : Nat) (s : State) : Confined r s (zeroCtx c s) :=
  ⟨only_mono (zeroCtx_only s c), rfl, fun _ _ => rfl, fun _ _ => rfl, fun _ _ _ => rfl⟩

/-- A fold of steps, each confined where it meets a phase of the rail, over phases of the rail. -/
theorem Confined.foldl {α : Type} {f : State → α → State} (ph : α → Nat)
    (hf : ∀ t a, ph a < 48 → railOf t (ph a) = some r → Confined r t (f t a)) {l : List α}
    (hl : ∀ a ∈ l, ph a < 48 ∧ railOf s (ph a) = some r) : Confined r s (l.foldl f s) := by
  induction l generalizing s with
  | nil => exact .refl
  | cons a l ih =>
    obtain ⟨h48, hr⟩ := hl a (List.mem_cons_self ..)
    have ha := hf s a h48 hr
    refine ha.trans (ih fun b hb => ?_)
    obtain ⟨hb48, hbr⟩ := hl b (List.mem_cons_of_mem _ hb)
    exact ⟨hb48, (ha.assigned _ hb48).trans hbr⟩

theorem of_mem_activeOf (h : p ∈ activeOf s r) : p < 48 ∧ railOf s p = some r := mem_phasesOf.1 (List.mem_filter.1 h).1

/-- A fold of changes of the ACTIVE phases of the rail. -/
theorem confined_foldActive (r : Nat) (s : State) (f : State → Nat → Phase → Phase) :
    Confined r s ((activeOf s r).foldl (fun s p => s.modPh p (f s p)) s) :=
  .foldl id (fun _ _ _ hr => confined_modPh hr _) fun _ h => of_mem_activeOf h

/-! ### DRIP, BRAKE, RAMP (R214, R219-R223) -/

theorem respread_confined (r : Nat) (s : State) : Confined r s (respread r s) := by
  refine .foldl Prod.fst (fun _ _ _ hr => confined_modPh hr _) fun a ha => of_mem_activeOf (r := r) ?_
  exact List.fst_mem_of_mem_zipIdx ha

theorem preloadDrip_confined (r : Nat) (s : State) : Confined r s (preloadDrip r s) := by
  unfold preloadDrip
  extract_lets t
  exact (confined_modRail r s _).trans (.ite (confined_foldActive r t _) .refl)

theorem dripExit_confined (r : Nat) (s : State) : Confined r s (dripExit r s) :=
  .ite ((confined_modRail r s _).trans (preloadDrip_confined r _)) .refl

theorem redecimate_confined (r : Nat) (s : State) : Confined r s (redecimate r s) := by
  unfold redecimate
  exact confined_modRail r s _

theorem activeChanged_confined (r : Nat) (s : State) (failure : Bool) : Confined r s (activeChanged r s failure) := by
  unfold activeChanged
  extract_lets first edge dw t u v w x
  have hu : Confined r s u := (respread_confined r s).trans (confined_modRail r t _)
  have hv : Confined r u v := .ite (redecimate_confined r u) .refl
  have hw : Confined r v w := .ite (confined_modRail r v _) (dripExit_confined r v)
  have hx : Confined r w x := .ite (.ofOnly (perf_only w _ _ _)) .refl
  exact (hu.trans (hv.trans (hw.trans hx))).trans (.ite (.ofOnly (event_only x _ _)) .refl)

theorem joinPhase_confined (hr : railOf s p = some r) : Confined r s (joinPhase p s) := by
  unfold joinPhase
  extract_lets lead
  have hz : railOf (zeroCtx (80 + p) (zeroCtx (32 + p) s)) p = some r := hr
  exact ((confined_zeroCtx r _ s).trans (confined_zeroCtx r _ _)).trans (confined_modPh hz _)

theorem rampAgain_confined (n r : Nat) (s : State) : Confined r s (rampAgain n r s) := by
  unfold rampAgain
  extract_lets t
  have ht : Confined r s t := confined_modRail r s _
  split
  · exact ht
  · refine (ht.trans ?_).trans (activeChanged_confined r _ false)
    exact .foldl id (fun _ _ _ hr => joinPhase_confined hr) fun p hp => mem_phasesOf.1 (List.mem_filter.1 hp).1

theorem limitExit_confined (r : Nat) (s : State) : Confined r s (limitExit r s) :=
  .ite (confined_modRail r s _) ((confined_modRail r s _).trans (rampAgain_confined 0 r _))

theorem preloadStart_confined (r : Nat) (s : State) : Confined r s (preloadStart r s) := by
  unfold preloadStart
  dsimp only
  refine .ite ?_ (confined_modRail r s _)
  exact (confined_modRail r s _).trans (.foldl id (fun _ _ _ hr => confined_modPh hr _) fun _ h => of_mem_activeOf h)

theorem leaveAtUpdate_confined (r : Nat) (s : State) : Confined r s (leaveAtUpdate r s) := by
  unfold leaveAtUpdate
  dsimp only
  refine .ite .refl (.ite (dripExit_confined r s) (.ite ?_ .refl))
  exact (confined_modRail r s _).trans (preloadStart_confined r _)

theorem toBrake_confined (r : Nat) (s : State) : Confined r s (toBrake r s) := by
  unfold toBrake
  extract_lets t u
  have ht : Confined r s t := .ofOnly (cupNow_only s r)
  have hu : Confined r t u := confined_foldActive r t _
  exact (ht.trans hu).trans ((confined_modRail r u _).trans (.ofOnly (event_only _ _ _)))

theorem brakeTest_confined (r : Nat) (e : Int) (s : State) : Confined r s (brakeTest r e s) := by
  unfold brakeTest
  extract_lets x c fell t
  have ht : Confined r s t := confined_modRail r s _
  exact .ite (ht.trans (toBrake_confined r t)) ht

/-! ### The injection (R257-R259, R262, R263, R267) -/

theorem setAlpha_only (step : Bool) (r : Nat) (v : Rat) (s : State) : Only [.cup, .msgs] s (setAlpha step r v s) := by
  unfold setAlpha
  extract_lets lo hi c _ t
  have ht : Only [.cup, .msgs] s t := only_mono (upd_cup s _)
  refine only_ite (only_trans ht (only_mono (upd_cup t _))) (only_trans ht ?_)
  exact only_trans (only_ite (only_mono (event_only t _ _)) only_refl) (only_mono (upd_cup _ _))

theorem adaptStep_only (g : Word) (s : State) : Only [.cup, .msgs] s (adaptStep g s) := only_ite only_refl (setAlpha_only ..)

theorem cupBounds_only (r : Nat) (s : State) : Only [.cup, .msgs] s (cupBounds r s) := by
  unfold cupBounds
  refine only_ite only_refl ?_
  exact only_then (l := [.cup, .msgs]) (only_then (upd_cup s _) (setAlpha_only ..)) (cupAgain_only _)

theorem cupMeasure_only (a b c d : Rat) (s : State) : Only [.cup, .msgs] s (cupMeasure a b c d s) := by
  unfold cupMeasure
  extract_lets x
  refine only_ite (only_mono (upd_cup s _)) (only_ite only_refl (only_ite ?_ (only_mono (upd_cup s _))))
  exact only_then (l := [.cup, .msgs]) (only_trans (only_mono (upd_cup s _)) (adaptStep_only _ _)) (cupRestart_only _)

theorem inject_only (r : Nat) (v : Rat) (s : State) : Only [.cup, .msgs] s (inject r v s).1 := by
  unfold inject
  split
  · exact only_refl
  · extract_lets inc t half cross amp sn x _ u
    split
    · exact only_mono (upd_cup s _)
    · have hu : Only [.cup, .msgs] s u := only_mono (upd_cup s _)
      exact only_trans hu (cupMeasure_only ..)

/-! ### Outputs and tables (R152-R154, R178, R179, R200) -/

theorem emit_confined (hp : p < 48) (hr : railOf s p = some r) (d : Rat) : Confined r s (emit p d s) := by
  have hcfg : ∀ q < 48, (emit p d s).pr q Reg.PH_CFG = s.pr q Reg.PH_CFG := fun q hq =>
    emit_reg (by simp only [cmpAddr, Reg.PH_CFG]; omega) (by simp only [ofsAddr, Reg.PH_CFG]; omega) d s
  refine ⟨only_mono (emit_only p d s), by rw [only_eng (emit_only p d s)], fun q hq => railOf_congr (hcfg q hq),
    fun q _ => only_rail (emit_only p d s) q, fun q _ hq => emit_ph_ne (by rintro rfl; exact hq hr) d s⟩

theorem applyOut_confined (r : Nat) (d : Rat) (s : State) : Confined r s (applyOut r d s) := by
  have hout : Confined r s (s.modRail r fun x => { x with out := d }) := confined_modRail r s _
  rw [applyOut_eq]
  refine .ite (hout.trans ?_) (hout.trans ?_)
  · exact .foldl id (fun _ _ _ hr => confined_modPh hr _) fun _ h => of_mem_activeOf h
  · exact .foldl id (fun _ _ hp hr => emit_confined hp hr _) fun _ h => of_mem_activeOf h

theorem limitVote_confined (side r : Nat) (s : State) : Confined r s (limitVote side r s) := confined_modRail r s _

theorem learnStep_confined (hr : r < 16) (e : Int) (s : State) : Confined r s (learnStep r e s) := by
  have hset (v : Int) (t : State) : Confined r t (setEntry r (learnIndex t r) v t) := by
    refine .ofBank (setEntry_only ..) fun p hp => setEntry_reg (learnIndex_lt t r) v (not_tableKey hr ?_)
    simp only [Reg.PH_CFG]
    omega
  have hwritten (t : State) : Confined r t (learnWritten r e t) := by
    unfold learnWritten
    extract_lets u
    have hu : Confined r t u := hset _ t
    refine .ite (hu.trans (confined_modRail r u _)) (hu.trans ?_)
    exact .trans (.ite .refl (.ofOnly (event_only u _ _))) (confined_modRail r _ _)
  rw [learnStep_eq]
  exact .ite ((confined_modRail r s _).trans (hwritten _)) (confined_modRail r s _)

theorem runCtx_confined (r c : Nat) (pl : Option Rat) (x : Rat) (s : State) : Confined r s (runCtx c pl x s).1 := confined_setCtx r c _ s

/-! ### The updates (R146, R152, R177-R179, R215, R216) -/

theorem vLimited_confined (r : Nat) (x : Rat) (s : State) : Confined r s (vLimited r x s) := by
  unfold vLimited
  dsimp only
  have h := (runCtx_confined r r (some ((s.rail r).limOut - if cascade s r then 0 else dff s r)) x s).trans (runCtx_confined r r none x _)
  refine .ite h (h.trans (.trans ?_ (applyOut_confined r _ _)))
  exact .ite (limitExit_confined r _) (confined_modRail r _ _)

theorem vFree_confined (r : Nat) (x term : Rat) (s : State) : Confined r s (vFree r x term s) := by
  unfold vFree
  dsimp only
  refine .trans ((runCtx_confined r r _ x s).trans (confined_modRail r _ _)) (.ite (limitVote_confined 0 r _) ?_)
  exact .trans (.ite (limitVote_confined _ r _) .refl) (applyOut_confined r _ _)

/-- A pending commit switches without a word of the phases' assignments (R159). -/
theorem switchIfPending_confined (r : Nat) (s : State) : Confined r s (switchIfPending r s) := by
  have hbank (t : State) : Confined r t (pendToAct r t) := by
    refine .ofBank (pendToAct_only r t) fun p hp => ?_
    have hne (o : Nat) : (0x20 + p) * 256 + Reg.PH_CFG ≠ actKey r o := by
      simp only [actKey, bankKey, Reg.PH_CFG]
      omega
    exact (reg_setReg_ne (hne _)).trans (copyRegs_reg_ne fun o _ => hne o)
  have hdone (t : State) : Confined r t (commitDone r t) := (confined_modRail r t _).trans (.ofOnly (commitDone_parts r t))
  unfold switchIfPending
  rw [switchBank_eq]
  exact .ite (.trans (confined_modRail r s _) ((hbank _).trans (hdone _))) .refl

theorem committed_confined (c r : Nat) (s : State) : Confined r s (committed c r s) :=
  .ite (.ite .refl (switchIfPending_confined r s)) .refl

theorem blendInput_confined (r : Nat) (e : Rat) (s : State) : Confined r s (blendInput r e s).1 := by
  unfold blendInput
  split
  · exact .refl
  · dsimp only
    exact confined_modRail r s _

theorem rippleTerm_confined (r : Nat) (s : State) : Confined r s (rippleTerm r s).1 := by
  unfold rippleTerm
  split
  · exact .refl
  · dsimp only
    split <;> dsimp only
    · exact confined_modRail r s _
    · exact .trans (confined_modRail r s _) (confined_modRail r _ _)

/-- The update of a voltage loop, one step after the other. -/
theorem vUpdate_steps (r : Nat) (s : State) : vUpdate r s =
    let a := switchAtUpdate r s
    let b := leaveAtUpdate r (notchUpdate r (sensed r a))
    let c := cupBounds r b
    let d := blendInput r (gained c r (errV c r)) c
    let i := inject r d.2 d.1
    let m := rippleTerm r i.1
    let n := if rtabMode m.1 r = 0 then m.1 else learnStep r (errV c r) m.1
    brakeTest r (errV c r) (if limited n r then vLimited r i.2 n else vFree r i.2 m.2 n) := rfl

theorem vUpdate_confined (hr : r < 16) (s : State) : Confined r s (vUpdate r s) := by
  rw [vUpdate_steps]
  extract_lets a b c d i m n
  have ha : Confined r s a := .ite .refl (switchIfPending_confined r s)
  have hnotch : Confined r (sensed r a) (notchUpdate r (sensed r a)) := .ite .refl (confined_modRail r _ _)
  have hb : Confined r a b := (confined_modRail r a _).trans (hnotch.trans (leaveAtUpdate_confined r _))
  have hc : Confined r b c := .ofOnly (cupBounds_only r b)
  have hd : Confined r c d.1 := blendInput_confined r _ c
  have hi : Confined r d.1 i.1 := .ofOnly (inject_only r _ d.1)
  have hm : Confined r i.1 m.1 := rippleTerm_confined r i.1
  have hn : Confined r m.1 n := .ite .refl (learnStep_confined hr _ m.1)
  have hinputs : Confined r s n := ha.trans (hb.trans (hc.trans (hd.trans (hi.trans (hm.trans hn)))))
  exact (hinputs.trans (.ite (vLimited_confined r _ n) (vFree_confined r _ _ n))).trans (brakeTest_confined r _ _)

theorem computeBounds_confined (r : Nat) (s : State) : Confined r s (computeBounds r s) := by
  unfold computeBounds
  exact confined_modRail r s _

theorem outerUpdate_confined (r : Nat) (s : State) : Confined r s (outerUpdate r s) := by
  unfold outerUpdate
  extract_lets t b i e u e' v w
  have ht : Confined r s t := computeBounds_confined r s
  refine .ite (ht.trans ?_) (ht.trans ?_)
  · exact .trans (runCtx_confined r (16 + r) _ e t) (.trans (confined_modRail r _ _) (applyOut_confined r _ _))
  · have hw : Confined r t w := (runCtx_confined r (16 + r) _ e' t).trans (confined_modRail r v _)
    exact .ite hw (hw.trans (limitVote_confined _ r w))

/-- A current-loop update: the run of its context, the preload dropped, and outside DRIP the phase's set written (R152). -/
theorem currentUpdate_eq (p r : Nat) (s : State) : currentUpdate p r s =
    let run := runCtx (32 + p) ((s.ph p).plC.map (· - dff s r)) ((s.ph p).iref + puI (s.ph p).trim - iOf s p) s
    let t := run.1.modPh p fun x => { x with plC := none }
    if (t.rail r).st == .drip then t else emit p (dlim t r (run.2 + dff s r)) t := rfl

/-- What a balance-trim result leaves in its phase: the trim within `m` and the counts of how long it has stood at a limit (R216). -/
def trimmed (m y : Int) (x : Phase) : Phase :=
  let t := clampI (-m) m y
  let at_ := decide (m ≠ 0) && decide (t.natAbs = m.natAbs)
  let inN := if at_ then 0 else satInc 1024 x.trimIn
  { x with trim := t, trimAt := if at_ then satInc 1024 x.trimAt else 0, trimIn := inN, tsat := x.tsat && inN != 1024 }

theorem balanceUpdate_eq (p r : Nat) (s : State) : balanceUpdate p r s =
    let run := runCtx (80 + p) none (balanceError s p r) s
    run.1.modPh p (trimmed (fld (pmOf run.1 p 0) 31 16 : Nat) (toSPU16 run.2)) := rfl

theorem currentUpdate_confined (hp : p < 48) (hr : railOf s p = some r) : Confined r s (currentUpdate p r s) := by
  rw [currentUpdate_eq]
  extract_lets run t
  have hrun : Confined r s run.1 := runCtx_confined r (32 + p) _ _ s
  have ht : Confined r s t := hrun.trans (confined_modPh ((hrun.assigned p hp).trans hr) _)
  exact .ite ht (ht.trans (emit_confined hp ((ht.assigned p hp).trans hr) _))

theorem balanceUpdate_confined (hp : p < 48) (hr : railOf s p = some r) : Confined r s (balanceUpdate p r s) := by
  rw [balanceUpdate_eq]
  extract_lets run
  have hrun : Confined r s run.1 := runCtx_confined r (80 + p) none _ s
  exact hrun.trans (confined_modPh ((hrun.assigned p hp).trans hr) _)

/-- An update of a context of rail `r` stays with it. -/
theorem updateCtx_confined {c : Nat} (hc : ctxRail s c = some r) (hr : r < 16) : Confined r s (updateCtx c r s) := by
  unfold updateCtx
  unfold ctxRail at hc
  split
  · exact vUpdate_confined hr s
  · next h16 =>
    rw [if_neg h16] at hc
    split
    · exact outerUpdate_confined r s
    · next h32 =>
      rw [if_neg h32] at hc
      split
      · next h80 => exact currentUpdate_confined (by omega) ((if_pos h80).symm.trans hc)
      · next h80 =>
        rw [if_neg h80] at hc
        split at hc
        · exact balanceUpdate_confined (by omega) hc
        · simp at hc

theorem ctxRail_lt {c : Nat} (h : ctxRail s c = some r) : r < 16 := by
  unfold ctxRail at h
  split at h
  · simp only [Option.some.injEq] at h
    omega
  · split at h
    · simp only [Option.some.injEq] at h
      omega
    · split at h
      · exact railOf_lt h
      · split at h
        · exact railOf_lt h
        · simp at h

end
end Sys2Proof.Machine
end

section
/-! PROOFS: an update that the engine carries out leaves its queue and counts, and moves its rail alone (R138, R140, R145, R159, R165). -/

-- The package as one text: its declarations are elaborated one after another, to hold few threads.
set_option Elab.async false

namespace Sys2Proof.Machine

section
variable {s t w : State} {q : QItem} {r : Nat}

theorem ctxCost_congr (h : t.bank = s.bank) (c : Nat) : ctxCost t c = ctxCost s c := by
  have hreg : t.reg = s.reg := by
    unfold State.reg
    rw [h]
  have hrail : ctxRail t c = ctxRail s c := by
    unfold ctxRail
    rw [railOf_of_regs hreg, railOf_of_regs hreg]
  have hact (i o : Nat) : t.actC i o = s.actC i o := congrFun hreg _
  have hrr (i o : Nat) : t.rr i o = s.rr i o := congrFun hreg _
  have htr (i o : Nat) : t.tr i o = s.tr i o := congrFun hreg _
  unfold ctxCost
  rw [hrail]
  simp only [hact, hrr, htr]

/-- What an update of an active context of rail `r` does, where it reads no word that fails parity. -/
structure Carried (q : QItem) (r latency : Nat) (s t : State) : Prop where
  queue : t.eng.queue = s.eng.queue.erase q
  macs : t.eng.macs = s.eng.macs + ctxCost t q.ctx
  latV : t.eng.latV = if ctxClass q.ctx = 1 then max s.eng.latV (min 65535 latency) else s.eng.latV
  latI : t.eng.latI = if ctxClass q.ctx = 2 then max s.eng.latI (min 65535 latency) else s.eng.latI
  rails : OtherRails r s t
  phases : ∀ p, railOf s p ≠ some r → t.ph p = s.ph p
  parts : Only updateParts s t

theorem taken_only (q : QItem) (s : State) : Only [.eng, .perf] s (taken q s) := by
  unfold taken
  extract_lets e t
  exact only_then (l := [.eng]) (m := [.perf]) (upd_eng s _) (modPerf_only (s := t) _)

/-- The bank that an update reads has not failed parity, or a commit that the update meets replaces it (R159, R165). -/
abbrev SoundBank (q : QItem) (r : Nat) (s : State) : Prop :=
  (s.rail r).bankErr = false ∨ (q.ctx < 16 ∧ (s.rail r).pend = true ∧ (s.rail r).copying = false)

/-- A commit that the update of a voltage loop meets clears the error of the bank it leaves. -/
theorem committed_bankErr (hh : s.eng.haltReq = false) (hbank : SoundBank q r s) (hr : r < 16) :
    ((committed q.ctx r s).rail r).bankErr = false := by
  by_cases hswitch : q.ctx < 16 ∧ (s.rail r).pend = true ∧ (s.rail r).copying = false
  · obtain ⟨hc, hpend, hcopy⟩ := hswitch
    rw [committed, if_pos hc, switchAtUpdate, hh, if_neg (by decide), switchIfPending, if_pos (by simp [hpend, hcopy]), switchBank_rail,
      rail_modRail_same _ _ _ hr]
  · have herr : (s.rail r).bankErr = false := hbank.resolve_right hswitch
    have hoff : committed q.ctx r s = s := by
      unfold committed switchAtUpdate switchIfPending
      rw [hh]
      split
      · next hc =>
        refine (if_neg (by decide)).trans (if_neg fun h => hswitch ⟨hc, ?_⟩)
        simpa using h
      · rfl
    rw [hoff, herr]

theorem committed_only (c r : Nat) (s : State) : Only [.bank, .rails, .cup, .msgs] s (committed c r s) :=
  only_ite (only_ite only_refl (switchIfPending_only s r)) only_refl

theorem Confined.ctxRail (h : Confined r s t) (c : Nat) : ctxRail t c = Machine.ctxRail s c := by
  unfold Machine.ctxRail
  split
  · rfl
  · split
    · rfl
    · split
      · exact h.assigned _ (by omega)
      · split
        · exact h.assigned _ (by omega)
        · rfl

theorem engineUpdate_carried (hs : s.Runs) (hh : s.eng.haltReq = false) (hpick : pickUpdate s.eng.queue = some q)
    (hrail : ctxRail s q.ctx = some r) (hact : ctxActive s q.ctx = true) (hpar : s.eng.parity.contains q.ctx = false) (hbank : SoundBank q r s)
    (lane latency : Nat) (displaced : Bool) : Carried q r latency s (engineUpdate lane latency displaced s) := by
  have hr : r < 16 := ctxRail_lt hrail
  obtain ⟨v, hv⟩ : ∃ v, v = committed q.ctx r (taken q s) := ⟨_, rfl⟩
  have hcommit : Confined r (taken q s) v := hv ▸ committed_confined q.ctx r _
  have hctx : ctxRail v q.ctx = some r := (hcommit.ctxRail q.ctx).trans hrail
  have hupd : Confined r (taken q s) (updateCtx q.ctx r v) := hcommit.trans (updateCtx_confined hctx hr)
  have hreads : readsBad v q.ctx r = false := by
    have herr : (v.rail r).bankErr = false := hv ▸ committed_bankErr (s := taken q s) hh hbank hr
    have heng : v.eng = (taken q s).eng := hv ▸ only_eng (committed_only q.ctx r _)
    have hparity : v.eng.parity.contains q.ctx = false := by rwa [heng]
    rw [readsBad, hparity, herr]
    rfl
  have hcount := engineUpdate_carries hs hpick hrail hact (hv ▸ hreads) lane latency displaced
  rw [← hv] at hcount
  generalize updateCtx q.ctx r v = u at hupd hcount
  generalize engineUpdate lane latency displaced s = t at hcount ⊢
  have heng : t.eng = (countUpdate q.ctx latency u).eng := only_eng hcount
  have hreg : t.bank = (countUpdate q.ctx latency u).bank := only_bank hcount
  have hu : u.eng = { (taken q s).eng with ctx := u.eng.ctx, parity := u.eng.parity } := hupd.eng
  refine ⟨?_, ?_, ?_, ?_, fun i hi => ?_, fun p hp => ?_, ?_⟩
  · rw [heng, countUpdate, hu]
    rfl
  · rw [heng, ctxCost_congr (s := u) hreg, countUpdate, hu]
    rfl
  · rw [heng, countUpdate, hu]
    rfl
  · rw [heng, countUpdate, hu]
    rfl
  · exact (only_rail hcount i).trans (hupd.rails i hi)
  · refine (only_ph hcount p).trans ?_
    by_cases h48 : p < 48
    · exact hupd.phases p h48 hp
    · exact (ph_beyond u p (by omega)).trans (ph_beyond _ p (by omega)).symm
  · have hc : Only [.eng] u (countUpdate q.ctx latency u) := upd_eng u _
    exact only_trans (only_mono (taken_only q s)) (only_trans hupd.parts (only_trans (only_mono hc) (only_mono hcount)))

theorem engineUpdate_serves_queue (hs : s.Runs) (hh : s.eng.haltReq = false) (hpick : pickUpdate s.eng.queue = some q)
    (hrail : ctxRail s q.ctx = some r) (hact : ctxActive s q.ctx = true) (hpar : s.eng.parity.contains q.ctx = false) (hbank : SoundBank q r s)
    (k : Fin 8) (l : Nat) (d : Bool) :
    ∃ t, exec (.engineUpdate l d k) s = .next t ∧ t.eng.queue = s.eng.queue.erase q ∧ t.eng.macs = s.eng.macs + ctxCost t q.ctx ∧
      t.eng.latV = (if ctxClass q.ctx = 1 then max s.eng.latV (min 65535 l) else s.eng.latV) ∧
      t.eng.latI = (if ctxClass q.ctx = 2 then max s.eng.latI (min 65535 l) else s.eng.latI) ∧ OtherRails r s t ∧
      (∀ p, railOf s p ≠ some r → t.ph p = s.ph p) ∧ t.dev = s.dev ∧ t.nv = s.nv ∧ t.twin = s.twin ∧ t.gang = s.gang ∧
      t.tripLatch = s.tripLatch ∧ t.ports = s.ports ∧ t.sb = s.sb ∧ t.aux = s.aux ∧ t.grid = s.grid := by
  have h : Carried q r l (s.begin none (updateDue s l)) _ := engineUpdate_carried (s := s.begin none (updateDue s l)) hs hh hpick hrail hact
    hpar hbank k l d
  have hall := only_then (n := .cyc :: .clk :: updateParts) (begin_only (s := s) none (updateDue s l)) h.parts
  refine ⟨_, next_clocked_of_runs hs, h.queue, h.macs, h.latV, h.latI, h.rails, h.phases, ?_⟩
  exact ⟨only_dev hall, only_nv hall, only_twin hall, only_gang hall, only_latch hall, only_ports hall, only_sb hall, only_aux hall,
    only_grid hall⟩

/-- Serving an update that meets no commit and no parity error is the update of its context. -/
theorem exec_serves (hs : s.Serves q r) (k : Fin 8) (l : Nat) (d : Bool) :
    ∃ w t, EngineMoved s w ∧ EngineMoved (updateCtx q.ctx r w) t ∧ exec (.engineUpdate l d k) s = .next t := by
  obtain ⟨hruns, hhalt, hpick, hrail, hact, hpar, herr, hpend⟩ := hs
  obtain ⟨b, hb⟩ : ∃ b, b = s.begin none (updateDue s l) := ⟨_, rfl⟩
  have hbegin : EngineMoved s b := hb ▸ .of_eng (begin_only (s := s) none (updateDue s l))
  have hoff : committed q.ctx r (taken q b) = taken q b := committed_off (hb ▸ hpend)
  have hok : readsBad (taken q b) q.ctx r = false := (Bool.or_eq_false_iff).2 ⟨hb ▸ hpar, hb ▸ herr⟩
  have hcount := engineUpdate_carries (s := b) (hb ▸ hruns) (hb ▸ hpick) (hb ▸ hrail) (hb ▸ hact) (hoff.symm ▸ hok) k l d
  rw [hoff] at hcount
  have hmoved : EngineMoved (updateCtx q.ctx r (taken q b)) (countUpdate q.ctx l (updateCtx q.ctx r (taken q b))) := .of_ctx _ _ rfl rfl
  exact ⟨_, _, hbegin.trans (taken_moved q b), hmoved.trans (.of_eng hcount), hb ▸ next_clocked_of_runs hruns⟩

end
end Sys2Proof.Machine
end

section
/-! PROOFS: the current loop and the balance trim (R152, R154, R215, R216). -/

-- The package as one text: its declarations are elaborated one after another, to hold few threads.
set_option Elab.async false

namespace Sys2Proof.Machine

section
variable {s t u w : State} {r p : Nat}

/-! ### Around an update -/

/-- The state that an update meets is the one its command met, but for the time, the engine and the counters. -/
theorem EngineMoved.eq_with (h : EngineMoved s w) : ∃ a b c d, w = { s with cyc := a, clk := b, eng := c, perf := d } :=
  ⟨_, _, _, _, eq_take_of_only h.parts⟩

/-- A run or preload of any context. -/
theorem runCtx_eq {c : Nat} (hc : ctxRail s c = some r) (pl : Option Rat) (x : Rat) : runCtx c pl x s =
    (s.setCtx c (stageRun pl (stagesOf (s.actC r) (setBase c)) (blocksOf s c) x).1,
      (stageRun pl (stagesOf (s.actC r) (setBase c)) (blocksOf s c) x).2.val) := by
  have hset : setOf s c = stagesOf (s.actC r) (setBase c) := by rw [setOf, hc]
  unfold runCtx
  rw [hset]
  cases pl <;> rfl

theorem ctxRail_outer (hr : r < 16) (s : State) : ctxRail s (16 + r) = some r := by
  rw [ctxRail, if_neg (by omega), if_pos (by omega), Nat.add_sub_cancel_left]

theorem ctxRail_current (hp : p < 48) (s : State) : ctxRail s (32 + p) = railOf s p := by
  rw [ctxRail, if_neg (by omega), if_neg (by omega), if_pos (by omega), Nat.add_sub_cancel_left]

theorem ctxRail_balance (hp : p < 48) (s : State) : ctxRail s (80 + p) = railOf s p := by
  rw [ctxRail, if_neg (by omega), if_neg (by omega), if_neg (by omega), if_pos (by omega), Nat.add_sub_cancel_left]

/-- A set that stands for a phase as it was in `s`, where the change to `t` moved neither its generator nor what a set is taken from. -/
theorem State.Emits.of_gen {b : Bool} {d : Rat} (h : u.Emits t p b d) (hgen : (t.ph p).gen = (s.ph p).gen)
    (hofs : (t.ph p).newOfs = (s.ph p).newOfs) (hset : shadowSet t p = shadowSet s p) : u.Emits s p b d := by
  unfold State.Emits at h ⊢
  rwa [hgen, hofs, hset] at h

/-- What the engine moves around an update touches no set. -/
theorem State.Emits.engine {b : Bool} {d : Rat} (h : u.Emits s p b d) (ht : EngineMoved u t) : t.Emits s p b d := by
  have hph : t.ph p = u.ph p := only_ph ht.parts p
  exact h.later (only_reg ht.parts _) (by rw [hph])

/-! ### The current loop (R152) -/

theorem emit_plC (hp : p < 48) (d : Rat) (s : State) : ((emit p d s).ph p).plC = (s.ph p).plC := by
  have h : (emit p d s).ph p = _ := ph_modPh_same _ _ _ hp
  rw [h]
  rfl

/-- The input of a phase's current loop: the reference share and the trim less the latest current. -/
def currentError (s : State) (p : Nat) : Rat := (s.ph p).iref + puI (s.ph p).trim - iOf s p

/-- The stages of a phase's current loop, run or preloaded with the duty handed over less d_ff. -/
def currentStages (s : State) (r p : Nat) : List Block × Sig :=
  stageRun ((s.ph p).plC.map (· - dff s r)) (stagesOf (s.actC r) 0x64) (blocksOf s (32 + p)) (currentError s p)

/-- What an update of the current loop of phase `p` leaves. -/
structure CurrentServed (r p : Nat) (s t : State) : Prop where
  blocks : blocksOf t (32 + p) = (currentStages s r p).1
  preload : (t.ph p).plC = none
  others : OtherPhases p s t
  rails : t.rails = s.rails
  drip : (s.rail r).st = .drip → t.ph p = { s.ph p with plC := none } ∧ t.bank = s.bank
  emits : (s.rail r).st ≠ .drip → t.Emits s p (topo s r == 1) (dlim s r ((currentStages s r p).2.val + dff s r))

theorem currentUpdate_served (hp : p < 48) (hr : railOf s p = some r) (hs : swf defaultWord s.bank) :
    CurrentServed r p s (currentUpdate p r s) := by
  have hctx : ctxRail s (32 + p) = some r := (ctxRail_current hp s).trans hr
  have hbase : setBase (32 + p) = 0x64 := by
    unfold setBase
    rw [if_neg (by omega), if_neg (by omega), if_pos (by omega)]
  have hrun : runCtx (32 + p) ((s.ph p).plC.map (· - dff s r)) ((s.ph p).iref + puI (s.ph p).trim - iOf s p) s =
      (s.setCtx (32 + p) (currentStages s r p).1, (currentStages s r p).2.val) := by
    rw [runCtx_eq hctx, hbase]
    rfl
  rw [currentUpdate_eq, hrun]
  extract_lets run v
  have hph : v.ph p = { s.ph p with plC := none } := ph_modPh_same _ _ _ hp
  have hother : OtherPhases p s v := fun q hq => ph_modPh_ne _ _ _ _ hq
  have hblocks : blocksOf v (32 + p) = (currentStages s r p).1 := blocksOf_setCtx (by omega) s _
  have hboost : boostOf v p = (topo s r == 1) := by
    have hv : railOf v p = some r := hr
    rw [boostOf, hv]
    rfl
  split
  · next hd =>
    have hd : (s.rail r).st = .drip := eq_of_beq hd
    exact ⟨hblocks, by rw [hph], hother, rfl, fun _ => ⟨hph, rfl⟩, fun hn => absurd hd hn⟩
  · next hd =>
    have hd : (s.rail r).st ≠ .drip := fun h => hd (beq_iff_eq.2 h)
    obtain ⟨d, hdlim⟩ : ∃ d, d = dlim s r ((currentStages s r p).2.val + dff s r) := ⟨_, rfl⟩
    have hout : dlim v r (run.2 + dff s r) = d := hdlim.symm
    rw [hout]
    have hparts := emit_only p d v
    have hem := emit_emits hp (s := v) hs d
    refine ⟨(blocksOf_congr (only_eng hparts) _).trans hblocks, ?_, fun q hq => (emit_ph_ne hq d v).trans (hother q hq), (only_rails hparts).trans rfl,
      fun h => absurd h hd, fun _ => ?_⟩
    · rw [emit_plC hp, hph]
    · rw [hboost] at hem
      exact hdlim ▸ hem.of_gen (by rw [hph]) (by rw [hph]) rfl

theorem CurrentServed.of_moved (hw : EngineMoved s w) (h : CurrentServed r p w u) : CurrentServed r p s u := by
  have hblocks := hw.blocks
  obtain ⟨cyc, clk, eng, perf, rfl⟩ := hw.eq_with
  have hst : currentStages { s with cyc := cyc, clk := clk, eng := eng, perf := perf } r p = currentStages s r p := by
    unfold currentStages
    rw [hblocks]
    rfl
  obtain ⟨hb, hpl, ho, hrails, hdrip, hem⟩ := h
  rw [hst] at hb hem
  exact ⟨hb, hpl, ho, hrails, hdrip, hem⟩

theorem CurrentServed.later (h : CurrentServed r p s u) (ht : EngineMoved u t) : CurrentServed r p s t := by
  have hph (q : Nat) : t.ph q = u.ph q := only_ph ht.parts q
  refine ⟨(ht.blocks _).trans h.blocks, (congrArg Phase.plC (hph p)).trans h.preload, fun q hq => (hph q).trans (h.others q hq),
    (only_rails ht.parts).trans h.rails, fun hd => ?_, fun hd => (h.emits hd).engine ht⟩
  obtain ⟨h1, h2⟩ := h.drip hd
  exact ⟨(hph p).trans h1, (only_bank ht.parts).trans h2⟩

theorem exec_currentUpdate {q : QItem} (hwf : s.StoresWf) (hs : s.Serves q r) (hq : q.ctx = 32 + p) (hp : p < 48) (k : Fin 8) (l : Nat)
    (d : Bool) : ∃ t, exec (.engineUpdate l d k) s = .next t ∧ CurrentServed r p s t := by
  obtain ⟨w, t, hw, ht, hexec⟩ := exec_serves hs k l d
  obtain ⟨-, -, -, hctx, -⟩ := hs
  have hrail : railOf s p = some r := (ctxRail_current hp s).symm.trans (hq ▸ hctx)
  have hupd : updateCtx q.ctx r w = currentUpdate p r w := by
    rw [hq, updateCtx, if_neg (by omega), if_neg (by omega), if_pos (by omega), Nat.add_sub_cancel_left]
  have hwrail : railOf w p = some r := (railOf_congr (only_reg hw.parts _)).trans hrail
  rw [hupd] at ht
  exact ⟨t, hexec, ((currentUpdate_served hp hwrail (only_bank_swf hw.parts hwf.1)).of_moved hw).later ht⟩

/-! ### The balance trim (R215, R216) -/

/-- The stages of a phase's balance trim. -/
def balanceStages (s : State) (r p : Nat) : List Block × Sig :=
  runStages (stagesOf (s.actC r) 0x8E) (blocksOf s (80 + p)) (sigOf (balanceError s p r))

/-- What an update of the balance trim of phase `p` leaves. -/
structure BalanceServed (r p : Nat) (s t : State) : Prop where
  bank : t.bank = s.bank
  rails : t.rails = s.rails
  others : OtherPhases p s t
  blocks : blocksOf t (80 + p) = (balanceStages s r p).1
  trim : (t.ph p).trim =
    clampI (-(fld (pmOf s p 0) 31 16 : Nat)) (fld (pmOf s p 0) 31 16 : Nat) (toSPU16 (balanceStages s r p).2.val)
  gen : (t.ph p).gen = (s.ph p).gen

theorem balanceUpdate_served (hp : p < 48) (hr : railOf s p = some r) : BalanceServed r p s (balanceUpdate p r s) := by
  have hctx : ctxRail s (80 + p) = some r := (ctxRail_balance hp s).trans hr
  have hbase : setBase (80 + p) = 0x8E := by
    unfold setBase
    rw [if_neg (by omega), if_neg (by omega), if_neg (by omega)]
  have hrun : runCtx (80 + p) none (balanceError s p r) s =
      (s.setCtx (80 + p) (balanceStages s r p).1, (balanceStages s r p).2.val) := by
    rw [runCtx_eq hctx, hbase]
    rfl
  rw [balanceUpdate_eq, hrun]
  extract_lets run
  have hph : (run.1.modPh p (trimmed (fld (pmOf run.1 p 0) 31 16 : Nat) (toSPU16 run.2))).ph p = _ := ph_modPh_same _ _ _ hp
  refine ⟨rfl, rfl, fun q hq => ph_modPh_ne _ _ _ _ hq, blocksOf_setCtx (by omega) s _, ?_, ?_⟩
  · rw [hph]
    rfl
  · rw [hph]
    rfl

theorem BalanceServed.of_moved (hw : EngineMoved s w) (h : BalanceServed r p w u) : BalanceServed r p s u := by
  have hblocks := hw.blocks
  obtain ⟨cyc, clk, eng, perf, rfl⟩ := hw.eq_with
  have hst : balanceStages { s with cyc := cyc, clk := clk, eng := eng, perf := perf } r p = balanceStages s r p := by
    unfold balanceStages
    rw [hblocks]
    rfl
  obtain ⟨hbank, hrails, ho, hb, ht, hg⟩ := h
  rw [hst] at hb ht
  exact ⟨hbank, hrails, ho, hb, ht, hg⟩

theorem BalanceServed.later (h : BalanceServed r p s u) (ht : EngineMoved u t) : BalanceServed r p s t := by
  have hph (q : Nat) : t.ph q = u.ph q := only_ph ht.parts q
  exact ⟨(only_bank ht.parts).trans h.bank, (only_rails ht.parts).trans h.rails, fun q hq => (hph q).trans (h.others q hq),
    (ht.blocks _).trans h.blocks, (congrArg Phase.trim (hph p)).trans h.trim, (congrArg Phase.gen (hph p)).trans h.gen⟩

theorem exec_balanceUpdate {q : QItem} (hs : s.Serves q r) (hq : q.ctx = 80 + p) (hp : p < 48) (k : Fin 8) (l : Nat) (d : Bool) :
    ∃ t, exec (.engineUpdate l d k) s = .next t ∧ BalanceServed r p s t := by
  obtain ⟨w, t, hw, ht, hexec⟩ := exec_serves hs k l d
  obtain ⟨-, -, -, hctx, -⟩ := hs
  have hrail : railOf s p = some r := (ctxRail_balance hp s).symm.trans (hq ▸ hctx)
  have hupd : updateCtx q.ctx r w = balanceUpdate p r w := by
    rw [hq, updateCtx, if_neg (by omega), if_neg (by omega), if_neg (by omega), Nat.add_sub_cancel_left]
  have hwrail : railOf w p = some r := (railOf_congr (only_reg hw.parts _)).trans hrail
  rw [hupd] at ht
  exact ⟨t, hexec, ((balanceUpdate_served hp hwrail).of_moved hw).later ht⟩

end
end Sys2Proof.Machine
end

section
/-! PROOFS: the outer limiter (R177, R179), and what serves every update (R138-R165). -/

-- The package as one text: its declarations are elaborated one after another, to hold few threads.
set_option Elab.async false

namespace Sys2Proof.Machine

section
variable {s t u w : State} {r p : Nat}

/-! ### The bounds (R177) -/

/-- A bound of a rail's current, of its current limit and its power limit (R177). -/
def currentBound (s : State) (r i p : Nat) : Rat := if p = 0xFFFF then pu i else pu (min i (toPU16 (pu p / powerV s r)))

def highBound (s : State) (r : Nat) : Rat := currentBound s r (fld (s.rr r 0x25) 31 16) (fld (s.rr r 0x26) 31 16)
def lowBound (s : State) (r : Nat) : Rat := -currentBound s r (fld (s.rr r 0x25) 15 0) (fld (s.rr r 0x26) 15 0)

theorem computeBounds_rail (hr : r < 16) (s : State) : ∃ cap use cfg, (computeBounds r s).rail r =
    { s.rail r with hi := highBound s r, lo := lowBound s r, cap := cap, capUse := use, limCfg := cfg } :=
  ⟨_, _, _, rail_modRail_same _ _ _ hr⟩

/-- What an outer-limiter update leaves of its rail, with the result `v`. -/
def OuterRail (r : Nat) (v : Rat) (s t : State) : Prop :=
  ∃ cnt side, t.rail r = { (computeBounds r s).rail r with plL := none, limOut := v, out := v, limCnt := cnt, limSide := side }

theorem OuterRail.bounds {v : Rat} (h : OuterRail r v s t) : boundsOf t r = boundsOf (computeBounds r s) r := by
  obtain ⟨cnt, side, h⟩ := h
  unfold boundsOf
  rw [h]

/-! ### The stages (R179) -/

/-- The limiter runs in LIMIT, and is preloaded with the rail's output else. -/
def outerPreload (s : State) (r : Nat) : Option Rat := if limited s r then (s.rail r).plL else some (s.rail r).out

def outerError (s : State) (r : Nat) (b : Rat × Rat) : Rat :=
  (if (if limited s r then (s.rail r).limdir ≠ 2 else 0 ≤ (s.rail r).out) then b.1 else b.2) - puI (s.rail r).irail

def outerStages (s : State) (r : Nat) (b : Rat × Rat) : List Block × Sig :=
  stageRun (outerPreload s r) (stagesOf (s.actC r) 0x3A) (blocksOf s (16 + r)) (outerError s r b)

/-- The limiter's result: of its stages in LIMIT, the rail's output else. -/
def outerResult (s : State) (r : Nat) (b : Rat × Rat) : Rat :=
  if limited s r then (if cascade s r then puI (toSPU16 (outerStages s r b).2.val) else (outerStages s r b).2.val) else (s.rail r).out

/-- What an update of the outer limiter of rail `r` leaves. -/
structure OuterServed (r : Nat) (s t : State) : Prop where
  hi : (t.rail r).hi = highBound s r
  lo : (t.rail r).lo = lowBound s r
  blocks : blocksOf t (16 + r) = (outerStages s r (boundsOf t r)).1
  preload : (t.rail r).plL = none
  limOut : (t.rail r).limOut = outerResult s r (boundsOf t r)
  out : (t.rail r).out = outerResult s r (boundsOf t r)
  free : limited s r = false → t.phases = s.phases ∧ t.bank = s.bank
  sets : limited s r = true → cascade s r = false →
    ∀ p ∈ activeOf s r, t.Emits s p (topo s r == 1) (dlim s r ((t.rail r).out + puI (s.ph p).trim))
  shares : limited s r = true → cascade s r = true → sumR ((activeOf s r).map (phBase s)) ≠ 0 → ∀ p ∈ activeOf s r,
    (t.ph p).iref = puI (toSPU16 ((t.rail r).out * railBase s r / sumR ((activeOf s r).map (phBase s))))

/-- The state in which the result `v` of the limiter, with state words `bs`, is handed over. -/
def outerReady (r : Nat) (bs : List Block) (v : Rat) (s : State) : State :=
  ((computeBounds r s).setCtx (16 + r) bs).modRail r fun x => { x with plL := none, limOut := v }

theorem outerReady_rail (hr : r < 16) (bs : List Block) (v : Rat) (s : State) :
    (outerReady r bs v s).rail r = { (computeBounds r s).rail r with plL := none, limOut := v } := rail_modRail_same _ _ _ hr

theorem outerStages_limited (h : limited s r = true) (b : Rat × Rat) : outerStages s r b =
    stageRun (s.rail r).plL (stagesOf (s.actC r) 0x3A) (blocksOf s (16 + r))
      ((if (s.rail r).limdir = 2 then b.2 else b.1) - puI (s.rail r).irail) := by
  unfold outerStages outerPreload outerError
  simp only [h, if_true, ne_eq, ite_not]

theorem outerStages_free (h : limited s r = false) (b : Rat × Rat) : outerStages s r b =
    stageRun (some (s.rail r).out) (stagesOf (s.actC r) 0x3A) (blocksOf s (16 + r))
      ((if 0 ≤ (s.rail r).out then b.1 else b.2) - puI (s.rail r).irail) := by
  unfold outerStages outerPreload outerError
  simp only [h, Bool.false_eq_true, if_false]

/-- The update of the limiter, by whether it limits the rail. -/
theorem outerUpdate_eq (hr : r < 16) (s : State) : ∃ side, outerUpdate r s =
    let b := boundsOf (computeBounds r s) r
    let v := outerReady r (outerStages s r b).1 (outerResult s r b) s
    if limited s r then applyOut r (outerResult s r b) v else if cascade s r then v else limitVote side r v := by
  obtain ⟨cap, use, cfg, hm⟩ := computeBounds_rail hr s
  have hlim : limited (computeBounds r s) r = limited s r := by
    unfold limited
    rw [hm]
  have hrun := runCtx_eq (s := computeBounds r s) (ctxRail_outer hr _)
  have hplL : ((computeBounds r s).rail r).plL = (s.rail r).plL := by rw [hm]
  have hlimdir : ((computeBounds r s).rail r).limdir = (s.rail r).limdir := by rw [hm]
  have hirail : ((computeBounds r s).rail r).irail = (s.rail r).irail := by rw [hm]
  have hout : ((computeBounds r s).rail r).out = (s.rail r).out := by rw [hm]
  have hbase : setBase (16 + r) = 0x3A := by
    unfold setBase
    rw [if_neg (by omega), if_pos (by omega)]
  unfold outerUpdate
  dsimp only
  rw [hlim, hplL, hlimdir, hirail, hout, hrun, hrun, hbase]
  unfold outerResult
  cases h : limited s r with
  | true =>
    rw [outerStages_limited h]
    exact ⟨0, rfl⟩
  | false =>
    rw [outerStages_free h]
    exact ⟨_, rfl⟩

/-- Where the rail, its state words and its output are as the limiter leaves them. -/
theorem OuterRail.served (hr : r < 16) {b : Rat × Rat} (hb : b = boundsOf (computeBounds r s) r) (h : OuterRail r (outerResult s r b) s t)
    (hblocks : blocksOf t (16 + r) = (outerStages s r b).1) (hfree : limited s r = false → t.phases = s.phases ∧ t.bank = s.bank)
    (hsets : limited s r = true → cascade s r = false →
      ∀ p ∈ activeOf s r, t.Emits s p (topo s r == 1) (dlim s r (outerResult s r b + puI (s.ph p).trim)))
    (hshares : limited s r = true → cascade s r = true → sumR ((activeOf s r).map (phBase s)) ≠ 0 → ∀ p ∈ activeOf s r,
      (t.ph p).iref = puI (toSPU16 (outerResult s r b * railBase s r / sumR ((activeOf s r).map (phBase s))))) : OuterServed r s t := by
  have hbounds : boundsOf t r = b := h.bounds.trans hb.symm
  obtain ⟨cap, use, cfg, hm⟩ := computeBounds_rail hr s
  obtain ⟨cnt, side, hrail⟩ := h
  have hout : (t.rail r).out = outerResult s r b := by rw [hrail]
  refine ⟨?_, ?_, hbounds.symm ▸ hblocks, ?_, ?_, hbounds.symm ▸ hout, hfree, hout.symm ▸ hsets, hout.symm ▸ hshares⟩
  · rw [hrail, hm]
  · rw [hrail, hm]
  · rw [hrail]
  · rw [hrail, hbounds]

theorem outerUpdate_served (hr : r < 16) (hs : swf defaultWord s.bank) : OuterServed r s (outerUpdate r s) := by
  obtain ⟨side, h⟩ := outerUpdate_eq hr s
  obtain ⟨b, hb⟩ : ∃ b, b = boundsOf (computeBounds r s) r := ⟨_, rfl⟩
  obtain ⟨v, hv⟩ : ∃ v, v = outerReady r (outerStages s r b).1 (outerResult s r b) s := ⟨_, rfl⟩
  have hvrail : v.rail r = { (computeBounds r s).rail r with plL := none, limOut := outerResult s r b } := hv ▸ outerReady_rail hr _ _ s
  have hvbank : v.bank = s.bank := hv ▸ rfl
  have hvblocks : blocksOf v (16 + r) = (outerStages s r b).1 := hv ▸ blocksOf_setCtx (by omega) (computeBounds r s) _
  dsimp only at h
  rw [← hb, ← hv] at h
  rw [h]
  cases hl : limited s r with
  | true =>
    rw [if_pos rfl]
    have hparts := applyOut_only r (outerResult s r b) v
    refine OuterRail.served hr hb ?_ ((blocksOf_congr (only_eng hparts) _).trans hvblocks) (fun hf => absurd (hl.symm.trans hf) (by decide))
      (fun _ hc p hp => ?_) (fun _ hc h0 p hp => ?_)
    · refine ⟨((computeBounds r s).rail r).limCnt, ((computeBounds r s).rail r).limSide, ?_⟩
      rw [applyOut_rail hr, hvrail]
    · subst hv
      exact (applyOut_emits (s := outerReady r _ _ s) hr hs hc _ hp).of_same rfl rfl
    · subst hv
      exact applyOut_iref (s := outerReady r _ _ s) hc _ h0 hp
  | false =>
    rw [if_neg (by decide)]
    have hlim := limitVote_only side r v
    have hout : ((computeBounds r s).rail r).out = outerResult s r b := by
      obtain ⟨cap, use, cfg, hm⟩ := computeBounds_rail hr s
      rw [outerResult, hl, hm]
      rfl
    have hsame : Only [.rails] v (if cascade s r then v else limitVote side r v) := only_ite only_refl hlim
    refine OuterRail.served hr hb ?_ ((blocksOf_congr (only_eng hsame) _).trans hvblocks)
      (fun _ => ⟨(only_phases hsame).trans (hv ▸ rfl), (only_bank hsame).trans hvbank⟩) (fun ht => absurd (hl.symm.trans ht) (by decide))
      (fun ht => absurd (hl.symm.trans ht) (by decide))
    split
    · refine ⟨((computeBounds r s).rail r).limCnt, ((computeBounds r s).rail r).limSide, ?_⟩
      rw [hvrail, ← hout]
    · obtain ⟨cnt, sd, hvote⟩ := limitVote_rail hr side v
      refine ⟨cnt, sd, ?_⟩
      rw [hvote, hvrail, ← hout]

theorem outerStages_congr (hw : EngineMoved s w) (b : Rat × Rat) : outerStages w r b = outerStages s r b := by
  have hblocks := hw.blocks
  obtain ⟨cyc, clk, eng, perf, rfl⟩ := hw.eq_with
  unfold outerStages
  rw [hblocks]
  rfl

theorem outerResult_congr (hw : EngineMoved s w) (b : Rat × Rat) : outerResult w r b = outerResult s r b := by
  unfold outerResult
  rw [outerStages_congr hw]
  obtain ⟨cyc, clk, eng, perf, rfl⟩ := hw.eq_with
  rfl

theorem OuterServed.of_moved (hw : EngineMoved s w) (h : OuterServed r w u) : OuterServed r s u := by
  obtain ⟨hhi, hlo, hb, hpl, hlimOut, hout, hfree, hsets, hshares⟩ := h
  rw [outerStages_congr hw] at hb
  rw [outerResult_congr hw] at hlimOut hout
  obtain ⟨cyc, clk, eng, perf, rfl⟩ := hw.eq_with
  exact ⟨hhi, hlo, hb, hpl, hlimOut, hout, hfree, hsets, hshares⟩

theorem OuterServed.later (h : OuterServed r s u) (ht : EngineMoved u t) : OuterServed r s t := by
  have hrail : t.rail r = u.rail r := only_rail ht.parts r
  have hbounds : boundsOf t r = boundsOf u r := by
    unfold boundsOf
    rw [hrail]
  obtain ⟨hhi, hlo, hb, hpl, hlimOut, hout, hfree, hsets, hshares⟩ := h
  rw [← hrail] at hhi hlo hpl hlimOut hout hsets hshares
  rw [← hbounds] at hb hlimOut hout
  refine ⟨hhi, hlo, (ht.blocks _).trans hb, hpl, hlimOut, hout, fun hl => ?_, fun hl hc p hp => (hsets hl hc p hp).engine ht,
    fun hl hc h0 p hp => (congrArg Phase.iref (only_ph ht.parts p)).trans (hshares hl hc h0 p hp)⟩
  obtain ⟨hph, hbank⟩ := hfree hl
  exact ⟨(only_phases ht.parts).trans hph, (only_bank ht.parts).trans hbank⟩

theorem exec_outerUpdate {q : QItem} (hwf : s.StoresWf) (hs : s.Serves q r) (hq : q.ctx = 16 + r) (hr : r < 16) (k : Fin 8) (l : Nat)
    (d : Bool) : ∃ t, exec (.engineUpdate l d k) s = .next t ∧ OuterServed r s t := by
  obtain ⟨w, t, hw, ht, hexec⟩ := exec_serves hs k l d
  have hupd : updateCtx q.ctx r w = outerUpdate r w := by
    rw [hq, updateCtx, if_neg (by omega), if_pos (by omega)]
  rw [hupd] at ht
  exact ⟨t, hexec, ((outerUpdate_served hr (only_bank_swf hw.parts hwf.1)).of_moved hw).later ht⟩

end
end Sys2Proof.Machine

section
open Sys2Proof Sys2Proof.Machine

/-- Settles O41: the pick is an induction on the queue; an update carried out is confined to its rail; and each of the three updates
with results of its own is stated of the update, then carried over the command around it. -/
theorem engineServesItsQueue : Obligations.EngineServesItsQueue := by
  unfold Obligations.EngineServesItsQueue
  refine ⟨fun l q h => pickUpdate_first h, fun k l d q r s hs hh hpick hrail hact hpar hbank => ?_, fun a s hs ha => engineParityError_acts hs ha,
    fun s hs h0 => engUtilWindow_acts hs h0, fun k l d q r s hs hh hpick hrail hbad hp => engineUpdate_refused hs hpick hrail hbad hp k l d,
    fun k l d q r p s hwf hs hq hp => ?_, fun k l d q r s bd hwf hs hq hr hbd => ?_, fun k l d q r p s hwf hs hq hp => ?_, fun p s h => ?_⟩
  · exact engineUpdate_serves_queue hs hh hpick hrail hact hpar hbank k l d
  · obtain ⟨t, hexec, h⟩ := exec_currentUpdate hwf hs hq hp k l d
    refine ⟨t, _, currentStages s r p, hexec, rfl, ?_, h.blocks, h.preload, h.others, h.rails, ?_⟩
    · unfold currentStages
      cases (s.ph p).plC <;> rfl
    · split
      · next hd => exact h.drip hd
      · next hd => exact h.emits hd
  · obtain ⟨t, hexec, h⟩ := exec_outerUpdate hwf hs hq hr k l d
    have hbound (i w : Nat) : bd i w = currentBound s r i w := hbd i w
    refine ⟨t, _, outerStages s r (boundsOf t r), outerResult s r (boundsOf t r), hexec, ?_, ?_, rfl, ?_, h.blocks, h.preload, rfl, h.limOut,
      h.out, h.free, h.out ▸ h.sets, h.out ▸ h.shares⟩
    · rw [hbound]
      exact h.hi
    · rw [hbound]
      exact h.lo
    · unfold outerStages outerPreload
      cases (if limited s r then (s.rail r).plL else some (s.rail r).out) <;> rfl
  · obtain ⟨t, hexec, h⟩ := exec_balanceUpdate hs hq hp k l d
    refine ⟨t, balanceError s p r, balanceStages s r p, hexec, h.bank, h.rails, h.others, ?_, rfl, h.blocks, h.trim, h.gen⟩
    unfold balanceError
    simp only [Bool.or_eq_true, beq_iff_eq, decide_eq_true_eq, or_assoc]
  · unfold iOf
    simp only [h, Bool.false_eq_true, if_false]

end
end

section
/-! PROOFS: operations that move listed rails alone: to OFF, stop, start, restart (R172, R173, R180, R183). -/

-- The package as one text: its declarations are elaborated one after another, to hold few threads.
set_option Elab.async false

namespace Sys2Proof.Machine

/-! ### Lists -/

theorem any_congr_of_mem {α : Type} {xs : List α} {f g : α → Bool} (h : ∀ a ∈ xs, f a = g a) : xs.any f = xs.any g := by
  simpa using congrArg (fun ys : List Bool => ys.any id) (List.map_congr_left h)

theorem all_congr_of_mem {α : Type} {xs : List α} {f g : α → Bool} (h : ∀ a ∈ xs, f a = g a) : xs.all f = xs.all g := by
  rw [List.all_eq_not_any_not, any_congr_of_mem fun a ha => congrArg (!·) (h a ha), ← List.all_eq_not_any_not]

/-! ### Only listed rails move -/

/-- What taking a rail to OFF or issuing its start may move, and the domains beside it. -/
abbrev railParts : List Part := .nv :: .doms :: stopParts

/-- Of the rails only those of `l` have moved, of the phases only those of these rails, of the engine its queue alone, and of the registers
none but those of active banks. -/
structure MovesRails (l : List Nat) (s t : State) : Prop where
  parts : Only railParts s t
  eng : t.eng = { s.eng with queue := t.eng.queue }
  regs : ∀ k < 524288, t.reg k = s.reg k
  rails : ∀ q, q ∉ l → t.rail q = s.rail q
  phases : ∀ p < 48, (∀ r ∈ l, railOf s p ≠ some r) → t.ph p = s.ph p

section
variable {l m : List Nat} {s t u : State} {r q : Nat}

theorem MovesRails.refl : MovesRails l s s := ⟨only_refl, rfl, fun _ _ => rfl, fun _ _ => rfl, fun _ _ _ => rfl⟩

theorem MovesRails.railOf (h : MovesRails l s t) {p : Nat} (hp : p < 48) : Machine.railOf t p = Machine.railOf s p :=
  railOf_congr (h.regs _ (by simp only [Reg.PH_CFG]; omega))

theorem MovesRails.trans (h : MovesRails l s t) (k : MovesRails l t u) : MovesRails l s u := by
  refine ⟨only_trans h.parts k.parts, ?_, fun a ha => (k.regs a ha).trans (h.regs a ha), fun q hq => (k.rails q hq).trans (h.rails q hq),
    fun p hp hn => (k.phases p hp fun r hr => ?_).trans (h.phases p hp hn)⟩
  · rw [k.eng, h.eng]
  · rw [h.railOf hp]
    exact hn r hr

theorem MovesRails.mono (h : MovesRails l s t) (hl : l ⊆ m) : MovesRails m s t :=
  ⟨h.parts, h.eng, h.regs, fun q hq => h.rails q fun hm => hq (hl hm), fun p hp hn => h.phases p hp fun r hr => hn r (hl hr)⟩

theorem MovesRails.ite {c : Prop} [Decidable c] (h : MovesRails l s t) (k : MovesRails l s u) : MovesRails l s (if c then t else u) := by
  split
  · exact h
  · exact k

/-- A change of parts that hold no rails, phases, registers or engine. -/
theorem MovesRails.ofOnly {ps : List Part} (h : Only ps s t) (hp : ps ⊆ [.nv, .doms, .cup, .capt, .msgs, .stand] := by decide) :
    MovesRails l s t := by
  have h : Only [.nv, .doms, .cup, .capt, .msgs, .stand] s t := only_mono h hp
  exact ⟨only_mono h, by rw [only_eng h], fun k _ => only_reg h k, fun q _ => only_rail h q, fun p _ _ => only_ph h p⟩

theorem movesRails_modRail (hr : r ∈ l) (f : Rail → Rail) (s : State) : MovesRails l s (s.modRail r f) :=
  ⟨only_mono (modRail_only s r f), rfl, fun _ _ => rfl, fun _ hq => rail_modRail_ne _ _ _ _ fun e => hq (e ▸ hr), fun _ _ _ => rfl⟩

/-- A fold of steps that move rails of `l`. -/
theorem MovesRails.foldl {f : State → Nat → State} {xs : List Nat} (hf : ∀ t, ∀ a ∈ xs, MovesRails l t (f t a)) (s : State) :
    MovesRails l s (xs.foldl f s) := by
  induction xs generalizing s with
  | nil => exact .refl
  | cons a xs ih => exact (hf s a List.mem_cons_self).trans (ih (fun t b hb => hf t b (List.mem_cons_of_mem _ hb)) _)

/-- In a fold of steps of one rail each, a rail named once is moved by its own step, from a state in which it has not moved yet. -/
theorem MovesRails.foldl_at {f : State → Nat → State} (hf : ∀ t a, MovesRails [a] t (f t a)) {xs : List Nat} (hx : xs.Nodup) (hq : q ∈ xs)
    (s : State) : ∃ m u, q ∉ m ∧ MovesRails m s u ∧ (xs.foldl f s).rail q = (f u q).rail q := by
  induction xs generalizing s with
  | nil => simp at hq
  | cons a xs ih =>
    obtain ⟨ha, hx⟩ := List.nodup_cons.1 hx
    rcases List.mem_cons.1 hq with rfl | hq
    · have hrest : MovesRails xs (f s q) (xs.foldl f (f s q)) := .foldl (fun t b hb => (hf t b).mono (by simpa using hb)) _
      exact ⟨[], s, by simp, .refl, hrest.rails q ha⟩
    · have hne : q ≠ a := fun e => ha (e ▸ hq)
      obtain ⟨m, u, hm, hmoves, hrail⟩ := ih hx hq (f s a)
      refine ⟨a :: m, u, by simp [hne, hm], ?_, hrail⟩
      exact ((hf s a).mono (by simp)).trans (hmoves.mono (by simp))

/-! ### What a rail that has not moved rests on -/

section
variable (h : MovesRails l s t)
include h

theorem MovesRails.rr (hq : q < 16) {o : Nat} (ho : o < 256 := by decide) : t.rr q o = s.rr q o := h.regs _ (by omega)
theorem MovesRails.pr {p : Nat} (hp : p < 48) {o : Nat} (ho : o < 256 := by decide) : t.pr p o = s.pr p o := h.regs _ (by omega)

theorem MovesRails.rankOf (hq : q < 16) : Machine.rankOf t q = Machine.rankOf s q := by rw [Machine.rankOf, h.rr hq, Machine.rankOf]

theorem MovesRails.phasesOf (r : Nat) : Machine.phasesOf t r = Machine.phasesOf s r := phasesOf_congr (fun _ hp => h.pr hp) r

theorem MovesRails.enOf {p : Nat} (hp : p < 48) : Machine.enOf t p = Machine.enOf s p := by rw [Machine.enOf, h.pr hp, Machine.enOf]

theorem MovesRails.dev : t.dev = s.dev := only_dev h.parts

theorem MovesRails.isStandby : Machine.isStandby t = Machine.isStandby s := by
  rw [Machine.isStandby, h.dev, only_twin h.parts, Machine.isStandby]

/-- A phase of a rail that has not moved. -/
theorem MovesRails.ph (hq : q ∉ l) {p : Nat} (hp : p ∈ Machine.phasesOf s q) : t.ph p = s.ph p := by
  obtain ⟨h48, hr⟩ := mem_phasesOf.1 hp
  refine h.phases p h48 fun r hl e => hq ?_
  rw [hr] at e
  exact Option.some.inj e ▸ hl

theorem MovesRails.availOf (hq : q ∉ l) : Machine.availOf t q = Machine.availOf s q := by
  unfold Machine.availOf
  rw [h.phasesOf]
  exact List.filter_congr fun p hp => by rw [h.enOf (mem_phasesOf.1 hp).1, h.ph hq hp]

/-- The pending period of a rail at rest is that of its first available phase. -/
theorem MovesRails.railPer (hq : q ∉ l) (hst : (s.rail q).st.stopped = true) : Machine.railPer t q = Machine.railPer s q := by
  have lead (v : State) (hv : (v.rail q).st.stopped = true) : leadOf v q = (Machine.availOf v q).head? := if_pos hv
  have hlead : leadOf t q = leadOf s q := by
    rw [lead t (by rwa [h.rails q hq]), lead s hst, h.availOf hq]
  unfold Machine.railPer
  rw [hlead, lead s hst]
  cases hp : (Machine.availOf s q).head? with
  | none => rfl
  | some p =>
    have hmem := (List.mem_filter.1 (List.mem_of_head? hp)).1
    simp only [h.pr (mem_phasesOf.1 hmem).1 (o := Reg.PH_PER)]

theorem MovesRails.srcEnabled (src : Nat) : Machine.srcEnabled t src = Machine.srcEnabled s src := by
  unfold Machine.srcEnabled State.pg
  split
  · next hs =>
    have : src ≤ 4 := of_decide_eq_true (Bool.and_eq_true_iff.1 hs).2
    rw [h.regs _ (by simp only [Pg.SETIN, Reg.SETIN_SPA_CFG]; omega)]
  · split
    · next hs =>
      have : src ≤ 8 := of_decide_eq_true (Bool.and_eq_true_iff.1 hs).2
      rw [h.regs _ (by simp only [Pg.SETIN, Reg.SETIN_SPP_CFG]; omega)]
    · rfl

theorem MovesRails.tripMapsRail (hq : q < 16) {n : Nat} (hn : n < 24) : Machine.tripMapsRail t n q = Machine.tripMapsRail s n q := by
  unfold Machine.tripMapsRail domOf State.pg
  rw [h.rr hq, h.regs _ (by simp only [Pg.TRIP, Reg.TRIP_MAP]; omega)]

/-- The start checks of a rail at rest do not change while others move (R173). -/
theorem MovesRails.startChecks (hq : q ∉ l) (h16 : q < 16) (hst : (s.rail q).st.stopped = true) :
    Machine.startChecks t q = Machine.startChecks s q := by
  have h48 {p : Nat} (hp : p ∈ Machine.phasesOf s q) : p < 48 := (mem_phasesOf.1 hp).1
  have hen : (Machine.phasesOf s q).any (Machine.enOf t) = (Machine.phasesOf s q).any (Machine.enOf s) :=
    any_congr_of_mem fun p hp => h.enOf (h48 hp)
  have hper : ((Machine.phasesOf s q).all fun p => fld (t.pr p Reg.PH_PER) 15 0 == Machine.railPer s q) =
      (Machine.phasesOf s q).all fun p => fld (s.pr p Reg.PH_PER) 15 0 == Machine.railPer s q :=
    all_congr_of_mem fun p hp => by rw [h.pr (h48 hp)]
  have htrip : ((bitsOf 24 s.tripLatch).any fun n => Machine.tripMapsRail t n q) =
      (bitsOf 24 s.tripLatch).any fun n => Machine.tripMapsRail s n q :=
    any_congr_of_mem fun n hn => h.tripMapsRail h16 (List.mem_range.1 (List.mem_filter.1 hn).1)
  unfold Machine.startChecks vrate
  simp only [h.dev, h.isStandby, h.phasesOf, hen, h.railPer hq hst, hper, h.rr h16 (o := Reg.RAIL_VSAMP), h.rr h16 (o := Reg.RAIL_SRC),
    h.rails q hq, h.srcEnabled, only_latch h.parts, htrip]

end
end

/-! ### A rail to OFF (R159, R172) -/

section
variable {l : List Nat} {s : State} {r : Nat}

/-- A switch of banks writes the active bank alone. -/
theorem switchBank_moves (hr : r ∈ l) (s : State) : MovesRails l s (switchBank r s) := by
  have hbank : MovesRails l s (pendToAct r s) := by
    have ho := pendToAct_only r s
    refine ⟨only_mono ho, by rw [only_eng ho], fun k hk => ?_, fun q _ => only_rail ho q, fun p _ _ => only_ph ho p⟩
    have hne (o : Nat) : k ≠ actKey r o := by
      unfold actKey bankKey
      omega
    exact (reg_setReg_ne (hne 0x08)).trans (copyRegs_reg_ne fun o _ => hne o)
  rw [switchBank_eq]
  exact hbank.trans ((movesRails_modRail hr _ _).trans (.ofOnly (commitDone_parts r _)))

theorem switchIfPending_moves (hr : r ∈ l) (s : State) : MovesRails l s (switchIfPending r s) :=
  .ite ((movesRails_modRail hr _ s).trans (switchBank_moves hr _)) .refl

theorem restRail_moves (hr : r ∈ l) (off : Bool) (s : State) : MovesRails l s (restRail off r s) := by
  have ho := restRail_only s off r
  refine ⟨only_mono ho, by rw [only_eng ho], fun k _ => only_reg ho k, fun q _ => only_rail ho q, fun p _ hn => ?_⟩
  exact ph_fold_of_not_mem fun hp => hn r hr (mem_phasesOf.1 hp).2

theorem dropQueued_moves (r : Nat) (s : State) : MovesRails l s (dropQueued r s) :=
  ⟨only_mono (dropQueued_only s r), rfl, fun _ _ => rfl, fun _ _ => rfl, fun _ _ _ => rfl⟩

/-- A rail's marks change, and a condition of it ends. -/
theorem modRail_setCond_moves (hr : r ∈ l) (f : Rail → Rail) (src addr : Nat) (s : State) :
    MovesRails l s (setCond src addr false (s.modRail r f)) :=
  (movesRails_modRail hr f s).trans (.ofOnly (setCond_only _ _ _ _))

theorem stopCommon_moves (hr : r ∈ l) (st : RailState) (s : State) : MovesRails l s (stopCommon st r s) := by
  unfold stopCommon
  refine .trans ?_ (movesRails_modRail hr _ _)
  refine .trans ?_ (modRail_setCond_moves hr _ _ _ _)
  refine .trans ?_ (modRail_setCond_moves hr _ _ _ _)
  refine .trans ?_ (modRail_setCond_moves hr _ _ _ _)
  refine .trans ?_ (switchIfPending_moves hr _)
  refine .trans ?_ (restRail_moves hr _ _)
  refine .trans ?_ (dropQueued_moves r _)
  exact .trans (.ite (.ofOnly (endPrecheck_only s r)) .refl) (.ofOnly (cupNow_only _ r))

theorem toOff_moves (hr : r ∈ l) (s : State) : MovesRails l s (toOff r s) := (stopCommon_moves hr .off s).trans (movesRails_modRail hr _ _)

/-! ### The count of restarts on the way to OFF (R183) -/

/-- Every rail keeps its count of restarts. -/
structure NrstStays (s t : State) : Prop where
  nrst : ∀ q, (t.rail q).nrst = (s.rail q).nrst

theorem NrstStays.refl : NrstStays s s := ⟨fun _ => rfl⟩

theorem NrstStays.trans {t u : State} (h : NrstStays s t) (k : NrstStays t u) : NrstStays s u := ⟨fun q => (k.nrst q).trans (h.nrst q)⟩

theorem NrstStays.ofRails {t : State} (h : t.rails = s.rails) : NrstStays s t := ⟨fun q => by simp only [State.rail, h]⟩

theorem nrstStays_modRail (f : Rail → Rail) (s : State) (hf : ∀ x, (f x).nrst = x.nrst := by intro _; rfl) : NrstStays s (s.modRail r f) := by
  refine ⟨fun q => ?_⟩
  rw [rail_modRail]
  split
  · exact hf _
  · rfl

/-- A rail's marks change, and a condition of it ends. -/
theorem nrstStays_setCond (f : Rail → Rail) (src addr : Nat) (s : State) (hf : ∀ x, (f x).nrst = x.nrst := by intro _; rfl) :
    NrstStays s (setCond src addr false (s.modRail r f)) :=
  (nrstStays_modRail f s hf).trans (.ofRails (only_rails (setCond_only _ _ _ _)))

theorem switchIfPending_nrst (r : Nat) (s : State) : NrstStays s (switchIfPending r s) := by
  unfold switchIfPending
  split
  · refine .trans ?_ ⟨fun q => congrArg Rail.nrst (switchBank_rail r q _)⟩
    refine .trans ?_ (nrstStays_modRail _ _)
    exact nrstStays_modRail _ s
  · exact .refl

theorem stopCommon_nrst (st : RailState) (r : Nat) (s : State) : NrstStays s (stopCommon st r s) := by
  unfold stopCommon
  refine .trans ?_ (nrstStays_modRail _ _)
  refine .trans ?_ (nrstStays_setCond _ _ _ _)
  refine .trans ?_ (nrstStays_setCond _ _ _ _)
  refine .trans ?_ (nrstStays_setCond _ _ _ _)
  refine .trans ?_ (switchIfPending_nrst r _)
  refine .trans ?_ (.ofRails (only_rails (restRail_only _ _ r)))
  refine .trans ?_ (.ofRails (only_rails (dropQueued_only _ r)))
  refine .trans ?_ (.ofRails (only_rails (cupNow_only _ r)))
  split
  · exact .ofRails (only_rails (endPrecheck_only s r))
  · exact .refl

theorem toOff_nrst (r : Nat) (s : State) : NrstStays s (toOff r s) := (stopCommon_nrst .off r s).trans (nrstStays_modRail _ _)

/-- A rail taken to OFF: nothing is pending, no source holds it, and its count of restarts stands (R172, R183). -/
theorem toOff_rail (hr : r < 16) (s : State) : ((toOff r s).rail r).st = .off ∧ ((toOff r s).rail r).nrst = (s.rail r).nrst ∧
    ((toOff r s).rail r).faultedBy = [] ∧ ((toOff r s).rail r).rstpend = false := by
  refine ⟨toOff_st hr, (toOff_nrst r s).nrst r, ?_, ?_⟩
  · unfold toOff
    rw [rail_modRail_same _ _ _ hr]
  · unfold toOff stopCommon
    rw [rail_modRail_same _ _ _ hr, rail_modRail_same _ _ _ hr]

/-! ### Stop, start, restart of a rail (R173, R180, R183) -/

theorem stopCmd_moves (hr : r ∈ l) (s : State) : MovesRails l s (stopCmd r s) := by
  unfold stopCmd
  split
  · exact movesRails_modRail hr _ s
  · exact .refl
  · exact .refl
  · exact (movesRails_modRail hr _ s).trans (.ite .refl (toOff_moves hr _))
  · exact movesRails_modRail hr _ s

theorem clrCmd_moves (hr : r ∈ l) (s : State) : MovesRails l s (clrCmd r s) := (toOff_moves hr s).trans (movesRails_modRail hr _ _)

theorem startRail_only (host : Bool) (g r : Nat) (s : State) : Only [.rails, .nv] s (startRail host g r s) :=
  only_then (l := [.rails]) (acceptStart_only s host g r) (only_trans (queueBases_only _) (tallyAdd_only _ 6 1))

theorem startRail_rail (host : Bool) (g r q : Nat) (s : State) :
    (startRail host g r s).rail q = (s.modRail r fun x => { x with startPend := true, group := g, nrst := if host then 0 else x.nrst }).rail q :=
  (only_rail (tallyAdd_only _ 6 1) q).trans (only_rail (queueBases_only _) q)

theorem startRail_moves (hr : r ∈ l) (host : Bool) (g : Nat) (s : State) : MovesRails l s (startRail host g r s) :=
  (movesRails_modRail hr _ s).trans (.ofOnly (only_trans (queueBases_only _) (tallyAdd_only _ 6 1)))

/-- A start counts in STARTS, and may queue a bases record (R347, R351). -/
theorem startRail_nv (host : Bool) (g r : Nat) (s : State) :
    (startRail host g r s).nv = { s.nv with tdue := s.nv.tdue.set 6 (s.nv.tdue.getD 6 0 + 1), queue := (startRail host g r s).nv.queue } ∧
      ((startRail host g r s).nv.queue = s.nv.queue ∨ (startRail host g r s).nv.queue = s.nv.queue ++ [.bases (baseR s) (baseP s)]) := by
  have key (v : State) (hv : v.nv = s.nv) : (tallyAdd 6 1 (queueBases v)).nv =
      { s.nv with tdue := s.nv.tdue.set 6 (s.nv.tdue.getD 6 0 + 1), queue := (tallyAdd 6 1 (queueBases v)).nv.queue } ∧
      ((tallyAdd 6 1 (queueBases v)).nv.queue = s.nv.queue ∨
        (tallyAdd 6 1 (queueBases v)).nv.queue = s.nv.queue ++ [.bases (baseR v) (baseP v)]) := by
    unfold queueBases
    split
    · exact ⟨by simp only [tallyAdd, nvQueue, hv], .inr (by simp only [tallyAdd, nvQueue, hv])⟩
    · exact ⟨by simp only [tallyAdd, hv], .inl (by simp only [tallyAdd, hv])⟩
  exact key (acceptStart host g r s) rfl

theorem restartGiveUp_moves (hr : r ∈ l) (s : State) : MovesRails l s (restartGiveUp r s) :=
  (movesRails_modRail hr _ s).trans (.ofOnly (event_only _ _ _))

theorem restartOne_moves (hr : r ∈ l) (s : State) : MovesRails l s (restartOne r s) :=
  .ite ((toOff_moves hr s).trans (movesRails_modRail hr _ _)) (restartGiveUp_moves hr s)

end
end Sys2Proof.Machine
end

section
/-! PROOFS: RAIL_START, RAIL_STOP and RAIL_CLR (R173, R180, R183). -/

-- The package as one text: its declarations are elaborated one after another, to hold few threads.
set_option Elab.async false

namespace Sys2Proof.Machine

section
variable {s : State} {r : Nat}

theorem of_inOff (h : inOff s r = true) : (s.rail r).st = .off ∧ (s.rail r).startPend = false := by simpa [inOff] using h

/-! ### A stop by the state of the rail (R180, R183) -/

theorem stopCmd_off (h : (s.rail r).st = .off) : stopCmd r s = s.modRail r fun x => { x with startPend := false, group := 0 } := by
  simp only [stopCmd, h]

theorem stopCmd_stopping (h : (s.rail r).st = .stopping) : stopCmd r s = s := by simp only [stopCmd, h]

/-- From PRECHECK to BRAKE a stop is marked for the next frame. -/
theorem stopCmd_running (h : (s.rail r).st ∈ [RailState.precheck, .prebias, .ramp, .regulate, .drip, .limit, .brake]) :
    stopCmd r s = s.modRail r fun x => { x with stopPend := true } := by
  unfold stopCmd
  cases hst : (s.rail r).st
  case off | stopping | faulted | locked => simp [hst] at h
  all_goals rfl

/-- Of the sources of a rail nothing changes with its restart. -/
theorem faultStands_modRail {f : Rail → Rail} {u : State} {r : Nat} (hr : r < 16) (hf : (f (u.rail r)).faultedBy = (u.rail r).faultedBy) :
    faultStands (u.modRail r f) r = faultStands u r := by
  unfold faultStands
  rw [rail_modRail_same _ _ _ hr, hf]
  rfl

/-- In FAULTED a stop cancels the restart, and leads to OFF when nothing holds the rail. -/
theorem stopCmd_faulted (hr : r < 16) (h : (s.rail r).st = .faulted) : ((stopCmd r s).rail r).rstpend = false ∧
    ((stopCmd r s).rail r).st = if faultStands s r || s.dev.st == .safe then .faulted else .off := by
  obtain ⟨v, hv⟩ : ∃ v, v = s.modRail r fun x => { x with rstpend := false, rstDelay := none } := ⟨_, rfl⟩
  have hstands : faultStands v r = faultStands s r := hv ▸ faultStands_modRail hr rfl
  have hdev : v.dev = s.dev := hv ▸ rfl
  have hrail : (v.rail r).rstpend = false ∧ (v.rail r).st = .faulted := by
    rw [hv, rail_modRail_same _ _ _ hr]
    exact ⟨rfl, h⟩
  have hstop : stopCmd r s = if faultStands s r || s.dev.st == .safe then v else toOff r v := by
    rw [← hstands, ← hdev, hv]
    simp only [stopCmd, h]
  rw [hstop]
  split
  · exact hrail
  · obtain ⟨hoff, -, -, hpend⟩ := toOff_rail hr v
    exact ⟨hpend, hoff⟩

end

section
variable {s : State} {h : Fin 3} {r : Fin 16} {w : Word}

/-- The state an accepted write of RAIL_CMD is carried out in. -/
def railCmdWritten (s : State) (h : Fin 3) (r : Fin 16) (w : Word) : State :=
  s.written h ((0x10 + r.val) * 256 + 0x28) w (PType.rail.rowAt 0x28)

@[simp] theorem railCmdWritten_rail (q : Nat) : (railCmdWritten s h r w).rail q = s.rail q := rfl

/-- RAIL_CMD stores nothing. -/
theorem railCmdWritten_reg (hs : s.StoresWf) : (railCmdWritten s h r w).reg = s.reg := written_regs_of_no_fields hs (by decide) (by decide)

theorem isReg_railCmd (r : Fin 16) : IsReg ((0x10 + r.val) * 256 + 0x28) .rail r.val (PType.rail.rowAt 0x28) :=
  isReg_of_page (pageType_rail r) (by decide) (by decide)

theorem writeCmd_railCmd (ht : s.Takes h ((0x10 + r.val) * 256 + 0x28) w) :
    writeCmd h ((0x10 + r.val) * 256 + 0x28) w (s.begin h) = effectRail r 0x28 w (railCmdWritten s h r w) := by
  rw [writeCmd_reg (isReg_railCmd r) (by simp only [Pg.FC, Reg.FC_LOGSEL]; omega) ht, effectBlock_rail h r 0x28]
  rfl

/-- An accepted write of RAIL_CMD has met the checks of its commands (R173, R180, R183). -/
theorem chkRailCmd_of_takes (ht : s.Takes h ((0x10 + r.val) * 256 + 0x28) w) :
    (bit w 0 = true → canStart s r = true) ∧ (bit w 2 = true → (s.rail r).st = .faulted) := by
  have hk := chkBlock_of_takes (isReg_railCmd r) ht
  rw [page_mod] at hk
  change chkRailCmd s r w = Err.OK at hk
  unfold chkRailCmd at hk
  rw [firstErr_cons_ok (by decide), firstErr_cons_ok (by decide), firstErr_cons_ok (by decide), firstErr_cons_ok (by decide),
    firstErr_cons_ok (by decide)] at hk
  obtain ⟨-, -, hstart, -, hclr, -⟩ := hk
  refine ⟨fun h0 => by simpa [h0] using hstart, fun h2 => ?_⟩
  simp only [h2, Bool.true_and, Bool.or_eq_false_iff, bne_eq_false_iff_eq] at hclr
  exact hclr.1.1

end

/-- What an operation that moves one rail leaves of an accepted write (R172). -/
theorem rested_of_moves {s t : State} {h : Fin 3} {r : Fin 16} {w : Word} (ho : Only stopParts (railCmdWritten s h r w) t)
    (hm : MovesRails [r.val] (railCmdWritten s h r w) t) : OtherRails r s t ∧ t = s.rested t := by
  refine ⟨fun q hq => hm.rails q (by simpa using hq), ?_⟩
  have he : t.eng = { s.eng with queue := t.eng.queue } := hm.eng
  refine (written_frame [.rails, .phases, .eng, .cup, .capt, .msgs, .stand] ho).trans ?_
  show { s.rested t with eng := t.eng } = s.rested t
  unfold State.rested
  rw [← he]

/-- An accepted RAIL_START leaves the rail in OFF with a start pending, counts it and may queue a bases record (R173, R347, R351). -/
theorem railStart_takes {s : State} {h : Fin 3} {r : Fin 16} (hs : s.StoresWf) (ht : s.Takes h ((0x10 + r.val) * 256 + 0x28) 1) :
    ∃ t, exec (.railStart h r) s = .next t ∧ SameRegs [] s t ∧
      t = { s.wrote t with rails := t.rails
                           nv := { s.nv with tdue := s.nv.tdue.set 6 (s.nv.tdue.getD 6 0 + 1), queue := t.nv.queue } } ∧
      (t.nv.queue = s.nv.queue ∨ t.nv.queue = s.nv.queue ++ [.bases (baseR s) (baseP s)]) ∧
      t.rail r = { s.rail r with startPend := true, group := 0, nrst := 0 } ∧ (s.rail r).st = .off ∧ OtherRails r s t := by
  have hreg := railCmdWritten_reg (h := h) (r := r) (w := 1) hs
  set u := railCmdWritten s h r 1
  have hm : MovesRails [r.val] u (startRail true 0 r u) := startRail_moves (by simp) true 0 u
  have ho := startRail_only true 0 r u
  obtain ⟨hnv, hq⟩ := startRail_nv true 0 r u
  have hrail := (startRail_rail true 0 r r u).trans (rail_modRail_same _ _ _ r.isLt)
  have hexec : exec (.railStart h r) s = .next (startRail true 0 r u) := congrArg _ (writeCmd_railCmd ht)
  generalize startRail true 0 r u = t at hm ho hnv hq hrail hexec
  refine ⟨t, hexec, fun k _ => ?_, ?_, ?_, ?_, ?_, fun q hq => hm.rails q (by simpa using hq)⟩
  · rw [only_reg ho, hreg]
  · exact (written_frame [.rails, .nv] (only_mono ho)).trans (congrArg (fun x => { s.wrote t with rails := t.rails, nv := x }) hnv)
  · have hb : baseR u = baseR s ∧ baseP u = baseP s := by
      simp only [baseR, baseP, State.rr, State.pr, hreg, and_self]
    rw [hb.1, hb.2] at hq
    exact hq
  · exact hrail
  · have hc := (chkRailCmd_of_takes ht).1 (by decide)
    exact (of_inOff (Bool.and_eq_true_iff.1 hc).1).1

/-- An accepted RAIL_STOP acts by the state of the rail (R180, R183). -/
theorem railStop_takes {s : State} {h : Fin 3} {r : Fin 16} (hs : s.StoresWf) (ht : s.Takes h ((0x10 + r.val) * 256 + 0x28) 2) :
    ∃ t, exec (.railStop h r) s = .next t ∧ OtherRails r s t ∧ t = s.rested t ∧
      ((s.rail r).st = .off → t.rail r = { s.rail r with startPend := false, group := 0 }) ∧
      ((s.rail r).st = .stopping → t.rail r = s.rail r) ∧
      ((s.rail r).st ∈ [RailState.precheck, .prebias, .ramp, .regulate, .drip, .limit, .brake] →
        t.rail r = { s.rail r with stopPend := true } ∧ t.phases = s.phases ∧ SameRegs [] s t) ∧
      ((s.rail r).st = .faulted → (t.rail r).rstpend = false ∧
        (t.rail r).st = if faultStands s r || s.dev.st == .safe then .faulted else .off) := by
  have hreg := railCmdWritten_reg (h := h) (r := r) (w := 2) hs
  set u := railCmdWritten s h r 2
  have hst : (u.rail r).st = (s.rail r).st := rfl
  obtain ⟨hother, hframe⟩ := rested_of_moves (stopCmd_only u r.val) (stopCmd_moves List.mem_cons_self u)
  refine ⟨stopCmd r u, congrArg _ (writeCmd_railCmd ht), hother, hframe, fun hoff => ?_, fun hstop => ?_, fun hrun => ?_, fun hflt => ?_⟩
  · rw [stopCmd_off (hst.trans hoff), rail_modRail_same _ _ _ r.isLt]
    rfl
  · rw [stopCmd_stopping (hst.trans hstop)]
    rfl
  · rw [stopCmd_running (hst ▸ hrun), rail_modRail_same _ _ _ r.isLt]
    exact ⟨rfl, rfl, fun k _ => congrFun hreg k⟩
  · have hstands : faultStands u r = faultStands s r := rfl
    have hdev : u.dev = s.dev := rfl
    obtain ⟨hpend, hto⟩ := stopCmd_faulted r.isLt (hst.trans hflt)
    rw [hto, hstands, hdev]
    exact ⟨hpend, rfl⟩

/-- An accepted RAIL_CLR takes a FAULTED rail to OFF, and its restarts count anew (R183). -/
theorem railClr_takes {s : State} {h : Fin 3} {r : Fin 16} (ht : s.Takes h ((0x10 + r.val) * 256 + 0x28) 4) :
    ∃ t, exec (.railClr h r) s = .next t ∧ OtherRails r s t ∧ t = s.rested t ∧ (s.rail r).st = .faulted ∧
      (t.rail r).st = .off ∧ (t.rail r).nrst = 0 ∧ (t.rail r).faultedBy = [] ∧ (t.rail r).rstpend = false := by
  set u := railCmdWritten s h r 4
  obtain ⟨hother, hframe⟩ := rested_of_moves (clrCmd_only u r.val) (clrCmd_moves List.mem_cons_self u)
  obtain ⟨hoff, -, hby, hpend⟩ := toOff_rail r.isLt u
  refine ⟨clrCmd r u, congrArg _ (writeCmd_railCmd ht), hother, hframe, (chkRailCmd_of_takes ht).2 (by decide), ?_⟩
  unfold clrCmd
  rw [rail_modRail_same _ _ _ r.isLt]
  exact ⟨hoff, rfl, hby, hpend⟩

end Sys2Proof.Machine

section
open Sys2Proof Sys2Proof.Machine

/-- Settles O19: each of the three writes through what its effect makes of the rail it names. -/
theorem railCommands : Obligations.RailCommands :=
  ⟨fun _ _ _ hs ht => railStart_takes hs ht, fun _ _ _ hs ht => railStop_takes hs ht, fun _ _ _ _ ht => railClr_takes ht⟩
end
end

section
/-! PROOFS: how a domain's start and stop sequences begin (R184, R185). -/

-- The package as one text: its declarations are elaborated one after another, to hold few threads.
set_option Elab.async false

namespace Sys2Proof.Machine

/-- A rail that runs and is not stopping takes a stop. -/
theorem mem_of_running {st : RailState} (hrun : st.running = true) (hst : st ≠ .stopping) :
    st ∈ [RailState.precheck, .prebias, .ramp, .regulate, .drip, .limit, .brake] := by
  cases st
  case stopping => exact absurd rfl hst
  all_goals simp [RailState.running] at hrun ⊢

section
variable {s : State} {d r q : Nat}

theorem mem_railsOfDom : r ∈ railsOfDom s d ↔ r < 16 ∧ domOf s r = d := by simp [railsOfDom]

theorem railsOfDom_nodup (s : State) (d : Nat) : (railsOfDom s d).Nodup := List.nodup_range.filter _

theorem domOf_lt (s : State) (r : Nat) : domOf s r < 4 := by
  unfold domOf fld
  exact Nat.mod_lt _ (by decide)

/-! ### A start sequence begins (R184) -/

/-- The rails of rank 0 are started at once. -/
def startFirst (d : Nat) (host : Bool) (rails : List Nat) (s : State) : State :=
  (rails.filter fun r => rankOf s r == 0).foldl (fun s r => startRail host (groupOf s d 0) r s) s

theorem beginStart_eq {rails : List Nat} (hne : rails ≠ []) (host auto_ : Bool) :
    beginStart d host auto_ rails s = (startFirst d host rails s).modDom d fun x =>
      { x with seq := 1, rank := minRank (startFirst d host rails s) rails
               todo := rails.filter fun r => rankOf (startFirst d host rails s) r != 0
               issued := rails.filter fun r => rankOf s r == 0, wait := 0, age := 0, auto_ := auto_
               stopWait := List.replicate 16 none } := by
  unfold beginStart
  rw [if_neg (by simpa using hne)]
  rfl

theorem startFirst_only (d : Nat) (host : Bool) (rails : List Nat) (s : State) : Only [.rails, .nv] s (startFirst d host rails s) :=
  only_foldl (fun t a => startRail_only host (groupOf t d 0) a t) _

theorem startFirst_reg (d : Nat) (host : Bool) (rails : List Nat) (s : State) (k : Nat) : (startFirst d host rails s).reg k = s.reg k :=
  only_reg (startFirst_only d host rails s) k

/-- Starts count, and may queue a bases record (R347, R351). -/
theorem startFirst_nv (d : Nat) (host : Bool) (rails : List Nat) (s : State) : (startFirst d host rails s).nv =
    { s.nv with tdue := (startFirst d host rails s).nv.tdue, queue := (startFirst d host rails s).nv.queue } := by
  refine foldl_keeps (P := fun t : State => t.nv = { s.nv with tdue := t.nv.tdue, queue := t.nv.queue }) (fun t a ht => ?_) _ rfl
  rw [(startRail_nv host (groupOf t d 0) a t).1, ht]

/-- Of the listed rails those of rank 0 have a start pending, and no other rail moves. -/
theorem startFirst_rail {rails : List Nat} (hd : rails.Nodup) (h16 : q < 16) (host : Bool) : ∃ g, (startFirst d host rails s).rail q =
    if rails.contains q && rankOf s q == 0 then { s.rail q with startPend := true, group := g, nrst := if host then 0 else (s.rail q).nrst }
    else s.rail q := by
  have hstep (t : State) (a : Nat) : MovesRails [a] t (startRail host (groupOf t d 0) a t) := startRail_moves List.mem_cons_self _ _ _
  by_cases hq : q ∈ rails.filter fun r => rankOf s r == 0
  · obtain ⟨m, u, hm, hmoves, hrail⟩ := MovesRails.foldl_at hstep (hd.filter _) hq s
    refine ⟨groupOf u d 0, hrail.trans ?_⟩
    have hc : (rails.contains q && rankOf s q == 0) = true := by simpa using hq
    rw [startRail_rail, rail_modRail_same _ _ _ h16, hmoves.rails q hm, if_pos hc]
  · have hrest : MovesRails (rails.filter fun r => rankOf s r == 0) s (startFirst d host rails s) :=
      .foldl (fun t a ha => (hstep t a).mono (by simpa using ha)) s
    refine ⟨0, (hrest.rails q hq).trans ?_⟩
    have hc : ¬ (rails.contains q && rankOf s q == 0) = true := by simpa using hq
    rw [if_neg hc]

/-- A start sequence of some rails begins: those of rank 0 are issued, the others wait. -/
theorem beginStart_dom {rails : List Nat} (hne : rails ≠ []) (hd : d < 4) (host auto_ : Bool) :
    ((beginStart d host auto_ rails s).dom d).seq = 1 ∧
    ((beginStart d host auto_ rails s).dom d).todo = rails.filter (fun r => rankOf s r != 0) ∧
    ((beginStart d host auto_ rails s).dom d).issued = rails.filter (fun r => rankOf s r == 0) := by
  rw [beginStart_eq hne, dom_modDom_same _ _ _ hd]
  refine ⟨rfl, List.filter_congr fun r _ => ?_, rfl⟩
  simp only [rankOf, State.rr, startFirst_reg]

theorem beginStart_rail {rails : List Nat} (hne : rails ≠ []) (hd : rails.Nodup) (h16 : q < 16) (host auto_ : Bool) : ∃ g,
    (beginStart d host auto_ rails s).rail q =
      if rails.contains q && rankOf s q == 0 then { s.rail q with startPend := true, group := g, nrst := if host then 0 else (s.rail q).nrst }
      else s.rail q := by
  rw [beginStart_eq hne]
  exact startFirst_rail hd h16 host

theorem beginStart_nv {rails : List Nat} (hne : rails ≠ []) (host auto_ : Bool) : (beginStart d host auto_ rails s).nv =
    { s.nv with tdue := (beginStart d host auto_ rails s).nv.tdue, queue := (beginStart d host auto_ rails s).nv.queue } := by
  rw [beginStart_eq hne]
  exact startFirst_nv d host rails s

theorem beginStart_only (d : Nat) (host auto_ : Bool) (rails : List Nat) (s : State) :
    Only [.rails, .nv, .doms] s (beginStart d host auto_ rails s) :=
  only_ite only_refl (only_then (startFirst_only d host rails s) (modDom_only _ _ _))

/-! ### A stop sequence begins (R185) -/

/-- The rails that take part in a stop of a domain (log entry 60), the highest rank among them, and the stop of that rank. -/
def stoppers (s : State) (d : Nat) : List Nat := (railsOfDom s d).filter fun r => outOfOff s r && (s.rail r).st != .locked
def topRank (s : State) (d : Nat) : Nat := maxN ((stoppers s d).map (rankOf s))
def stopFirst (d : Nat) (s : State) : State :=
  ((stoppers s d).filter fun r => rankOf s r == topRank s d).foldl (fun s r => stopCmd r s) s

theorem stoppers_lt (h : r ∈ stoppers s d) : r < 16 := (mem_railsOfDom.1 (List.mem_filter.1 h).1).1

theorem rankOf_le_topRank (h : r ∈ stoppers s d) : rankOf s r ≤ topRank s d := le_maxN (List.mem_map_of_mem h)

theorem exists_rankOf_eq_topRank (h : stoppers s d ≠ []) : ∃ r ∈ stoppers s d, rankOf s r = topRank s d := by
  rcases maxN_mem_or_zero ((stoppers s d).map (rankOf s)) with hmem | hzero
  · simpa [topRank] using hmem
  · obtain ⟨r, hr⟩ := List.exists_mem_of_ne_nil _ h
    have hle := rankOf_le_topRank hr
    have htop : topRank s d = 0 := hzero
    exact ⟨r, hr, by omega⟩

theorem stopFirst_moves (d : Nat) (s : State) : MovesRails (List.range 16) s (stopFirst d s) :=
  .foldl (fun t _ ha => stopCmd_moves (List.mem_range.2 (stoppers_lt (List.mem_filter.1 ha).1)) t) s

theorem stopFirst_only (d : Nat) (s : State) : Only stopParts s (stopFirst d s) := only_foldl stopCmd_only _

/-- Once the highest rank is issued, no rail has waited yet. -/
def stopBegun (d : Nat) (s : State) : State := (stopFirst d s).modDom d fun x => { x with stopWait := List.replicate 16 none }

theorem beginStop_eq (hseq : (s.dom d).seq ≠ 2) : beginStop d s = (stopBegun d s).modDom d fun x =>
    { x with seq := if (stoppers s d).isEmpty then 0 else 2, rank := topRank s d
             todo := (stoppers s d).filter fun r => rankOf (stopBegun d s) r != topRank s d
             issued := (stoppers s d).filter fun r => rankOf s r == topRank s d, wait := 0, age := 0
             stopWait := stopWaits (stopBegun d s) d ((stoppers s d).filter fun r => rankOf (stopBegun d s) r != topRank s d) } := by
  unfold beginStop
  rw [if_neg hseq]
  rfl

theorem stopBegun_moves (d : Nat) (s : State) : MovesRails (List.range 16) s (stopBegun d s) :=
  (stopFirst_moves d s).trans (.ofOnly (modDom_only _ _ _))

/-- Of the rails that take part the highest rank is issued, and the others wait. -/
theorem beginStop_dom (hd : d < 4) (hseq : (s.dom d).seq ≠ 2) :
    ((beginStop d s).dom d).seq = (if stoppers s d = [] then 0 else 2) ∧
    ((beginStop d s).dom d).todo = (stoppers s d).filter (fun r => rankOf s r != topRank s d) := by
  rw [beginStop_eq hseq, dom_modDom_same _ _ _ hd]
  refine ⟨?_, List.filter_congr fun r hr => ?_⟩
  · simp only [List.isEmpty_iff]
  · rw [(stopBegun_moves d s).rankOf (stoppers_lt hr)]

theorem beginStop_rail (hseq : (s.dom d).seq ≠ 2) (q : Nat) : (beginStop d s).rail q = (stopFirst d s).rail q := by
  rw [beginStop_eq hseq]
  rfl

/-- A rail of the highest rank that runs has its stop marked. -/
theorem beginStop_stopPend (hseq : (s.dom d).seq ≠ 2) (hr : r ∈ stoppers s d) (htop : rankOf s r = topRank s d)
    (hrun : (s.rail r).st.running = true) (hst : (s.rail r).st ≠ .stopping) : ((beginStop d s).rail r).stopPend = true := by
  have hmem : r ∈ (stoppers s d).filter fun r => rankOf s r == topRank s d := by simp [hr, htop]
  obtain ⟨m, u, hm, hmoves, hrail⟩ := MovesRails.foldl_at (fun t _ => stopCmd_moves List.mem_cons_self t)
    (((railsOfDom_nodup s d).filter _).filter _) hmem s
  have hu : (u.rail r).st ∈ [RailState.precheck, .prebias, .ramp, .regulate, .drip, .limit, .brake] := by
    rw [hmoves.rails r hm]
    exact mem_of_running hrun hst
  rw [beginStop_rail hseq]
  refine (congrArg Rail.stopPend hrail).trans ?_
  rw [stopCmd_running hu, rail_modRail_same _ _ _ (stoppers_lt hr)]

theorem beginStop_moves (hseq : (s.dom d).seq ≠ 2) : MovesRails (List.range 16) s (beginStop d s) := by
  rw [beginStop_eq hseq]
  exact (stopBegun_moves d s).trans (.ofOnly (modDom_only _ _ _))

theorem beginStop_only (d : Nat) (s : State) : Only (.doms :: stopParts) s (beginStop d s) :=
  only_ite only_refl (only_then (only_then (l := stopParts) (m := [.doms]) (n := .doms :: stopParts) (stopFirst_only d s) (modDom_only _ _ _))
    (modDom_only _ _ _))

end
end Sys2Proof.Machine
end

section
/-! PROOFS: DOMAIN_START, DOMAIN_STOP, and the steps of a domain's sequences (R184-R186). -/

-- The package as one text: its declarations are elaborated one after another, to hold few threads.
set_option Elab.async false

namespace Sys2Proof.Machine

section
variable {s : State} {h : Fin 3} {d : Fin 4} {w : Word}

/-! ### Writes of DOM_CMD -/

/-- The state an accepted write of DOM_CMD is carried out in. -/
def domCmdWritten (s : State) (h : Fin 3) (w : Word) : State := s.written h 0x0710 w (PType.dom.rowAt 0x10)

/-- DOM_CMD stores nothing. -/
theorem domCmdWritten_reg (hs : s.StoresWf) : (domCmdWritten s h w).reg = s.reg := written_regs_of_no_fields hs (by decide) (by decide)

theorem writeCmd_domCmd (ht : s.Takes h 0x0710 w) : writeCmd h 0x0710 w (s.begin h) = domCmd w (domCmdWritten s h w) := by
  have hr : IsReg 0x0710 .dom 0 (PType.dom.rowAt 0x10) := isReg_of_page (pg := 7) (off := 0x10) (by decide) (by decide) (by decide)
  rw [writeCmd_reg hr (by decide) ht]
  rfl

/-- A loop whose guard holds at one index does that step alone. -/
theorem loop_if_one {f : State → Nat → State} {b : Nat → Bool} {k n : Nat} (hk : k < n) (hb : ∀ i < n, b i = decide (i = k)) (s : State) :
    loop n (fun s i => if b i then f s i else s) s = f s k := by
  have hprefix (m : Nat) (hm : m ≤ n) : loop m (fun s i => if b i then f s i else s) s = if k < m then f s k else s := by
    induction m with
    | zero => rfl
    | succ m ih =>
      have hstep : loop (m + 1) (fun s i => if b i then f s i else s) s =
          if b m then f (loop m (fun s i => if b i then f s i else s) s) m else loop m (fun s i => if b i then f s i else s) s := by
        simp only [loop, List.range_succ, List.foldl_append, List.foldl_cons, List.foldl_nil]
      rw [hstep, ih (by omega), hb m (by omega)]
      rcases Nat.lt_trichotomy m k with hlt | rfl | hgt
      · rw [decide_eq_false (by omega), if_neg Bool.false_ne_true, if_neg (by omega), if_neg (by omega)]
      · rw [decide_eq_true rfl, if_pos rfl, if_neg (by omega), if_pos (by omega)]
      · rw [decide_eq_false (by omega), if_neg Bool.false_ne_true, if_pos hgt, if_pos (by omega)]
  rw [hprefix n (le_refl n), if_pos hk]

/-- A loop whose guard holds nowhere does nothing. -/
theorem loop_if_none {f : State → Nat → State} {b : Nat → Bool} {n : Nat} (hb : ∀ i < n, b i = false) (s : State) :
    loop n (fun s i => if b i then f s i else s) s = s := by
  have hkeep (l : List Nat) (hl : ∀ i ∈ l, i < n) : l.foldl (fun s i => if b i then f s i else s) s = s := by
    induction l with
    | nil => rfl
    | cons i l ih =>
      rw [List.foldl_cons, hb i (hl i List.mem_cons_self), if_neg Bool.false_ne_true]
      exact ih fun j hj => hl j (List.mem_cons_of_mem _ hj)
  exact hkeep _ fun i hi => List.mem_range.1 hi

/-- A power of two names one bit. -/
theorem bit_two_pow {i k : Nat} (hk : k < 32) : bit (BitVec.ofNat 32 (2 ^ k)) i = decide (i = k) := by
  have hlt : 2 ^ k < 2 ^ 32 := Nat.pow_lt_pow_right (by decide) hk
  simp only [bit, BitVec.toNat_ofNat, Nat.mod_eq_of_lt hlt, Nat.testBit_two_pow]
  exact decide_eq_decide.2 eq_comm

theorem domCmd_start (d : Fin 4) (u : State) : domCmd (BitVec.ofNat 32 (2 ^ d.val)) u = beginStart d true false (takers u d) u := by
  have hd := d.isLt
  have hstop (i : Nat) (_ : i < 4) : bit (BitVec.ofNat 32 (2 ^ d.val)) (i + 4) = false := by
    rw [bit_two_pow (by omega), decide_eq_false (by omega)]
  unfold domCmd
  rw [loop_if_none hstop u]
  exact loop_if_one hd (fun i _ => bit_two_pow (by omega)) u

theorem domCmd_stop (d : Fin 4) (u : State) : domCmd (BitVec.ofNat 32 (2 ^ (d.val + 4))) u = beginStop d u := by
  have hd := d.isLt
  have hstop (i : Nat) (_ : i < 4) : bit (BitVec.ofNat 32 (2 ^ (d.val + 4))) (i + 4) = decide (i = d.val) := by
    rw [bit_two_pow (by omega)]
    exact decide_eq_decide.2 (by omega)
  have hstart (i : Nat) (_ : i < 4) : bit (BitVec.ofNat 32 (2 ^ (d.val + 4))) i = false := by
    rw [bit_two_pow (by omega), decide_eq_false (by omega)]
  unfold domCmd
  rw [loop_if_one hd hstop u]
  exact loop_if_none hstart _

/-! ### DOMAIN_START and DOMAIN_STOP (R184, R185) -/

/-- The rails of a domain, those that take part, and their ranks are read from registers and from the rails. -/
theorem takers_congr {s t : State} (hreg : t.reg = s.reg) (hrail : ∀ q, t.rail q = s.rail q) (d : Nat) : takers t d = takers s d := by
  have hp : phasesOf t = phasesOf s := funext (phasesOf_congr fun _ _ => congrFun hreg _)
  simp only [takers, railsOfDom, domOf, inOff, State.rr, hp, hreg, hrail]
theorem stoppers_congr {s t : State} (hreg : t.reg = s.reg) (hrail : ∀ q, t.rail q = s.rail q) (d : Nat) : stoppers t d = stoppers s d := by
  simp only [stoppers, railsOfDom, domOf, outOfOff, inOff, State.rr, hreg, hrail]
theorem rankOf_congr {s t : State} (hreg : t.reg = s.reg) : rankOf t = rankOf s := by
  funext r
  simp only [rankOf, State.rr, hreg]

theorem domainStart_takes (hs : s.StoresWf) (ht : s.Takes h 0x0710 (BitVec.ofNat 32 (2 ^ d.val))) (hne : takers s d ≠ []) :
    ∃ t, exec (.domainStart h d) s = .next t ∧ SameRegs [] s t ∧
      t = { s.wrote t with rails := t.rails, doms := t.doms, nv := { s.nv with tdue := t.nv.tdue, queue := t.nv.queue } } ∧
      (t.dom d).seq = 1 ∧ (t.dom d).todo = (takers s d).filter (fun r => rankOf s r != 0) ∧
      (t.dom d).issued = (takers s d).filter (fun r => rankOf s r == 0) ∧
      ∀ r < 16, (t.rail r).st = (s.rail r).st ∧
        ((t.rail r).startPend = ((s.rail r).startPend || ((takers s d).contains r && rankOf s r == 0))) := by
  have hreg := domCmdWritten_reg (h := h) (w := BitVec.ofNat 32 (2 ^ d.val)) hs
  have hexec : exec (.domainStart h d) s = .next (beginStart d true false (takers (domCmdWritten s h (BitVec.ofNat 32 (2 ^ d.val))) d) _) :=
    congrArg _ ((writeCmd_domCmd ht).trans (domCmd_start d _))
  set u := domCmdWritten s h (BitVec.ofNat 32 (2 ^ d.val)) with hu
  have hrank : rankOf u = rankOf s := rankOf_congr hreg
  rw [takers_congr hreg (fun _ => rfl) d] at hexec
  obtain ⟨hseq, htodo, hissued⟩ := beginStart_dom (s := u) hne d.isLt true false
  have ho := beginStart_only d true false (takers s d) u
  have hnv := beginStart_nv (s := u) hne true false (d := d)
  have hrail {q : Nat} (hq : q < 16) := beginStart_rail (s := u) hne ((railsOfDom_nodup s d).filter _) hq true false (d := d)
  rw [hrank] at htodo hissued hrail
  generalize beginStart d true false (takers s d) u = t at *
  refine ⟨t, hexec, fun k _ => (only_reg ho k).trans (congrFun hreg k), ?_, hseq, htodo, hissued, fun r hr => ?_⟩
  · exact (written_frame [.rails, .doms, .nv] (only_mono ho)).trans
      (congrArg (fun x => { s.wrote t with rails := t.rails, doms := t.doms, nv := x }) hnv)
  · obtain ⟨g, hg⟩ := hrail hr
    rw [hg]
    cases hc : (takers s d).contains r && rankOf s r == 0
    · exact ⟨rfl, (Bool.or_false _).symm⟩
    · exact ⟨rfl, (Bool.or_true _).symm⟩

theorem domainStop_takes (hs : s.StoresWf) (ht : s.Takes h 0x0710 (BitVec.ofNat 32 (2 ^ (d.val + 4)))) (hseq : (s.dom d).seq ≠ 2) :
    ∃ t, exec (.domainStop h d) s = .next t ∧ t = { s.rested t with doms := t.doms } ∧
      ∃ rails top, rails = (railsOfDom s d).filter (fun r => outOfOff s r && (s.rail r).st != .locked) ∧
        (∀ r ∈ rails, rankOf s r ≤ top) ∧ (rails ≠ [] → ∃ r ∈ rails, rankOf s r = top) ∧
        (t.dom d).seq = (if rails = [] then 0 else 2) ∧ (t.dom d).todo = rails.filter (fun r => rankOf s r != top) ∧
        ∀ r ∈ rails, rankOf s r = top → (s.rail r).st.running = true → (s.rail r).st ≠ .stopping → (t.rail r).stopPend = true := by
  have hreg := domCmdWritten_reg (h := h) (w := BitVec.ofNat 32 (2 ^ (d.val + 4))) hs
  have hexec : exec (.domainStop h d) s = .next (beginStop d (domCmdWritten s h (BitVec.ofNat 32 (2 ^ (d.val + 4))))) :=
    congrArg _ ((writeCmd_domCmd ht).trans (domCmd_stop d _))
  set u := domCmdWritten s h (BitVec.ofNat 32 (2 ^ (d.val + 4)))
  have hrank : rankOf u = rankOf s := rankOf_congr hreg
  have hrails : stoppers u d = stoppers s d := stoppers_congr hreg (fun _ => rfl) d
  have htop : topRank u d = topRank s d := by rw [topRank, hrails, hrank, topRank]
  have hsequ : (u.dom d).seq ≠ 2 := hseq
  obtain ⟨hdseq, htodo⟩ := beginStop_dom d.isLt hsequ
  have heng : (beginStop d u).eng = { s.eng with queue := (beginStop d u).eng.queue } := (beginStop_moves hsequ).eng
  have hpend {r : Nat} (hr : r ∈ stoppers u d) (he : rankOf u r = topRank u d) := beginStop_stopPend hsequ hr he
  have ho := beginStop_only d.val u
  rw [hrails, hrank, htop] at htodo
  rw [hrails] at hdseq hpend
  rw [htop, hrank] at hpend
  generalize beginStop d u = t at *
  refine ⟨t, hexec, ?_, stoppers s d, topRank s d, rfl, fun r => rankOf_le_topRank, exists_rankOf_eq_topRank, hdseq, htodo,
    fun r hr he hrun hst => hpend hr he hrun hst⟩
  refine (written_frame [.doms, .rails, .phases, .eng, .cup, .capt, .msgs, .stand] (only_mono ho)).trans ?_
  show { s.rested t with doms := t.doms, eng := t.eng } = { s.rested t with doms := t.doms }
  unfold State.rested
  rw [← heng]

end

/-! ### The steps of a sequence (R184-R186) -/

/-- A waiting rail of the rank in progress whose delay is over is started (R184). -/
theorem sequenceRankStart_starts {r : Fin 16} {s : State} (hm : machinesRun s = true) (hseq : (s.dom (domOf s r)).seq = 1)
    (hmem : r.val ∈ (s.dom (domOf s r)).todo) (hrank : rankOf s r = (s.dom (domOf s r)).rank)
    (hdly : dlyOf s r * 10 ≤ (s.dom (domOf s r)).wait) (hcan : canStart s r = true) :
    ∃ t, exec (.sequenceRankStart r) s = .next t ∧ (t.rail r).startPend = true ∧ OtherRails r s t ∧
      r.val ∉ (t.dom (domOf s r)).todo ∧ r.val ∈ (t.dom (domOf s r)).issued ∧
      t = { s.begin with rails := t.rails, doms := t.doms
                         nv := { s.nv with tdue := s.nv.tdue.set 6 (s.nv.tdue.getD 6 0 + 1), queue := t.nv.queue } } := by
  obtain ⟨host, hhost⟩ : ∃ b, b = !(s.dom (domOf s r)).auto_ := ⟨_, rfl⟩
  obtain ⟨g, hg⟩ : ∃ n, n = groupOf s.begin (domOf s r) (s.dom (domOf s r)).rank := ⟨_, rfl⟩
  obtain ⟨u, hu⟩ : ∃ u, u = startRail host g r s.begin := ⟨_, rfl⟩
  have hexec : exec (.sequenceRankStart r) s =
      .next (u.modDom (domOf s r) fun x => { x with todo := x.todo.filter (· != r.val), issued := x.issued ++ [r.val] }) := by
    show Host.Outcome.next (clocked (sequenceRankStart r) s.begin) = _
    rw [clocked_of_machinesRun hm, hu, hhost, hg]
    have hgo : (!machinesRun s || (s.dom (domOf s r)).seq != 1 || !(s.dom (domOf s r)).todo.contains r.val ||
        rankOf s r != (s.dom (domOf s r)).rank || decide ((s.dom (domOf s r)).wait < dlyOf s r * 10)) = false := by
      simp [hm, hseq, hmem, hrank, hdly]
    refine congrArg Host.Outcome.next ((if_neg (Bool.eq_false_iff.1 hgo)).trans ?_)
    exact congrArg (fun v : State => v.modDom (domOf s r) _) (if_pos hcan)
  have ho := startRail_only host g r s.begin
  have hmoves : MovesRails [r.val] s.begin u := hu ▸ startRail_moves List.mem_cons_self host g s.begin
  have hnv := (startRail_nv host g r s.begin).1
  have hrail := (startRail_rail host g r r s.begin).trans (rail_modRail_same _ _ _ r.isLt)
  rw [← hu] at ho hnv hrail
  have hnotin : r.val ∉ (u.dom (domOf s r)).todo.filter (· != r.val) := by simp
  refine ⟨_, hexec, ?_, fun q hq => hmoves.rails q (by simpa using hq), ?_, ?_, ?_⟩
  · exact congrArg Rail.startPend hrail
  · rw [dom_modDom_same _ _ _ (domOf_lt s r)]
    exact hnotin
  · rw [dom_modDom_same _ _ _ (domOf_lt s r)]
    exact List.mem_append_right _ List.mem_cons_self
  · generalize hv : u.modDom _ _ = t
    have hov : Only [.rails, .nv, .doms] s.begin t := hv ▸ only_then ho (modDom_only _ _ _)
    have hnvv : t.nv = u.nv := hv ▸ rfl
    rw [← hnvv] at hnv
    exact (eq_take_of_only hov).trans (congrArg (fun x => { s.begin with rails := t.rails, doms := t.doms, nv := x }) hnv)

/-- A waiting rail of a stop sequence whose own delay is over is stopped (R185). -/
theorem sequenceRankStop_stops {r : Fin 16} {n : Nat} {s : State} (hm : machinesRun s = true) (hseq : (s.dom (domOf s r)).seq = 2)
    (hmem : r.val ∈ (s.dom (domOf s r)).todo) (hwait : (s.dom (domOf s r)).stopWait.getD r.val none = some n) (hdly : dlyOf s r * 10 ≤ n)
    (hrun : (s.rail r).st.running = true) (hst : (s.rail r).st ≠ .stopping) :
    ∃ t, exec (.sequenceRankStop r) s = .next t ∧ t.rail r = { s.rail r with stopPend := true } ∧ OtherRails r s t ∧
      r.val ∉ (t.dom (domOf s r)).todo ∧ r.val ∈ (t.dom (domOf s r)).issued ∧
      t = { s.begin with rails := t.rails, doms := t.doms } := by
  obtain ⟨u, hu⟩ : ∃ u, u = stopCmd r s.begin := ⟨_, rfl⟩
  have hstop : u = s.begin.modRail r fun x => { x with stopPend := true } := hu.trans (stopCmd_running (mem_of_running hrun hst))
  have hexec : exec (.sequenceRankStop r) s = .next (u.modDom (domOf s r) fun x =>
      { x with todo := x.todo.filter (· != r.val), issued := x.issued ++ [r.val] }) := by
    show Host.Outcome.next (clocked (sequenceRankStop r) s.begin) = _
    rw [clocked_of_machinesRun hm, hu]
    have hgo : (!machinesRun s || (s.dom (domOf s r)).seq != 2 || !(s.dom (domOf s r)).todo.contains r.val ||
        !(match (s.dom (domOf s r)).stopWait.getD r.val none with | some n => decide (dlyOf s r * 10 ≤ n) | none => false)) = false := by
      rw [hwait]
      simp [hm, hseq, hmem, hdly]
    exact congrArg Host.Outcome.next (if_neg (Bool.eq_false_iff.1 hgo))
  have hnotin : r.val ∉ (u.dom (domOf s r)).todo.filter (· != r.val) := by simp
  have hrail : u.rail r = { s.rail r with stopPend := true } := by
    rw [hstop, rail_modRail_same _ _ _ r.isLt]
    rfl
  have ho : Only [.rails] s.begin u := hstop ▸ modRail_only _ _ _
  refine ⟨_, hexec, hrail, fun q hq => ?_, ?_, ?_, eq_take_of_only (only_then ho (modDom_only _ _ _) (n := [.rails, .doms]))⟩
  · exact (congrArg (fun v : State => v.rail q) hstop).trans (rail_modRail_ne _ _ _ _ hq)
  · rw [dom_modDom_same _ _ _ (domOf_lt s r)]
    exact hnotin
  · rw [dom_modDom_same _ _ _ (domOf_lt s r)]
    exact List.mem_append_right _ List.mem_cons_self

/-- A start whose rank has not settled in time is abandoned, at the lowest open rail (R186). -/
theorem railSeqto_abandons {d : Fin 4} {s : State} {r : Nat} {l : List Nat} (hruns : s.Runs) (hm : machinesRun s = true)
    (hseq : (s.dom d).seq = 1) (hage : fld (s.reg 0x0711) 23 0 ≤ (s.dom d).age)
    (hopen : (List.range 16).filter (fun r => ((s.dom d).issued.contains r || (s.dom d).todo.contains r) && rankOf s r == (s.dom d).rank)
      = r :: l) :
    ∃ t, exec (.railSeqto d) s = .next t ∧ t = { s.msgs t with doms := t.doms } ∧ (t.dom d).seq = 0 ∧ (t.dom d).todo = [] ∧
      (t.dom d).issued = [] ∧ t.Waits 0x15 0 r := by
  obtain ⟨u, hu⟩ : ∃ u, u = s.begin.modDom d fun x => { x with seq := 0, todo := [], issued := [], wait := 0, age := 0 } := ⟨_, rfl⟩
  have hexec : exec (.railSeqto d) s = .next (event 0x15 r u) := by
    show Host.Outcome.next (clocked (railSeqto d) s.begin) = _
    rw [clocked_of_machinesRun hm, hu]
    have hgo : (!machinesRun s || (s.dom d).seq != 1 || decide ((s.dom d).age < fld (s.reg 0x0711) 23 0)) = false := by
      simp [hm, hseq, hage]
    have hopen' : (List.range 16).filter (fun r => ((s.begin.dom d).issued.contains r || (s.begin.dom d).todo.contains r) &&
      rankOf s.begin r == (s.begin.dom d).rank) = r :: l := hopen
    unfold railSeqto
    dsimp only
    rw [hopen']
    exact congrArg Host.Outcome.next (if_neg (Bool.eq_false_iff.1 hgo))
  have hdom : (event 0x15 r u).dom d = { s.dom d with seq := 0, todo := [], issued := [], wait := 0, age := 0 } := by
    rw [only_dom (event_only u 0x15 r), hu, dom_modDom_same _ _ _ d.isLt]
    rfl
  have ho : Only [.doms, .msgs] s.begin (event 0x15 r u) := hu ▸ only_then (modDom_only _ _ _) (event_only _ _ _)
  refine ⟨_, hexec, eq_take_of_only ho, ?_, ?_, ?_, event_waits 0x15 r ?_⟩
  · rw [hdom]
  · rw [hdom]
  · rw [hdom]
  · rw [hu]
    exact hruns.2

/-! ### The delays of a stop sequence (R185) -/

section
variable {d r n : Nat} {todo : List Nat} {s : State} (hr : r < 16)
include hr

/-- A count that has begun goes on. -/
theorem stopWaits_of_some (h : (s.dom d).stopWait.getD r none = some n) : (stopWaits s d todo).getD r none = some (satInc 1000000 n) := by
  unfold stopWaits
  rw [List.getD_eq_getElem?_getD, List.getElem?_map, List.getElem?_range hr]
  simp only [Option.map_some, Option.getD_some, h]

/-- A count begins once every rail above has stopped. -/
theorem stopWaits_of_none (h : (s.dom d).stopWait.getD r none = none) :
    (stopWaits s d todo).getD r none = if todo.contains r && aboveStopped s d r then some 0 else none := by
  unfold stopWaits
  rw [List.getD_eq_getElem?_getD, List.getElem?_map, List.getElem?_range hr]
  simp only [Option.map_some, Option.getD_some, h]

end

theorem aboveStopped_iff {d r : Nat} {s : State} : aboveStopped s d r = true ↔
    ∀ q ∈ railsOfDom s d, rankOf s q ≤ rankOf s r ∨ ((s.rail q).st.stopped = true ∧ (s.rail q).startPend = false) := by
  simp [aboveStopped]

end Sys2Proof.Machine

section
open Sys2Proof Sys2Proof.Machine

/-- Settles O20: how each sequence begins, by the writes of DOM_CMD, and its steps rail by rail. -/
theorem domainSequences : Obligations.DomainSequences := by
  refine ⟨fun h d s hs ht hne => domainStart_takes hs ht hne, fun h d s hs ht hseq => domainStop_takes hs ht hseq,
    fun r s hm hseq hmem hrank hdly hcan => sequenceRankStart_starts hm hseq hmem hrank hdly hcan,
    fun r n s hm hseq hmem hwait hdly hrun hst => sequenceRankStop_stops hm hseq hmem hwait hdly hrun hst,
    fun d s r l hruns hm hseq hage hopen => railSeqto_abandons hruns hm hseq hage hopen,
    fun d r todo s hr hnone hmem => ?_, fun d r n todo s hr hsome => stopWaits_of_some hr hsome⟩
  rw [stopWaits_of_none hr hnone]
  simp only [List.contains_iff_mem.2 hmem, Bool.true_and, aboveStopped_iff]
end
end

section
/-! PROOFS: LIMIT, the end of a stop by its timeout, and the following error (R178, R181, R187, R217). -/

-- The package as one text: its declarations are elaborated one after another, to hold few threads.
set_option Elab.async false

namespace Sys2Proof.Machine

/-! ### LIMIT is entered (R178) -/

section
variable {s : State} {r q : Nat}

/-- The rail comes under its limiter: its marks of that change, after an injection on it has ended. -/
def limitMarked (side r : Nat) (s : State) : State := (cupNow r s).modRail r fun x =>
  { x with st := .limit, frames := 0, limdir := side, limCnt := 0, shedCnt := 0, limOut := x.out, plL := some x.out, plV := none, dripCnt := 0 }

theorem limitMarked_only (side r : Nat) (s : State) : Only [.rails, .cup, .capt, .msgs] s (limitMarked side r s) :=
  only_then (cupNow_only s r) (modRail_only _ r _)

theorem limitMarked_other (side : Nat) (h : q ≠ r) : (limitMarked side r s).rail q = s.rail q := by
  unfold limitMarked
  rw [rail_modRail_ne _ _ _ _ h, only_rail (cupNow_only s r)]

theorem limitMarked_rail (side : Nat) (h : r < 16) : (limitMarked side r s).rail r =
    { s.rail r with st := .limit, frames := 0, limdir := side, limCnt := 0, shedCnt := 0, limOut := (s.rail r).out
                    plL := some (s.rail r).out, plV := none, dripCnt := 0 } := by
  unfold limitMarked
  rw [rail_modRail_same _ _ _ h, only_rail (cupNow_only s r)]

/-- What follows the marks are messages, RAIL_LIMIT among them. -/
theorem toLimit_messages (side r : Nat) (s : State) : Only [.msgs] (limitMarked side r s) (toLimit side r s) := by
  unfold toLimit
  exact only_trans (event_only _ _ _) (only_ite (event_only _ _ _) only_refl)

theorem toLimit_rail (side q : Nat) : (toLimit side r s).rail q = (limitMarked side r s).rail q := only_rail (toLimit_messages side r s) q

theorem toLimit_waits (side : Nat) (h : s.dev.clkStop = false) : (toLimit side r s).Waits 0x17 0 r := by
  have hstop : (limitMarked side r s).dev.clkStop = false := by rw [only_dev (limitMarked_only side r s), h]
  have hraised : (event 0x17 r (limitMarked side r s)).Waits 0x17 0 r := event_waits 0x17 r hstop
  have hstays : Stays (event 0x17 r (limitMarked side r s)) (toLimit side r s) := .ite (event_stays _ _ _) .refl
  exact hstays.waits _ _ _ hraised

end

/-- A complete count of clamped updates hands the rail to its limiter (R178, R181). -/
theorem limitEntry_enters {r : Fin 16} {s : State} (hruns : s.Runs) (hh : s.eng.haltReq = false) (hm : mayEnter s r = true)
    (hc : (s.rail r).limCnt ≠ 0) (hf : fld (s.rail r).limCfg 3 0 ≤ (s.rail r).limCnt) :
    ∃ t, exec (.limitEntry r) s = .next t ∧ OtherRails r s t ∧ (t.rail r).limdir = (s.rail r).limSide ∧ (t.rail r).limCnt = 0 ∧
      (t.rail r).limOut = (s.rail r).out ∧ (t.rail r).plL = some (s.rail r).out ∧ (t.rail r).plV = none ∧
      t.phases = s.phases ∧ t.bank = s.bank ∧
      ((s.rail r).st ≠ .stopping → (t.rail r).st = .limit ∧ t.Waits 0x17 0 r) ∧
      ((s.rail r).st = .stopping → (t.rail r).st = .stopping ∧ t = { s.begin with rails := t.rails }) := by
  have hexec : exec (.limitEntry r) s = .next (if (s.rail r).st == .stopping then
      s.begin.modRail r fun x => { x with limdir := x.limSide, limCnt := 0, limOut := x.out, plL := some x.out, plV := none }
      else toLimit (s.rail r).limSide r s.begin) := by
    show Host.Outcome.next (clocked (limitEntry r) s.begin) = _
    rw [next_clocked_of_runs hruns]
    have hgo : (!mayEnter s r || decide ((s.rail r).limCnt = 0) || decide ((s.rail r).limCnt < fld (s.rail r).limCfg 3 0) || s.eng.haltReq) =
        false := by
      simp [hm, hc, hf, hh]
    exact congrArg Host.Outcome.next (if_neg (Bool.eq_false_iff.1 hgo))
  rw [hexec]
  by_cases hst : (s.rail r).st = .stopping
  · rw [if_pos (by simp [hst])]
    obtain ⟨t, ht⟩ : ∃ t, t = s.begin.modRail r fun x =>
      { x with limdir := x.limSide, limCnt := 0, limOut := x.out, plL := some x.out, plV := none } := ⟨_, rfl⟩
    have hrail : t.rail r = { s.rail r with limdir := (s.rail r).limSide, limCnt := 0, limOut := (s.rail r).out
                                            plL := some (s.rail r).out, plV := none } := by
      rw [ht, rail_modRail_same _ _ _ r.isLt]
      rfl
    have ho : Only [.rails] s.begin t := ht ▸ modRail_only _ _ _
    have hph := only_phases ho
    have hbank := only_bank ho
    rw [← ht]
    refine ⟨t, rfl, fun q hq => ?_, ?_, ?_, ?_, ?_, ?_, hph, hbank, fun hn => absurd hst hn, fun _ => ⟨?_, eq_take_of_only ho⟩⟩
    · rw [ht, rail_modRail_ne _ _ _ _ hq]
      rfl
    all_goals rw [hrail]
    exact hst
  · rw [if_neg (by simpa using hst)]
    have ho := toLimit_only s.begin (s.rail r).limSide r
    have hph := only_phases ho
    have hbank := only_bank ho
    have hrail := (toLimit_rail (s := s.begin) (s.rail r).limSide r.val).trans (limitMarked_rail (s.rail r).limSide r.isLt)
    have hwaits := toLimit_waits (r := r) (s := s.begin) (s.rail r).limSide hruns.2
    have hother {q : Nat} (hq : q ≠ r) := (toLimit_rail (s := s.begin) (s.rail r).limSide q).trans (limitMarked_other (s.rail r).limSide hq)
    generalize toLimit (s.rail r).limSide r s.begin = t at *
    refine ⟨t, rfl, fun q hq => hother hq, ?_, ?_, ?_, ?_, ?_, hph, hbank, fun _ => ⟨?_, hwaits⟩, fun h => absurd h hst⟩
    all_goals rw [hrail]
    all_goals rfl

/-! ### RAIL_STOPTO (R181) -/

/-- The phases of a rail at rest drive nothing (R126, R172). -/
theorem pins_of_stopped_rail {s : State} {p r : Nat} (hs : scanned s = false) (hr : railOf s p = some r) (hst : (s.rail r).st.stopped = true) :
    pins s p = (.hiZ, .hiZ) := by
  refine pins_hiZ hs (.inr ?_)
  unfold gst
  dsimp only
  split
  · exact ⟨by decide, by decide⟩
  · rw [if_pos (by rw [hr]; simp [hst])]
    exact ⟨by decide, by decide⟩

/-- A stop that has lasted TMAX frames ends in OFF at once. -/
theorem railStopto_ends {r : Fin 16} {s : State} (hm : machinesRun s = true) (hst : (s.rail r).st = .stopping)
    (hf : fld (s.rr r 0x2E) 23 0 ≤ (s.rail r).frames) :
    ∃ t, exec (.railStopto r) s = .next t ∧ (t.rail r).st = .off ∧ t.Waits 0x16 0 r ∧ OtherRails r s t ∧
      (∀ p, railOf s p ≠ some r.val → t.ph p = s.ph p) ∧
      (scanned s = false → ∀ p, railOf s p = some r.val → p < 48 → pins t p = (.hiZ, .hiZ)) := by
  obtain ⟨t, ht⟩ : ∃ t, t = event 0x16 r (toOff r s.begin) := ⟨_, rfl⟩
  have hexec : exec (.railStopto r) s = .next t := by
    show Host.Outcome.next (clocked (railStopto r) s.begin) = _
    rw [clocked_of_machinesRun hm, ht]
    have hgo : ((s.rail r).st == .stopping && machinesRun s && decide (fld (s.rr r 0x2E) 23 0 ≤ (s.rail r).frames)) = true := by
      simp [hst, hm, hf]
    exact congrArg Host.Outcome.next (if_pos hgo)
  have hmoves : MovesRails [r.val] s.begin t := ht ▸ (toOff_moves List.mem_cons_self _).trans (.ofOnly (event_only _ _ _))
  have hoff : (t.rail r).st = .off := by
    rw [ht, only_rail (event_only _ _ _), toOff_st r.isLt]
  refine ⟨t, hexec, hoff, ?_, fun q hq => hmoves.rails q (by simpa using hq), fun p hp => ?_, fun hsc p hp h48 => ?_⟩
  · rw [ht]
    refine event_waits 0x16 r ?_
    rw [(toOff_moves (l := [r.val]) List.mem_cons_self s.begin).dev]
    exact (clocks_of_machinesRun hm).2
  · by_cases h48 : p < 48
    · exact hmoves.phases p h48 fun q hq => List.mem_singleton.1 hq ▸ hp
    · rw [ph_beyond _ _ (by omega), ph_beyond _ _ (by omega)]
  · have hscan : scanned t = false := by rw [scanned, hmoves.dev]; exact hsc
    exact pins_of_stopped_rail hscan ((hmoves.railOf h48).trans hp) (by rw [hoff]; rfl)

/-! ### The following error (R187) -/

section
variable {r : Fin 16} {s : State}

/-- The following error stands, or stands no longer, with the rail's mark of it. -/
def followMarked (on : Bool) (r : Nat) (s : State) : State := setCond 0x12 r on (s.modRail r fun x => { x with feact := on })

theorem followMarked_only (on : Bool) (r : Nat) (s : State) : Only [.rails, .msgs, .stand] s (followMarked on r s) :=
  only_then (modRail_only s r _) (setCond_only _ _ _ _)

theorem followMarked_other (on : Bool) {q r : Nat} (h : q ≠ r) : (followMarked on r s).rail q = s.rail q := by
  unfold followMarked
  rw [only_rail (setCond_only _ _ _ _), rail_modRail_ne _ _ _ _ h]

theorem followMarked_rail (on : Bool) {r : Nat} (h : r < 16) : (followMarked on r s).rail r = { s.rail r with feact := on } := by
  unfold followMarked
  rw [only_rail (setCond_only _ _ _ _), rail_modRail_same _ _ _ h]

theorem railFollow_sets (hm : machinesRun s = true) (hfe : (s.rail r).feact = false) (hc : fld (s.rr r 0x2B) 23 0 < (s.rail r).feCnt) :
    ∃ t, exec (.railFollow r) s = .next t ∧ t = { s.conds t with rails := t.rails } ∧ OtherRails r s t ∧ t.Stands 0x12 r ∧
      t.rail r = { s.rail r with feact := true } := by
  have hexec : exec (.railFollow r) s = .next (followMarked true r s.begin) := by
    show Host.Outcome.next (clocked (railFollow r) s.begin) = _
    rw [clocked_of_machinesRun hm]
    have hgo : (!(s.rail r).feact && decide (fld (s.rr r 0x2B) 23 0 < (s.rail r).feCnt) && machinesRun s) = true := by
      simp [hfe, hc, hm]
    exact congrArg Host.Outcome.next (if_pos hgo)
  exact ⟨_, hexec, eq_take_of_only (followMarked_only true r _), fun q hq => followMarked_other true hq, setCond_on_stand,
    followMarked_rail true r.isLt⟩

theorem followRearm_clears (hm : machinesRun s = true) (hfe : (s.rail r).feact = true) (hc : fld (s.rr r 0x2B) 23 0 ≤ (s.rail r).feIn) :
    ∃ t, exec (.followingErrorRearm r) s = .next t ∧ t = { s.conds t with rails := t.rails } ∧ OtherRails r s t ∧
      ¬ t.Stands 0x12 r ∧ t.rail r = { s.rail r with feact := false } := by
  have hexec : exec (.followingErrorRearm r) s = .next (followMarked false r s.begin) := by
    show Host.Outcome.next (clocked (followRearm r) s.begin) = _
    rw [clocked_of_machinesRun hm]
    have hgo : ((s.rail r).feact && decide (fld (s.rr r 0x2B) 23 0 ≤ (s.rail r).feIn) && machinesRun s) = true := by
      simp [hfe, hc, hm]
    exact congrArg Host.Outcome.next (if_pos hgo)
  exact ⟨_, hexec, eq_take_of_only (followMarked_only false r _), fun q hq => followMarked_other false hq, setCond_off_stand,
    followMarked_rail false r.isLt⟩

/-- What answers its state is not seen to be clocked. -/
theorem next_clocked_of_id {f : State → State} {u : State} (h : f u = u) : (.next (clocked f u) : Host.Outcome State Fault Refusal) = .next u := by
  unfold clocked
  rw [h, ite_self]

/-- Below its count the following error raises nothing. -/
theorem railFollow_idle (h : (s.rail r).feact = true ∨ (s.rail r).feCnt ≤ fld (s.rr r 0x2B) 23 0) : exec (.railFollow r) s = .next s.begin := by
  have hno : ¬ (!(s.rail r).feact && decide (fld (s.rr r 0x2B) 23 0 < (s.rail r).feCnt) && machinesRun s) = true := by
    rcases h with hfe | hc
    · simp [hfe]
    · simp [Nat.not_lt.2 hc]
  exact next_clocked_of_id (if_neg hno)

theorem followRearm_idle (h : (s.rail r).feact = false ∨ (s.rail r).feIn < fld (s.rr r 0x2B) 23 0) :
    exec (.followingErrorRearm r) s = .next s.begin := by
  have hno : ¬ ((s.rail r).feact && decide (fld (s.rr r 0x2B) 23 0 ≤ (s.rail r).feIn) && machinesRun s) = true := by
    rcases h with hfe | hc
    · simp [hfe]
    · simp [Nat.not_le.2 hc]
  exact next_clocked_of_id (if_neg hno)

end
end Sys2Proof.Machine

section
open Sys2Proof Sys2Proof.Machine

/-- Settles O43: the entry into LIMIT, the stop's timeout, and the two ends of the following error. -/
theorem limitStopAndFollowing : Obligations.LimitStopAndFollowing :=
  ⟨fun _ _ hruns hh hm hc hf => limitEntry_enters hruns hh hm hc hf, fun _ _ hm hst hf => railStopto_ends hm hst hf,
    fun _ _ hm hfe hc => railFollow_sets hm hfe hc, fun _ _ hm hfe hc => followRearm_clears hm hfe hc, fun _ _ h => railFollow_idle h,
    fun _ _ h => followRearm_idle h⟩
end
end

section
/-! PROOFS: restarts of FAULTED rails and their count (R183, R173, R347). -/

-- The package as one text: its declarations are elaborated one after another, to hold few threads.
set_option Elab.async false

namespace Sys2Proof.Machine

section
variable {s : State} {q r : Nat}

/-! ### A rail gives up, or goes to OFF (R183) -/

/-- The rail's marks once it gives up. -/
def gaveUp (r : Nat) (s : State) : State := s.modRail r fun x => { x with rstpend := false, rstDelay := none }

theorem restartGiveUp_eq (r : Nat) (s : State) : restartGiveUp r s = event 0x18 r (gaveUp r s) := rfl

theorem restartGiveUp_only (r : Nat) (s : State) : Only [.rails, .msgs] s (restartGiveUp r s) :=
  only_then (modRail_only s r _) (event_only _ _ _)

theorem restartGiveUp_rail (h : r < 16) : (restartGiveUp r s).rail r = { s.rail r with rstpend := false, rstDelay := none } := by
  rw [restartGiveUp_eq, only_rail (event_only _ _ _), gaveUp, rail_modRail_same _ _ _ h]

theorem restartGiveUp_other (h : q ≠ r) : (restartGiveUp r s).rail q = s.rail q := by
  rw [restartGiveUp_eq, only_rail (event_only _ _ _), gaveUp, rail_modRail_ne _ _ _ _ h]

theorem restartGiveUp_waits (h : s.dev.clkStop = false) : (restartGiveUp r s).Waits 0x18 0 r := event_waits 0x18 r h

/-- Of a rail that passes its checks the restart is counted, on the way to OFF. -/
theorem restartOne_passes (hr : r < 16) (hc : startChecks s r = true) : ((restartOne r s).rail r).st = .off ∧
    ((restartOne r s).rail r).nrst = satInc 15 (s.rail r).nrst ∧ ((restartOne r s).rail r).faultedBy = [] := by
  obtain ⟨hoff, -, hby, -⟩ := toOff_rail hr s
  unfold restartOne
  rw [if_pos hc, rail_modRail_same _ _ _ hr]
  exact ⟨hoff, rfl, hby⟩

theorem restartOne_fails (hc : startChecks s r = false) : restartOne r s = restartGiveUp r s := if_neg (Bool.eq_false_iff.1 hc)

theorem restartOne_only (r : Nat) (s : State) : Only stopParts s (restartOne r s) :=
  only_ite (only_then (toOff_only s r) (modRail_only _ r _)) (only_mono (restartGiveUp_only r s))

/-! ### A restart that is due -/

theorem machinesRun_of_due (h : restartDue s r = true) : machinesRun s = true := (Bool.and_eq_true_iff.1 h).2

theorem faulted_of_due (h : restartDue s r = true) : (s.rail r).st = .faulted := by
  simp only [restartDue, Bool.and_eq_true, beq_iff_eq] at h
  obtain ⟨⟨⟨⟨⟨hst, _⟩, _⟩, _⟩, _⟩, _⟩ := h
  exact hst

/-- A rail on its own is started again where its checks took it to OFF. -/
theorem automaticRestart_alone (hdue : restartDue s r = true) (hf : fscope s r = false) : automaticRestart r s =
    if ((restartOne r s).rail r).st == .off then startRail false 0 r (restartOne r s) else restartOne r s := by
  unfold automaticRestart
  rw [if_neg (by simp [hdue]), if_neg (by simp [hf])]

/-- With FSCOPE = 1 a sequence in progress is waited for (log entry 61). -/
theorem automaticRestart_waiting (hf : fscope s r = true) (hseq : (s.dom (domOf s r)).seq ≠ 0) : automaticRestart r s = s := by
  unfold automaticRestart
  by_cases hdue : restartDue s r = true
  · rw [if_neg (by simp [hdue]), if_pos hf]
    exact if_pos hseq
  · exact if_pos (by simpa using hdue)

/-! ### The rails that restart together (log entry 61) -/

/-- The rails of a domain with FSCOPE = 1 that are due, each restarted or given up, and those of them that are in OFF. -/
def dueRails (s : State) (d : Nat) : List Nat := (railsOfDom s d).filter fun q => fscope s q && restartDue s q
def restarted (d : Nat) (s : State) : State := (dueRails s d).foldl (fun s q => restartOne q s) s
def upRails (s : State) (d : Nat) : List Nat := (dueRails s d).filter fun q => ((restarted d s).rail q).st == .off

theorem dueRails_nodup (s : State) (d : Nat) : (dueRails s d).Nodup := (railsOfDom_nodup s d).filter _

theorem mem_dueRails {d : Nat} : q ∈ dueRails s d ↔ q < 16 ∧ domOf s q = d ∧ fscope s q = true ∧ restartDue s q = true := by
  simp [dueRails, mem_railsOfDom, and_assoc]

theorem restarted_moves (d : Nat) (s : State) : MovesRails (dueRails s d) s (restarted d s) :=
  .foldl (fun t _ ha => restartOne_moves ha t) s

/-- Each rail that is due and passes its checks goes to OFF with its restart counted: the others do not change its checks. -/
theorem restarted_passes {d : Nat} (hq : q ∈ dueRails s d) (hc : startChecks s q = true) :
    ((restarted d s).rail q).st = .off ∧ ((restarted d s).rail q).nrst = satInc 15 (s.rail q).nrst := by
  obtain ⟨h16, -, -, hdue⟩ := mem_dueRails.1 hq
  obtain ⟨m, u, hm, hmoves, hrail⟩ := MovesRails.foldl_at (fun t a => restartOne_moves List.mem_cons_self t) (dueRails_nodup s d) hq s
  have hstopped : (s.rail q).st.stopped = true := by rw [faulted_of_due hdue]; rfl
  obtain ⟨hoff, hn, -⟩ := restartOne_passes h16 ((hmoves.startChecks hm h16 hstopped).trans hc)
  rw [hmoves.rails q hm] at hn
  exact ⟨(congrArg Rail.st hrail).trans hoff, (congrArg Rail.nrst hrail).trans hn⟩

theorem automaticRestart_together (hdue : restartDue s r = true) (hf : fscope s r = true) (hseq : (s.dom (domOf s r)).seq = 0) :
    automaticRestart r s = beginStart (domOf s r) false true (upRails s (domOf s r)) (restarted (domOf s r) s) := by
  unfold automaticRestart
  rw [if_neg (by simp [hdue]), if_pos hf]
  exact if_neg (fun h => h hseq)

/-- The rails that restart together do so as one start sequence. -/
theorem beginStart_together {d : Nat} (hd : d < 4) (hq : q ∈ dueRails s d) (hc : startChecks s q = true) :
    let t := beginStart d false true (upRails s d) (restarted d s)
    (t.rail q).st = .off ∧ (t.rail q).nrst = satInc 15 (s.rail q).nrst ∧ (t.dom d).seq = 1 ∧
      (rankOf s q = 0 → (t.rail q).startPend = true) ∧ (rankOf s q ≠ 0 → q ∈ (t.dom d).todo) := by
  intro t
  obtain ⟨h16, -⟩ := mem_dueRails.1 hq
  obtain ⟨hoff, hn⟩ := restarted_passes hq hc
  have hup : q ∈ upRails s d := List.mem_filter.2 ⟨hq, by simp [hoff]⟩
  have hne : upRails s d ≠ [] := List.ne_nil_of_mem hup
  have hrank : rankOf (restarted d s) q = rankOf s q := (restarted_moves d s).rankOf h16
  obtain ⟨hseq, htodo, -⟩ := beginStart_dom (s := restarted d s) hne hd false true
  obtain ⟨g, hrail⟩ := beginStart_rail (s := restarted d s) (d := d) hne ((dueRails_nodup s d).filter _) h16 false true
  have hmem : (upRails s d).contains q = true := List.contains_iff_mem.2 hup
  refine ⟨?_, ?_, hseq, fun h0 => ?_, fun h0 => ?_⟩
  · rw [hrail]
    split <;> exact hoff
  · rw [hrail]
    split <;> exact hn
  · have hfirst : ((upRails s d).contains q && rankOf (restarted d s) q == 0) = true := by rw [hmem, hrank, h0]; rfl
    rw [hrail, if_pos hfirst]
  · rw [htodo]
    exact List.mem_filter.2 ⟨hup, by simp [hrank, h0]⟩

end

section
variable {r : Fin 16} {s : State}

/-! ### RESTART_DELAY_EXPIRY (R183) -/

/-- Once the delay is over, a rail that has used its restarts gives up. -/
theorem restartDelayExpiry_ends (hm : machinesRun s = true) (hst : (s.rail r).st = .faulted) (hp : (s.rail r).rstpend = true)
    (hd : (s.rail r).rstDelay = some 0) :
    ∃ t, exec (.restartDelayExpiry r) s = .next t ∧ t = { s.msgs t with rails := t.rails } ∧ OtherRails r s t ∧
      ((s.rail r).nmax ≤ (s.rail r).nrst → t.rail r = { s.rail r with rstpend := false, rstDelay := none } ∧ t.Waits 0x18 0 r) ∧
      ((s.rail r).nrst < (s.rail r).nmax → t.rail r = { s.rail r with rstDelay := none } ∧ t.fc = s.fc) := by
  have hexec : exec (.restartDelayExpiry r) s = .next (if (s.rail r).nmax ≤ (s.rail r).nrst then restartGiveUp r s.begin
      else s.begin.modRail r fun x => { x with rstDelay := none }) := by
    show Host.Outcome.next (clocked (restartDelayExpiry r) s.begin) = _
    rw [clocked_of_machinesRun hm]
    have hgo : ((s.rail r).st != .faulted || !(s.rail r).rstpend || (s.rail r).rstDelay != some 0 || !machinesRun s) = false := by
      simp [hm, hst, hp, hd]
    exact congrArg Host.Outcome.next (if_neg (Bool.eq_false_iff.1 hgo))
  rw [hexec]
  split
  · next hle =>
    exact ⟨_, rfl, eq_take_of_only (restartGiveUp_only _ _), fun q hq => restartGiveUp_other hq,
      fun _ => ⟨restartGiveUp_rail r.isLt, restartGiveUp_waits (clocks_of_machinesRun hm).2⟩, fun hlt => absurd hle (Nat.not_le.2 hlt)⟩
  · next hgt =>
    obtain ⟨t, ht⟩ : ∃ t, t = s.begin.modRail r fun x => { x with rstDelay := none } := ⟨_, rfl⟩
    have hrail : t.rail r = { s.rail r with rstDelay := none } := by
      rw [ht, rail_modRail_same _ _ _ r.isLt]
      rfl
    have ho : Only [.rails] s.begin t := ht ▸ modRail_only _ _ _
    have hfc : t.fc = s.fc := by rw [ht]; rfl
    rw [← ht]
    refine ⟨t, rfl, eq_take_of_only (only_mono ho (m := [.rails, .msgs])), fun q hq => ?_, fun hle => absurd hle hgt, fun _ => ⟨hrail, hfc⟩⟩
    rw [ht, rail_modRail_ne _ _ _ _ hq]
    rfl

/-! ### AUTOMATIC_RESTART (R183) -/

theorem exec_automaticRestart (hm : machinesRun s = true) : exec (.automaticRestart r) s = .next (automaticRestart r s.begin) := by
  show Host.Outcome.next (clocked (automaticRestart r) s.begin) = _
  rw [clocked_of_machinesRun hm]

theorem automaticRestart_passes (hdue : restartDue s r = true) (hf : fscope s r = false) (hc : startChecks s r = true) :
    ∃ t, exec (.automaticRestart r) s = .next t ∧ (t.rail r).st = .off ∧ (t.rail r).startPend = true ∧
      (t.rail r).nrst = satInc 15 (s.rail r).nrst ∧ (t.rail r).faultedBy = [] ∧ OtherRails r s t ∧
      t.nv.tdue = s.nv.tdue.set 6 (s.nv.tdue.getD 6 0 + 1) := by
  obtain ⟨u, hu⟩ : ∃ u, u = restartOne r s.begin := ⟨_, rfl⟩
  obtain ⟨hoff, hn, hby⟩ : (u.rail r).st = .off ∧ (u.rail r).nrst = satInc 15 (s.rail r).nrst ∧ (u.rail r).faultedBy = [] :=
    hu ▸ restartOne_passes r.isLt hc
  have hexec : exec (.automaticRestart r) s = .next (startRail false 0 r u) := by
    rw [exec_automaticRestart (machinesRun_of_due hdue), automaticRestart_alone (s := s.begin) hdue hf, ← hu, if_pos (by simp [hoff])]
  have hmoves : MovesRails [r.val] s.begin u := hu ▸ restartOne_moves List.mem_cons_self _
  have hmoves' := hmoves.trans (startRail_moves List.mem_cons_self false 0 u)
  have hrail := (startRail_rail false 0 r r u).trans (rail_modRail_same _ _ _ r.isLt)
  have hnv : u.nv = s.begin.nv := hu ▸ only_nv (restartOne_only r s.begin)
  refine ⟨_, hexec, ?_, ?_, ?_, ?_, fun q hq => hmoves'.rails q (by simpa using hq), ?_⟩
  · exact (congrArg Rail.st hrail).trans hoff
  · exact congrArg Rail.startPend hrail
  · exact (congrArg Rail.nrst hrail).trans hn
  · exact (congrArg Rail.faultedBy hrail).trans hby
  · rw [(startRail_nv false 0 r u).1, hnv]
    rfl

theorem automaticRestart_fails (hdue : restartDue s r = true) (hf : fscope s r = false) (hc : startChecks s r = false) :
    ∃ t, exec (.automaticRestart r) s = .next t ∧ t = { s.msgs t with rails := t.rails } ∧ OtherRails r s t ∧
      t.rail r = { s.rail r with rstpend := false, rstDelay := none } ∧ t.Waits 0x18 0 r := by
  have hone : restartOne r s.begin = restartGiveUp r s.begin := restartOne_fails hc
  have hrail : (restartGiveUp r s.begin).rail r = { s.rail r with rstpend := false, rstDelay := none } := restartGiveUp_rail r.isLt
  have hexec : exec (.automaticRestart r) s = .next (restartGiveUp r s.begin) := by
    rw [exec_automaticRestart (machinesRun_of_due hdue), automaticRestart_alone (s := s.begin) hdue hf, hone, if_neg]
    rw [hrail, faulted_of_due hdue]
    decide
  exact ⟨_, hexec, eq_take_of_only (restartGiveUp_only _ _), fun q hq => restartGiveUp_other hq, hrail,
    restartGiveUp_waits (clocks_of_machinesRun (machinesRun_of_due hdue)).2⟩

theorem automaticRestart_sequence (hdue : restartDue s r = true) (hf : fscope s r = true) (hseq : (s.dom (domOf s r)).seq = 0) :
    ∃ t, exec (.automaticRestart r) s = .next t ∧
      ∀ q < 16, domOf s q = domOf s r → fscope s q = true → restartDue s q = true → startChecks s q = true →
        (t.rail q).st = .off ∧ (t.rail q).nrst = satInc 15 (s.rail q).nrst ∧ (t.dom (domOf s r)).seq = 1 ∧
        (rankOf s q = 0 → (t.rail q).startPend = true) ∧ (rankOf s q ≠ 0 → q ∈ (t.dom (domOf s r)).todo) := by
  have hexec := (exec_automaticRestart (r := r) (machinesRun_of_due hdue)).trans
    (congrArg Host.Outcome.next (automaticRestart_together (s := s.begin) hdue hf hseq))
  refine ⟨_, hexec, fun q h16 hdom hfq hdq hcq => ?_⟩
  exact beginStart_together (s := s.begin) (domOf_lt s r) (mem_dueRails.2 ⟨h16, hdom, hfq, hdq⟩) hcq

end
end Sys2Proof.Machine

section
open Sys2Proof Sys2Proof.Machine

/-- Settles O44: a delay that ends, a rail restarted on its own, and the rails of a domain restarted as one sequence. -/
theorem restartsAreCounted : Obligations.RestartsAreCounted :=
  ⟨fun _ _ hm hst hp hd => restartDelayExpiry_ends hm hst hp hd, fun _ _ hdue hf hc => automaticRestart_passes hdue hf hc,
    fun _ _ hdue hf hc => automaticRestart_fails hdue hf hc, fun _ s hf hseq => next_clocked_of_id (automaticRestart_waiting (s := s.begin) hf hseq),
    fun _ _ hdue hf hseq => automaticRestart_sequence hdue hf hseq⟩
end
end
